-- ==== Sys2Proof/Word.lean ====
section
/-! DEFINITION. Sys2Proof/Word.lean: the word and byte types, clamping and saturating arithmetic (00, Conventions), and the
fixed-size containers that name the part's three webs, three encoders, four inks and groups of eight. -/

namespace Sys2Proof

/-- A 32-bit bus word (00, Memory). -/
abbrev Word := BitVec 32

/-- A byte of the instrument link (08 R152). -/
abbrev Byte := BitVec 8

/-- `clamp(x, lo, hi)` of 00, Arithmetic, on integers. -/
def clampZ (x lo hi : Int) : Int := max lo (min x hi)

/-- `clamp(x, lo, hi)` of 00, Arithmetic, on natural numbers. -/
def clampN (x lo hi : Nat) : Nat := max lo (min x hi)

/-- Addition of `d` to a counter that saturates at `top`. -/
def satAdd (top x d : Nat) : Nat := min top (x + d)

/-- The largest 32-bit value, FFFFFFFFh. -/
def max32 : Nat := 4294967295

/-- One value for each of the three webs (06, chapter head). -/
structure Webs (α : Type) where
  paper : α
  fabric : α
  tissue : α
  deriving DecidableEq, Repr

/-- One value for each of the three web encoders (01 R6). -/
structure Encs (α : Type) where
  paper : α
  infeed : α
  drum : α
  deriving DecidableEq, Repr

/-- One value for each ink channel, in the order C, M, Y, K (00, Channels and names). -/
structure Ink (α : Type) where
  c : α
  m : α
  y : α
  k : α
  deriving DecidableEq, Repr

/-- Eight values numbered 0 to 7: the drum zones (05 R86) and the profile slots (04 R70). -/
structure Oct (α : Type) where
  z0 : α
  z1 : α
  z2 : α
  z3 : α
  z4 : α
  z5 : α
  z6 : α
  z7 : α
  deriving DecidableEq, Repr

/-- The eight values as a list, number 0 first. -/
def Oct.toList {α : Type} (o : Oct α) : List α := [o.z0, o.z1, o.z2, o.z3, o.z4, o.z5, o.z6, o.z7]

/-- Value number `i`. -/
def Oct.get {α : Type} (o : Oct α) : Fin 8 → α
  | 0 => o.z0 | 1 => o.z1 | 2 => o.z2 | 3 => o.z3
  | 4 => o.z4 | 5 => o.z5 | 6 => o.z6 | 7 => o.z7

/-- Replace value number `i`. -/
def Oct.set {α : Type} (o : Oct α) (i : Fin 8) (a : α) : Oct α :=
  match i with
  | 0 => { o with z0 := a } | 1 => { o with z1 := a } | 2 => { o with z2 := a } | 3 => { o with z3 := a }
  | 4 => { o with z4 := a } | 5 => { o with z5 := a } | 6 => { o with z6 := a } | 7 => { o with z7 := a }

/-- The eight values of a function of the number. -/
def Oct.ofFn {α : Type} (f : Fin 8 → α) : Oct α := ⟨f 0, f 1, f 2, f 3, f 4, f 5, f 6, f 7⟩

/-- Eight copies of one value. -/
def Oct.fill {α : Type} (a : α) : Oct α := ⟨a, a, a, a, a, a, a, a⟩

/-- Apply a function to each of the eight values. -/
def Oct.map {α β : Type} (f : α → β) (o : Oct α) : Oct β :=
  ⟨f o.z0, f o.z1, f o.z2, f o.z3, f o.z4, f o.z5, f o.z6, f o.z7⟩

/-- Apply a function to each of the three values. -/
def Webs.map {α β : Type} (f : α → β) (w : Webs α) : Webs β := ⟨f w.paper, f w.fabric, f w.tissue⟩

/-- The three values as a list, in the order PAPER, FABRIC, TISSUE. -/
def Webs.toList {α : Type} (w : Webs α) : List α := [w.paper, w.fabric, w.tissue]

/-- Apply a function to each of the four values. -/
def Ink.map {α β : Type} (f : α → β) (q : Ink α) : Ink β := ⟨f q.c, f q.m, f q.y, f q.k⟩

/-- The four values as a list, in the order C, M, Y, K. -/
def Ink.toList {α : Type} (q : Ink α) : List α := [q.c, q.m, q.y, q.k]

end Sys2Proof
end

