-- ==== Sys2Proof/Config.lean ====
section
/-! DEFINITION. Sys2Proof/Config.lean: what the part fixes (00, Capacities) and the one value the manual leaves free. -/

namespace Sys2Proof.Config

/-- The Band Track holds at most 96 records (01 R3). -/
def trackMax : Nat := 96

/-- The row buffer has 32 row slots (02 R32). -/
def slotMax : Nat := 32

/-- The splice list holds at most 4 entries (01 R14). -/
def spliceMax : Nat := 4

/-- The Outstanding Trigger List holds at most 4 entries (08 R156). -/
def triggerMax : Nat := 4

/-- A pass-over count of 8 guards a client (10 R185). -/
def passOverMax : Nat := 8

/-- FREE VALUE (log entry 3): whether, of a splice's removal (01 R16) and a band's drum entry (01 R9, R15) that one pulse brings
about together, the removal is taken first. The manual gives no order, so this has no body. -/
opaque removalFirst : Nat → Bool

end Sys2Proof.Config
end

