-- ==== Sys2Proof/Syntax.lean ====
section
/-! DEFINITION. Sys2Proof/Syntax.lean: the commands of the SL460, one constructor per row of spec/opcode_table.json, with what
the rules say arrives with each. -/

namespace Sys2Proof

/-- The three web encoders (01 R6). -/
inductive EncoderId where
  | paper | infeed | drum
  deriving DecidableEq, Repr

/-- The three webs (06, chapter head). -/
inductive WebId where
  | paper | fabric | tissue
  deriving DecidableEq, Repr

/-- The presence and ready lines of the 16 head links, bit n for link n (02 R40). -/
structure HeadLines where
  present : BitVec 16
  ready : BitVec 16
  deriving DecidableEq, Repr

/-- The input lines the part reads as levels while it acts: the head links (02 R40) and the encoders' broken-line flags (06 R114). They
come with every command in which one of them may be read, as they stand at that moment (log entry 31). -/
structure Lines where
  head : HeadLines
  broken : Encs Bool
  deriving DecidableEq, Repr

/-- What one zone temperature channel delivers at a heat sample (05 R87). -/
structure Channel where
  value : BitVec 16
  fault : Bool
  deriving DecidableEq, Repr

/-- What one load cell delivers at a tension sample (06 R127). -/
structure LoadCell where
  count : BitVec 16
  fault : Bool
  deriving DecidableEq, Repr

/-- The commands: one constructor per row of spec/opcode_table.json. `ws` are the words a read burst delivers as it ends. -/
inductive Instr where
  /-- RUN: a LINECTL write with the RUN bit alone (06 R114, 10 R182). -/
  | run (lines : Lines)
  /-- STOP: a LINECTL write with the STOP bit alone (06 R116). -/
  | stop
  /-- CLEAR_TRIP: a LINECTL write with the CLEAR_TRIP bit alone (06 R120). -/
  | clearTrip (lines : Lines)
  /-- GO_CHAIN: a LINECTL write with the GO_CHAIN bit alone (09 R170). -/
  | goChain
  /-- HALT_CHAIN: a LINECTL write with the HALT_CHAIN bit alone (09 R170). -/
  | haltChain
  /-- SOFT_RESET: a LINECTL write with the SOFT_RESET bit (10 R190). -/
  | softReset
  /-- CHAINHEAD_WRITE: a whole-word write (10 R181). -/
  | chainheadWrite (v : Word)
  /-- PROGBASE_WRITE: a whole-word write (10 R181). -/
  | progbaseWrite (v : Word)
  /-- NOTICE_WRITE: a whole-word write (10 R183). -/
  | noticeWrite (v : Word)
  /-- NOTICEMASK_WRITE: a whole-word write (10 R184). -/
  | noticemaskWrite (v : Word)
  /-- PORTCFG_WRITE: a whole-word write (10 R181). -/
  | portcfgWrite (v : Word)
  /-- REGISTER_WRITE: any write access to the window: offset, number of bytes written, value (10 R181, R182). -/
  | registerWrite (offset : Nat) (bytes : Nat) (v : Word) (lines : Lines)
  /-- POWER_GOOD_LOW (10 R189): how many words the burst in progress had moved (log entry 38). -/
  | powerGoodLow (moved : Nat)
  /-- POWER_GOOD_RISE (10 R189). -/
  | powerGoodRise
  /-- MAINS_OK_LOSS (06 R121). -/
  | mainsOkLoss
  /-- MAINS_OK_RETURN (06 R121). -/
  | mainsOkReturn
  /-- CONFIGURE: the step of a CONFIGURE ticket that is due (09 R175). -/
  | configure (ws : List Word)
  /-- SET_HEAT: the step of a SET_HEAT ticket that is due (05 R89). -/
  | setHeat (ws : List Word)
  /-- SET_TENSION: the step of a SET_TENSION ticket that is due (06 R131). -/
  | setTension (ws : List Word)
  /-- SET_SPEED: the step of a SET_SPEED ticket that is due (06 R113). -/
  | setSpeed (ws : List Word)
  /-- LOAD_PROFILE: the step of a LOAD_PROFILE ticket that is due (04 R73). -/
  | loadProfile (ws : List Word)
  /-- SEGMENT: the step of a SEGMENT ticket that is due (02 R29). -/
  | segment (ws : List Word) (lines : Lines)
  /-- END_SEGMENT: the step of an END_SEGMENT ticket that is due (02 R46). -/
  | endSegment (ws : List Word)
  /-- STOP_TICKET: the step of a STOP ticket that is due (06 R118). -/
  | stopTicket (ws : List Word)
  /-- REPORT: the step of a REPORT ticket that is due (09 R176). -/
  | report (ws : List Word)
  /-- REPORT_WRITE_DONE: the last burst of a snapshot write ends (09 R176). -/
  | reportWriteDone
  /-- ENCODER_PULSE: a pulse of one encoder, forward or reverse (01 R6). -/
  | encoderPulse (e : EncoderId) (forward : Bool) (lines : Lines)
  /-- SPLICE_PULSE (01 R14). -/
  | splicePulse
  /-- MARK_READ: code, check result OK, read position in nm (07 R138). -/
  | markRead (code : Byte) (checkOk : Bool) (position : Nat)
  /-- LOCK_ACQUIRED (07 R145). -/
  | lockAcquired
  /-- LOCK_LOST (07 R145). -/
  | lockLost
  /-- BAND_START: the conditions of 02 R36 are tested. -/
  | bandStart (lines : Lines)
  /-- ROW_ARRIVED: the last words of a row fetch arrive (02 R33). -/
  | rowArrived (ws : List Word) (lines : Lines)
  /-- HEAT_SAMPLE: eight temperature channels (05 R93). -/
  | heatSample (channels : Oct Channel)
  /-- ZONE_RECOVERY of one zone (05 R97). -/
  | zoneRecovery (z : Fin 8)
  /-- DRUM_SETTLED (05 R98). -/
  | drumSettled
  /-- RAMP_STEP (05 R92). -/
  | rampStep
  /-- TENSION_SAMPLE: three load cells (06 R126). -/
  | tensionSample (cells : Webs LoadCell) (lines : Lines)
  /-- WEB_FAULT of one web (06 R129). -/
  | webFault (w : WebId)
  /-- LINE_RUNNING (06 R115). -/
  | lineRunning (lines : Lines)
  /-- SPEED_ZERO (06 R112, R117). -/
  | speedZero (lines : Lines)
  /-- STRETCH_UPDATE (06 R134). -/
  | stretchUpdate
  /-- NIP_SWITCH_CHANGE: the levels of both switches after the change (06 R123). -/
  | nipSwitchChange (openSw closedSw : Bool) (lines : Lines)
  /-- NIP_TRAVEL_TIMEOUT (06 R123). -/
  | nipTravelTimeout
  /-- NIP_HOLD_EXPIRY (06 R125). -/
  | nipHoldExpiry
  /-- ENCODER_LOSS of one encoder (06 R135). -/
  | encoderLoss (e : EncoderId)
  /-- STATUS_FRAME: the byte that completes an accepted STATUS frame (08 R153, R154). -/
  | statusFrame (b : Byte)
  /-- REPLY_FRAME: the byte that completes an accepted REPLY frame (08 R153, R158). -/
  | replyFrame (b : Byte)
  /-- BAD_FRAME: a byte that discards a frame, with its framing error (08 R152, R153). -/
  | badFrame (b : Byte) (framing : Bool)
  /-- FRAME_BYTE_GAP (08 R152). -/
  | frameByteGap
  /-- INSTRUMENT_SILENCE (08 R154). -/
  | instrumentSilence
  /-- TRIGGER_TIMEOUT (08 R160). -/
  | triggerTimeout
  /-- MEASURE_SENT (08 R155). -/
  | measureSent
  /-- DRIFT_SET (08 R162). -/
  | driftSet
  /-- DRIFT_CLEAR (08 R162). -/
  | driftClear
  /-- CHAIN_POLL (09 R174). -/
  | chainPoll (lines : Lines)
  /-- TICKET_READ_DONE: the last burst of a header, link or body read ends (09 R171, R172). -/
  | ticketReadDone (ws : List Word) (lines : Lines)
  /-- HEADER_WRITE_DONE: a ticket header write completes (09 R168, R172). -/
  | headerWriteDone
  /-- PROFILE_COPY_DONE: the last words of a profile image arrive (04 R75). -/
  | profileCopyDone (ws : List Word)
  /-- RECORD_WRITE_DONE: a band-record write completes (01 R19). -/
  | recordWriteDone
  /-- COUNTS_WRITE_DONE: a counts write completes (01 R20). -/
  | countsWriteDone (lines : Lines)
  /-- BURST_END: the burst in progress ends without error (10 R185). -/
  | burstEnd (ws : List Word) (lines : Lines)
  /-- BUS_ERROR: the burst in progress ends with an error after `moved` words (10 R186). -/
  | busError (moved : Nat) (lines : Lines)
  /-- PROGRESS_TIMER (10 R187). -/
  | progressTimer
  /-- PROGRESS_WRITE_DONE: the last burst of a progress block write ends (10 R188). -/
  | progressWriteDone
  /-- SOFT_RESET_COMPLETE (10 R190). -/
  | softResetComplete
  /-- LINK_BYTE: a byte on the instrument UART, with its framing error (08 R152). -/
  | linkByte (b : Byte) (framing : Bool)
  deriving DecidableEq, Repr

end Sys2Proof
end

