-- ==== Sys2Proof/WellFormed.lean ====
section
/-! DEFINITION. Sys2Proof/WellFormed.lean: which command terms the outside can send at all. A command that fails its check is
one no wire carries; exec gives it a meaning all the same, so nothing rests on the check. -/

namespace Sys2Proof

/-- A burst delivers at most 16 words, the largest burst limit (10 R181). -/
def burstOk (ws : List Word) : Bool := ws.length ≤ 16

/-- The checks on a command's operands:
* a burst delivers at most 16 words (10 R181), and a failed one moved fewer than 16 before its error (10 R186),
  one cut off by POWER_GOOD at most 16 (10 R189);
* a register access lies in the 32-byte window on a register's offset and writes 1 to 4 bytes (10, 10.1);
* a read position is a 64-bit count (01 R6, 07 R138). -/
def Instr.wf : Instr → Bool
  | .configure ws | .setHeat ws | .setTension ws | .setSpeed ws | .loadProfile ws | .segment ws _ | .endSegment ws
  | .stopTicket ws | .report ws | .rowArrived ws _ | .ticketReadDone ws _ | .profileCopyDone ws | .burstEnd ws _ => burstOk ws
  | .busError n _ => n < 16
  | .powerGoodLow n => n ≤ 16
  | .registerWrite off bytes _ _ => off < 32 && off % 4 == 0 && 1 ≤ bytes && bytes ≤ 4
  | .markRead _ _ p => p < 2 ^ 64
  | .run _ | .stop | .clearTrip _ | .goChain | .haltChain | .softReset | .chainheadWrite _ | .progbaseWrite _ | .noticeWrite _
  | .noticemaskWrite _ | .portcfgWrite _ | .powerGoodRise | .mainsOkLoss | .mainsOkReturn
  | .reportWriteDone | .encoderPulse _ _ _ | .splicePulse | .lockAcquired | .lockLost | .bandStart _ | .heatSample _
  | .zoneRecovery _ | .drumSettled | .rampStep | .tensionSample _ _ | .webFault _ | .lineRunning _ | .speedZero _
  | .stretchUpdate | .nipSwitchChange _ _ _ | .nipTravelTimeout | .nipHoldExpiry | .encoderLoss _ | .statusFrame _
  | .replyFrame _ | .badFrame _ _ | .frameByteGap | .instrumentSilence | .triggerTimeout | .measureSent | .driftSet
  | .driftClear | .chainPoll _ | .headerWriteDone | .recordWriteDone | .countsWriteDone _ | .progressTimer
  | .progressWriteDone | .softResetComplete | .linkByte _ _ => true

end Sys2Proof
end

