-- ==== Sys2Proof/Decode.lean ====
section
/-! DEFINITION. Sys2Proof/Decode.lean: what the opcode table's bits spell. -/

namespace Sys2Proof

/-- The command a table word spells. The opcode table gives bits and fields to none of its rows: a command of this block is an
event, not a word. So no word spells one. -/
def decodeTableWord (_nbits _w : Nat) : Option Instr := none

end Sys2Proof
end

