-- ==== Sys2Proof/Machine/State.lean ====
section
/-! DEFINITION. Sys2Proof/Machine/State.lean: every piece of state the manual gives the SL460, block by block, as plain data, and
the state after power-up reset. -/

namespace Sys2Proof.Machine

/-! ## State sets (00, State sets used throughout) -/

/-- Line states (06 R111), in the order LINESTAT codes them. -/
inductive LineState where
  | stopped | starting | running | draining | stopping | tripped | powerStop | powerHeld
  deriving DecidableEq, Repr

/-- Kinds of stop while the line is STOPPING (06 R111). -/
inductive StopKind where
  | normal | fast
  deriving DecidableEq, Repr

/-- Drum states (05 R98). -/
inductive DrumState where
  | cold | heating | atTemp | deviation | tripped
  deriving DecidableEq, Repr

/-- Zone states (05 R86). -/
inductive ZoneState where
  | off | regulate | lost
  deriving DecidableEq, Repr

/-- Nip states (06 R123); `opened` is OPEN. -/
inductive NipState where
  | opened | closing | closed | opening | fault
  deriving DecidableEq, Repr

/-- Raster states (02 R30). -/
inductive RasterState where
  | idle | priming | printing | between
  deriving DecidableEq, Repr

/-- Reader states (09 R169). -/
inductive ReaderState where
  | idle | reading | waiting | executing | holding | paused | stalled
  deriving DecidableEq, Repr

/-- Band states (01, 1.4). -/
inductive BandState where
  | printing | travelling | onDrum | pastDrum | awaiting | clearing | finished
  deriving DecidableEq, Repr

/-- Lock states (07 R145). -/
inductive LockState where
  | search | locked | lost
  deriving DecidableEq, Repr

/-- Verdicts (01 R18). -/
inductive Verdict where
  | good | suspect | reject | void
  deriving DecidableEq, Repr

/-- Band kinds (01 R1). -/
inductive BandKind where
  | printed | void
  deriving DecidableEq, Repr

/-- Band flags, in the order of word 7 of a band record (11, 11.3). -/
inductive Flag where
  | underrun | headMiss | truncated | stopExposed | zoneLost | doseLow | doseHigh | splice | markMissed | markMismatch
  | unmeasured | colourFail
  deriving DecidableEq, Repr

/-- Start-refused causes (06 R114, 10 R181). -/
inductive StartCause where
  | none | drumNotReady | tripped | nipNotOpen | sensor | power
  deriving DecidableEq, Repr

/-- Ticket kinds (11, 11.1). -/
inductive TicketKind where
  | configure | setHeat | setTension | setSpeed | loadProfile | segment | endSegment | stop | report
  deriving DecidableEq, Repr

/-- Ticket status codes (11, 11.1). -/
inductive Status where
  | ok | short | invalidKind | badField | busy | noProfile | badProfile | badGeometry | startRefused | abortedTrip | reset
  | portError | noSegment
  deriving DecidableEq, Repr

/-- Ticket states the SL460 writes (09 R167). -/
inductive TicketState where
  | taken | printed | done | failed | skipped
  deriving DecidableEq, Repr

/-- Instrument status (08 R154). -/
inductive InstrumentStatus where
  | ready | notReady | cal
  deriving DecidableEq, Repr

/-- LOCK and DRIFT edge modes (09 R175). -/
inductive EdgeMode where
  | onset | both
  deriving DecidableEq, Repr

/-- Mark counter sources (07 R148). -/
inductive CounterSource where
  | missed | mismatch | both
  deriving DecidableEq, Repr

/-- Mark counter modes (07 R149). -/
inductive CounterMode where
  | manual | auto
  deriving DecidableEq, Repr

/-- The end pending of a segment (02 R46, R48). -/
inductive EndPending where
  | none | atBoundary | now | drain
  deriving DecidableEq, Repr

/-- Chain step (09 R169). -/
inductive ChainStep where
  | header | link
  deriving DecidableEq, Repr

/-- Notice causes, in the bit order of NOTICE (10, 10.1). -/
inductive Notice where
  | ticket | line | drum | tension | lock | drift | underrun | port | counter | power
  deriving DecidableEq, Repr

/-- Nip valve commands (06 R122). -/
inductive Valve where
  | opening | closing
  deriving DecidableEq, Repr

/-- Port clients, in the order of their priority (10 R185). -/
inductive Client where
  | row | write | read | copy
  deriving DecidableEq, Repr

/-- Stages of a soft reset (10 R190): none in progress; the stop; BT completing a retirement (01 R25, step 1); TR waiting for the
header writes in flight (09 R180, step 2); BT finalising every tally (01 R25, step 3); TR's final-state writes ending, before it is
IDLE and MR is in SEARCH (09 R180, steps 3 to 5, log entry 64); the other writes of stage 2 ending. -/
inductive SoftStage where
  | off | stopping | retiring | writing | finalising | closing | settling
  deriving DecidableEq, Repr

/-! ## CONFIGURE values -/

/-- The CONFIGURE values in force (09 R175). Encoder scales are in 1/65536 nm per pulse; the other units are the manual's. -/
structure Settings where
  scale : Encs Nat
  dpm : Nat
  dpn : Nat
  w : Nat
  dxi : Nat
  fn : Nat
  pnom : Nat
  leadRows : Nat
  nipCloseSpeed : Nat
  nipTravel : Nat
  nipHoldLimit : Nat
  stopDecel : Nat
  markWindow : Nat
  counterSource : CounterSource
  counterMode : CounterMode
  triggerTimeout : Nat
  encoderTimeout : Nat
  lockEdge : EdgeMode
  driftEdge : EdgeMode
  deriving DecidableEq, Repr

/-! ## Shared Memory Port -/

/-- What a header write is for, which decides what follows its completion (09 R168, R172 to R174b). -/
inductive HeaderRole where
  /-- The TAKEN write of a ticket of this kind. -/
  | take (kind : TicketKind)
  /-- A final-state write of the ticket TR is taking or executing; TR goes on to its link. -/
  | close
  /-- A PRINTED or final-state write of a SEGMENT; `own` when TR waits for it before it reads on (09 R174b). -/
  | segment (own : Bool)
  deriving DecidableEq, Repr

/-- A ticket header write: word 2 of the header (09 R167). `repeating` once it has ended with a bus error (09 R168). -/
structure HeaderWrite where
  state : TicketState
  status : Status
  detail : Nat
  notify : Bool
  role : HeaderRole
  repeating : Bool
  deriving DecidableEq, Repr

/-- Why a counts write is made (01 R20, R22). -/
inductive CountsFor where
  /-- Part of the retirement in progress. -/
  | retirement
  /-- Part of finalising the tally entry with this handle. -/
  | finalise (tally : Nat)
  deriving DecidableEq, Repr

/-- The transfers of clients 2, 3 and 4 (10, 10.3). -/
inductive TransferKind where
  | headerWrite (h : HeaderWrite)
  | recordWrite
  | countsWrite (why : CountsFor)
  | headerRead
  | linkRead
  | bodyRead
  | progress
  | profileCopy
  | reportWrite
  deriving DecidableEq, Repr

/-- A queued transfer: its first word's address, how many of its words have moved, how many are still to move, and the words
it writes or has read so far. -/
structure Transfer where
  kind : TransferKind
  addr : Nat
  moved : Nat
  left : Nat
  words : List Word
  deriving DecidableEq, Repr

/-- The burst in progress (10 R185); `dropped` once its transfer has been abandoned. -/
structure Grant where
  client : Client
  words : Nat
  dropped : Bool
  deriving DecidableEq, Repr

/-- A pass-over count for each client (10 R185). -/
structure PassOver where
  row : Nat
  write : Nat
  read : Nat
  copy : Nat
  deriving DecidableEq, Repr

/-- The Shared Memory Port (10). LINECTL reads 0 and LINESTAT is computed, so neither is held. -/
structure Port where
  chainHead : Word
  progBase : Word
  notice : BitVec 10
  noticeMask : BitVec 10
  burstLimit : Nat
  pollPeriod : Nat
  writes : List Transfer
  reads : List Transfer
  copies : List Transfer
  grant : Option Grant
  passOver : PassOver
  updateCount : Word
  progTimer : Nat
  soft : SoftStage
  deriving DecidableEq, Repr

/-! ## Ticket Reader -/

/-- How far TR has come with a ticket (09 R172, R173): its checks are running, its TAKEN write is outstanding, its block has it,
or its final-state write has been made. -/
inductive TicketPhase where
  | checking | taken | handed | final
  deriving DecidableEq, Repr

/-- The ticket TR is taking or executing (09, chapter head). -/
structure Ticket where
  addr : Nat
  kind : TicketKind
  notify : Bool
  serial : Word
  body : List Word
  phase : TicketPhase
  deriving DecidableEq, Repr

/-- The Ticket Reader (09). -/
structure Reader where
  reader : ReaderState
  pos : Nat
  step : ChainStep
  ticket : Option Ticket
  awaitSeg : Option Nat
  haltReq : Bool
  pauseReq : Bool
  pollRunning : Bool
  pollElapsed : Nat
  pollInForce : Nat
  deriving DecidableEq, Repr

/-! ## Raster Engine -/

/-- The segment context (02 R28, R29): the ticket's fields, its tally entry and the bands created. -/
structure Segment where
  tally : Nat
  addr : Nat
  base : Nat
  stride : Nat
  width : Nat
  rows : Nat
  bandRows : Nat
  count : Nat
  first : Nat
  slot : Fin 8
  patch : Nat
  autoStart : Bool
  testMark : Bool
  voids : List Nat
  created : Nat
  deriving DecidableEq, Repr

/-- The current band context (02, chapter head). -/
structure BandContext where
  number : Nat
  index : Nat
  kind : BandKind
  l0 : Nat
  p : Nat
  next : Nat
  blank : Bool
  deriving DecidableEq, Repr

/-- An occupied row slot (02 R32): the band index and row it holds, its repeat row, the pixel words that have arrived, and
whether all have. -/
structure RowSlot where
  band : Nat
  row : Nat
  repeatRow : Nat
  words : List Word
  complete : Bool
  deriving DecidableEq, Repr

/-- The Raster Engine (02). `slots` are the occupied slots, oldest first. -/
structure Raster where
  raster : RasterState
  seg : Option Segment
  ending : EndPending
  band : Option BandContext
  slots : List RowSlot
  fetchOn : Bool
  fetchBand : Nat
  fetchRow : Nat
  printEnd : Nat
  lastStarted : Nat
  serial : Word
  lowWater : Nat
  underruns : Nat
  gaps : Nat
  fullWait : Bool
  autoRetry : Bool
  deriving DecidableEq, Repr

/-! ## Profile Store -/

/-- The loaded fields of a profile slot, the left part of 04 R70. -/
structure Profile where
  knots : Ink (List Nat)
  matrix : Ink (Ink Int)
  offsets : Ink Int
  limit : Nat
  dref : Nat
  yield : Nat
  doseTol : Nat
  lt : Int
  at_ : Int
  bt : Int
  colourTol : Nat
  trimOn : Bool
  gain : Nat
  tauInit : Int
  deriving DecidableEq, Repr

/-- A profile slot (04 R70). -/
structure ProfileSlot where
  valid : Bool
  gen : Nat
  tau : Int
  prof : Profile
  deriving DecidableEq, Repr

/-- A copy in flight (04 R74): the target slot and the words received. -/
structure Copying where
  target : Fin 8
  words : List Word
  deriving DecidableEq, Repr

/-- The Profile Store (04). `staging` is `none` while FREE. -/
structure Store where
  slots : Oct ProfileSlot
  staging : Option Copying
  deriving DecidableEq, Repr

/-! ## Band Tracker -/

/-- A measurement (01 R2, 08 R158). -/
structure Measurement where
  l : Int
  a : Int
  b : Int
  e : Nat
  deriving DecidableEq, Repr

/-- A band record (01 R1, R2). -/
structure Band where
  number : Nat
  tally : Nat
  index : Nat
  kind : BandKind
  slot : Fin 8
  gen : Nat
  tau : Int
  g : Nat
  firstRow : Nat
  p : Nat
  l0 : Nat
  len : Nat
  s : Nat
  dpred : Nat
  zones : Oct Bool
  lt : Int
  at_ : Int
  bt : Int
  colourTol : Nat
  doseTol : Nat
  po : Nat
  state : BandState
  flags : BitVec 12
  fired : Nat
  lost : Nat
  clip : Nat
  doses : Oct Nat
  samples : Nat
  lostZones : Oct Bool
  c : Option Int
  meas : Option Measurement
  trailing : Bool
  verdict : Option Verdict
  deriving DecidableEq, Repr

/-- The end cause of a segment (02 R50). -/
inductive EndCause where
  | ok | short | abortedTrip | startRefused | reset
  deriving DecidableEq, Repr

/-- A segment tally entry (01 R21). -/
structure Tally where
  id : Nat
  addr : Nat
  notify : Bool
  area : Nat
  capacity : Nat
  created : Nat
  inTrack : Nat
  good : Nat
  suspect : Nat
  reject : Nat
  void : Nat
  written : Nat
  dropped : Nat
  discarded : Nat
  printed : Bool
  cause : EndCause
  stale : Bool
  closing : Bool
  deriving DecidableEq, Repr

/-- Where the retirement in progress stands (01, 1.6). -/
inductive Retiring where
  | record | counts
  deriving DecidableEq, Repr

/-- A line position: whole nanometres and the 16-bit fraction remainder (01 R6). -/
structure Position where
  nm : Nat
  frac : Nat
  deriving DecidableEq, Repr

/-- The Band Tracker (01). `track` is oldest first. -/
structure Tracker where
  track : List Band
  nextNumber : Nat
  pos : Encs Position
  splices : List Nat
  overflow : Bool
  tallies : List Tally
  nextTally : Nat
  retiring : Option Retiring
  lastRetired : Nat
  deriving DecidableEq, Repr

/-! ## Heat Controller -/

/-- A zone record (05 R86). The duty is also the heater output (05 R95). -/
structure Zone where
  target : Nat
  enable : Bool
  eff : Nat
  reading : Option Nat
  state : ZoneState
  integral : Nat
  duty : Nat
  validRun : Nat
  deriving DecidableEq, Repr

/-- The Heat Controller (05). -/
structure Heat where
  zones : Oct Zone
  drum : DrumState
  settle : Nat
  ton : Nat
  ramp : Nat
  kp : Nat
  ki : Nat
  retain : Bool
  deriving DecidableEq, Repr

/-! ## Drive Controller -/

/-- Highest and lowest tension since the last REPORT (06 R132). -/
structure Peak where
  hi : Int
  lo : Int
  deriving DecidableEq, Repr

/-- What DC holds for each web (06, chapter head). -/
structure WebLoop where
  tset : Nat
  kp : Nat
  ki : Nat
  zero : Nat
  scale : Nat
  integral : Int
  demand : Int
  tension : Int
  run : Nat
  peak : Option Peak
  inRange : Bool
  deriving DecidableEq, Repr

/-- The Drive Controller (06). `nipTimer` is the time left of the move in progress, since a CONFIGURE changes the timeout of later
moves only (06, 6.6). The tension loops are on exactly while the line is moving (06 R111), so that is computed. -/
structure Drive where
  line : LineState
  stopKind : StopKind
  setpoint : Nat
  accel : Nat
  ref : Nat
  webs : Webs WebLoop
  devLimit : Nat
  faultTime : Nat
  stretch : Nat
  storedIn : Nat
  storedDr : Nat
  nip : NipState
  valve : Valve
  nipTimer : Option Nat
  nipHold : Nat
  silence : Encs Nat
  startCause : StartCause
  deriving DecidableEq, Repr

/-! ## Mark Reader -/

/-- The last read band: its number and expected mark position (07 R140). -/
structure LastRead where
  number : Nat
  x : Nat
  deriving DecidableEq, Repr

/-- The Mark Reader (07). -/
structure Marks where
  lock : LockState
  found : Nat
  miss : Nat
  ccur : Int
  errors : Nat
  counterCopy : Nat
  strays : Nat
  lastRead : Option LastRead
  deriving DecidableEq, Repr

/-! ## Colour Verifier -/

/-- The frame receiver's position, with what it has gathered (08 R152). -/
inductive Receiver where
  | hunting
  | type
  | length (ty : Byte)
  | body (ty : Byte) (len : Nat) (got : List Byte)
  deriving DecidableEq, Repr

/-- An entry of the Outstanding Trigger List (08 R156). -/
structure Trigger where
  seq : Nat
  band : Nat
  deadline : Nat
  deriving DecidableEq, Repr

/-- The Colour Verifier (08). `txq` is the transmit queue, the frame being sent first. -/
structure Verifier where
  rx : Receiver
  rxGap : Nat
  status : InstrumentStatus
  silenceOn : Bool
  silence : Nat
  txq : List Nat
  list : List Trigger
  seq : Nat
  drift : Bool
  failRun : Nat
  passRun : Nat
  late : Nat
  bad : Nat
  deriving DecidableEq, Repr

/-! ## The whole part -/

/-- The levels of the part's input pins. -/
structure Pins where
  powerGood : Bool
  mainsOk : Bool
  nipOpenSw : Bool
  nipClosedSw : Bool
  broken : Encs Bool
  head : HeadLines
  deriving DecidableEq, Repr

/-- What the part puts on its outputs during a step (log entry 4). -/
inductive Output where
  /-- A row sent on every head link (02 R40, R43): four drop levels per image pixel, and on mark rows the drop level of every
  selvedge nozzle (11 R193). -/
  | headRow (levels : List (Ink Nat)) (mark : Option Nat)
  /-- A word written to host memory at a byte address (10). -/
  | busWrite (addr : Nat) (w : Word)
  /-- The speed reference and the three torque demands on the drive link (06 R126). -/
  | drive (ref : Nat) (demands : Webs Int)
  /-- The bytes of a MEASURE frame on the instrument link (08 R155). -/
  | measure (bytes : List Byte)
  deriving DecidableEq, Repr

/-- The state of the SL460, with the queue of commands that wait. -/
structure State where
  pins : Pins
  cfg : Settings
  smp : Port
  tr : Reader
  re : Raster
  ps : Store
  bt : Tracker
  hc : Heat
  dc : Drive
  mr : Marks
  cv : Verifier
  now : Nat
  freeCount : Nat
  out : List Output
  pending : List Instr
  deriving DecidableEq, Repr

/-- No command of this block faults: what goes wrong is a ticket status, a notice, a count or a state of a block. -/
inductive Fault where
  deriving DecidableEq, Repr

/-- Reasons to refuse a command. -/
inductive Refusal where
  /-- Raised by exec for a command that has no meaning yet; safe, since the machine stops. No command of this model raises it. -/
  | notModelled (mnemonic : String)
  deriving DecidableEq, Repr

/-! ## Power-up reset -/

/-- The CONFIGURE defaults (09 R175). -/
def Settings.reset : Settings :=
  { scale := ⟨655360000, 655360000, 655360000⟩, dpm := 4000, dpn := 5000, w := 2000, dxi := 1500, fn := 2500, pnom := 42333,
    leadRows := 8, nipCloseSpeed := 100, nipTravel := 1500, nipHoldLimit := 30, stopDecel := 500, markWindow := 3000,
    counterSource := .both, counterMode := .manual, triggerTimeout := 300, encoderTimeout := 100, lockEdge := .onset,
    driftEdge := .onset }

/-- SMP after power-up reset (10, 10.1 and R181 to R188). -/
def Port.reset : Port :=
  { chainHead := 0, progBase := 0, notice := 0, noticeMask := 0x3FF, burstLimit := 8, pollPeriod := 10, writes := [],
    reads := [], copies := [], grant := none, passOver := ⟨0, 0, 0, 0⟩, updateCount := 0, progTimer := 0,
    soft := .off }

/-- TR after power-up reset (09 R169). -/
def Reader.reset : Reader :=
  { reader := .idle, pos := 0, step := .header, ticket := none, awaitSeg := none, haltReq := false, pauseReq := false,
    pollRunning := false, pollElapsed := 0, pollInForce := 10 }

/-- RE after power-up reset (02 R53). The fetcher is stopped; its place, for which the manual gives no value, is 0 (log entry 45). -/
def Raster.reset : Raster :=
  { raster := .idle, seg := none, ending := .none, band := none, slots := [], fetchOn := false, fetchBand := 0,
    fetchRow := 0, printEnd := 0, lastStarted := 0, serial := 0, lowWater := 0, underruns := 0, gaps := 0,
    fullWait := false, autoRetry := false }

/-- The loaded fields of a slot that has never been loaded; not used while the slot is invalid (04 R85, log entry 5). -/
def Profile.blank : Profile :=
  { knots := ⟨[], [], [], []⟩, matrix := ⟨⟨0, 0, 0, 0⟩, ⟨0, 0, 0, 0⟩, ⟨0, 0, 0, 0⟩, ⟨0, 0, 0, 0⟩⟩, offsets := ⟨0, 0, 0, 0⟩,
    limit := 0, dref := 0, yield := 0, doseTol := 0, lt := 0, at_ := 0, bt := 0, colourTol := 0, trimOn := false, gain := 0,
    tauInit := 0 }

/-- PS after power-up reset (04 R85). -/
def Store.reset : Store :=
  { slots := Oct.fill { valid := false, gen := 0, tau := 0, prof := Profile.blank }, staging := none }

/-- BT after power-up reset (01 R26). -/
def Tracker.reset : Tracker :=
  { track := [], nextNumber := 1, pos := ⟨⟨0, 0⟩, ⟨0, 0⟩, ⟨0, 0⟩⟩, splices := [], overflow := false, tallies := [],
    nextTally := 0, retiring := none, lastRetired := 0 }

/-- A zone after power-up reset (05 R109). -/
def Zone.reset : Zone :=
  { target := 0, enable := false, eff := 0, reading := none, state := .off, integral := 0, duty := 0, validRun := 0 }

/-- HC after power-up reset with MAINS_OK asserted (05 R109). -/
def Heat.reset : Heat :=
  { zones := Oct.fill Zone.reset,
    drum := .cold, settle := 0, ton := 1400, ramp := 20, kp := 64, ki := 8, retain := false }

/-- A web's loop after power-up reset with its tension setpoint (06 R131, R136). -/
def WebLoop.reset (tset : Nat) : WebLoop :=
  { tset := tset, kp := 32, ki := 4, zero := 0, scale := 1024, integral := 0, demand := 0, tension := 0, run := 0,
    peak := none, inRange := false }

/-- DC after power-up reset with MAINS_OK asserted and the nip confirmed open (06 R136). -/
def Drive.reset : Drive :=
  { line := .stopped, stopKind := .normal, setpoint := 200, accel := 100, ref := 0,
    webs := ⟨WebLoop.reset 300, WebLoop.reset 200, WebLoop.reset 150⟩, devLimit := 60, faultTime := 400, stretch := 0,
    storedIn := 0, storedDr := 0, nip := .opened, valve := .opening, nipTimer := none, nipHold := 0, silence := ⟨0, 0, 0⟩,
    startCause := .none }

/-- MR after power-up reset (07 R151). -/
def Marks.reset : Marks :=
  { lock := .search, found := 0, miss := 0, ccur := 0, errors := 0, counterCopy := 0, strays := 0, lastRead := none }

/-- CV after power-up reset (08 R166). -/
def Verifier.reset : Verifier :=
  { rx := .hunting, rxGap := 0, status := .notReady, silenceOn := true, silence := 0, txq := [], list := [], seq := 1,
    drift := false, failRun := 0, passRun := 0, late := 0, bad := 0 }

/-- The input pins State.reset assumes (log entry 2): supply and mains good, nip confirmed open, encoders whole, no head link. -/
def Pins.reset : Pins :=
  { powerGood := true, mainsOk := true, nipOpenSw := true, nipClosedSw := false, broken := ⟨false, false, false⟩,
    head := ⟨0, 0⟩ }

/-- The machine right after power-up reset is released (10 R189), with nothing waiting. -/
def State.reset : State :=
  { pins := Pins.reset, cfg := Settings.reset, smp := Port.reset, tr := Reader.reset, re := Raster.reset, ps := Store.reset,
    bt := Tracker.reset, hc := Heat.reset, dc := Drive.reset, mr := Marks.reset, cv := Verifier.reset, now := 0,
    freeCount := 0, out := [], pending := [] }

end Sys2Proof.Machine
end

