-- ==== Sys2Proof/Machine/Flags.lean ====
section
/-! DEFINITION. Sys2Proof/Machine/Flags.lean: band flags, the verdict of a retiring band, notice bits and the codes of the state
sets in LINESTAT. -/

namespace Sys2Proof.Machine

/-- A flag's place: bit 20 + place of word 7 of a band record (11, 11.3). -/
def Flag.place : Flag → Nat
  | .underrun => 0 | .headMiss => 1 | .truncated => 2 | .stopExposed => 3 | .zoneLost => 4 | .doseLow => 5
  | .doseHigh => 6 | .splice => 7 | .markMissed => 8 | .markMismatch => 9 | .unmeasured => 10 | .colourFail => 11

/-- The band carries the flag. -/
def Band.has (b : Band) (f : Flag) : Bool := b.flags.getLsbD f.place

/-- Set a flag on a band; a flag once set stays set (01 R2). -/
def Band.flag (f : Flag) (b : Band) : Band := { b with flags := b.flags ||| (1#12 <<< f.place) }

/-- Set a flag on a band where a test holds. -/
def Band.flagIf (t : Bool) (f : Flag) (b : Band) : Band := if t then b.flag f else b

/-- Flags that make a PRINTED band REJECT (01 R18). -/
def rejectFlags : List Flag :=
  [.truncated, .stopExposed, .underrun, .headMiss, .zoneLost, .doseLow, .doseHigh, .colourFail]

/-- Flags that make a PRINTED band no better than SUSPECT (01 R18). -/
def suspectFlags : List Flag := [.splice, .markMissed, .markMismatch, .unmeasured]

/-- The band carries one of the flags. -/
def Band.hasAny (b : Band) (fs : List Flag) : Bool := fs.any b.has

/-- The verdict of a retiring band: the first line of the table of 01 R18 that applies. -/
def Band.verdictOf (b : Band) : Verdict :=
  if b.kind = .void then .void
  else if b.hasAny rejectFlags then .reject
  else if b.hasAny suspectFlags then .suspect
  else .good

/-- A cause's bit in NOTICE and NOTICEMASK (10, 10.1). -/
def Notice.bit : Notice → Nat
  | .ticket => 0 | .line => 1 | .drum => 2 | .tension => 3 | .lock => 4 | .drift => 5 | .underrun => 6 | .port => 7
  | .counter => 8 | .power => 9

/-- A state's code is its place in its set as the introduction lists it, from 0 (10 R181). -/
def LineState.code : LineState → Nat
  | .stopped => 0 | .starting => 1 | .running => 2 | .draining => 3 | .stopping => 4 | .tripped => 5 | .powerStop => 6
  | .powerHeld => 7

def DrumState.code : DrumState → Nat
  | .cold => 0 | .heating => 1 | .atTemp => 2 | .deviation => 3 | .tripped => 4

def ReaderState.code : ReaderState → Nat
  | .idle => 0 | .reading => 1 | .waiting => 2 | .executing => 3 | .holding => 4 | .paused => 5 | .stalled => 6

def NipState.code : NipState → Nat
  | .opened => 0 | .closing => 1 | .closed => 2 | .opening => 3 | .fault => 4

def LockState.code : LockState → Nat
  | .search => 0 | .locked => 1 | .lost => 2

def StartCause.code : StartCause → Nat
  | .none => 0 | .drumNotReady => 1 | .tripped => 2 | .nipNotOpen => 3 | .sensor => 4 | .power => 5

def InstrumentStatus.code : InstrumentStatus → Nat
  | .ready => 0 | .notReady => 1 | .cal => 2

def Verdict.code : Verdict → Nat
  | .good => 0 | .suspect => 1 | .reject => 2 | .void => 3

def ChainStep.code : ChainStep → Nat
  | .header => 0 | .link => 1

/-- The line is moving (06 R111). -/
def LineState.moving : LineState → Bool
  | .starting | .running | .draining | .stopping | .powerStop => true
  | .stopped | .tripped | .powerHeld => false

/-- The patch error: the sum of the absolute differences, saturated at 65,535 (08 R158). -/
def patchError (l a b lt at_ bt : Int) : Nat :=
  min 65535 ((l - lt).natAbs + (a - at_).natAbs + (b - bt).natAbs)

end Sys2Proof.Machine
end

