-- ==== Sys2Proof/Machine/Operands.lean ====
section
/-! DEFINITION. Sys2Proof/Machine/Operands.lean: how the words of host structures are read (11 R191): bit fields, ticket headers,
every ticket body with its checks or clamps, and the profile image with its field checks. -/

namespace Sys2Proof.Machine

/-! ## Words and fields -/

/-- Word number `i` of a structure; words beyond it read 0. -/
def wordAt (ws : List Word) (i : Nat) : Word := ws.getD i 0

/-- Word number `i` as an unsigned value (11 R191). -/
def natAt (ws : List Word) (i : Nat) : Nat := (wordAt ws i).toNat

/-- Bits 15..0 of a word. -/
def lowHalf (w : Word) : Nat := w.toNat % 65536

/-- Bits 31..16 of a word. -/
def highHalf (w : Word) : Nat := w.toNat / 65536

/-- Bit `i` of a word. -/
def bitAt (w : Word) (i : Nat) : Bool := w.getLsbD i

/-- The field of `width` bits from bit `low` up. -/
def fieldAt (w : Word) (low width : Nat) : Nat := w.toNat / 2 ^ low % 2 ^ width

/-- A 16-bit value read as two's complement. -/
def signed16 (n : Nat) : Int := if n < 32768 then (n : Int) else (n : Int) - 65536

/-- Halfword number `i` of a structure, the low half of a word first (11, 11.5). -/
def halfAt (ws : List Word) (i : Nat) : Nat := if i % 2 = 0 then lowHalf (wordAt ws (i / 2)) else highHalf (wordAt ws (i / 2))

/-- A structure address: the low four bits are ignored (11 R191). -/
def address (w : Word) : Nat := w.toNat / 16 * 16

/-- The first index whose check fails, in the order listed. -/
def firstFail (checks : List (Nat × Bool)) : Option Nat := (checks.find? (fun c => !c.2)).map Prod.fst

/-- A range check on an unsigned field. -/
def inN (x lo hi : Nat) : Bool := lo ≤ x && x ≤ hi

/-- A range check on a signed field. -/
def inZ (x lo hi : Int) : Bool := decide (lo ≤ x) && decide (x ≤ hi)

/-! ## Ticket header (11, 11.1) -/

/-- The kind a kind code names; any other code is INVALID_KIND. -/
def kindOfCode (n : Nat) : Option TicketKind :=
  if n = 1 then some .configure else if n = 2 then some .setHeat else if n = 3 then some .setTension
  else if n = 4 then some .setSpeed else if n = 5 then some .loadProfile else if n = 6 then some .segment
  else if n = 7 then some .endSegment else if n = 8 then some .stop else if n = 9 then some .report else none

/-- The body length a kind needs, in words (11, 11.1). -/
def bodyLength : TicketKind → Nat
  | .configure => 24 | .setHeat => 14 | .setTension => 17 | .setSpeed => 2 | .loadProfile => 2 | .segment => 37
  | .endSegment => 1 | .stop => 0 | .report => 1

/-- The body words TR reads: a SEGMENT's eight result-body words are written and not read (log entry 13). -/
def bodyRead : TicketKind → Nat
  | .segment => 29
  | .configure => 24 | .setHeat => 14 | .setTension => 17 | .setSpeed => 2 | .loadProfile => 2
  | .endSegment => 1 | .stop => 0 | .report => 1

/-- Status codes (11, 11.1). -/
def Status.code : Status → Nat
  | .ok => 0 | .short => 1 | .invalidKind => 2 | .badField => 3 | .busy => 4 | .noProfile => 5 | .badProfile => 6
  | .badGeometry => 7 | .startRefused => 8 | .abortedTrip => 9 | .reset => 10 | .portError => 11 | .noSegment => 12

/-- Ticket-state codes (00, Ticket states and status codes). -/
def TicketState.code : TicketState → Nat
  | .taken => 1 | .printed => 2 | .done => 3 | .failed => 4 | .skipped => 5

/-- DONE, FAILED and SKIPPED are the final states. -/
def TicketState.isFinal : TicketState → Bool
  | .done | .failed | .skipped => true
  | .taken | .printed => false

/-- The header fields TR acts on: kind code, NOTIFY, body length, state byte, serial (11, 11.1). -/
structure Header where
  kindCode : Nat
  notify : Bool
  bodyLen : Nat
  state : Nat
  serial : Word
  deriving DecidableEq, Repr

/-- A header's four words read as its fields. -/
def headerOf (ws : List Word) : Header :=
  { kindCode := fieldAt (wordAt ws 1) 0 8, notify := bitAt (wordAt ws 1) 8, bodyLen := fieldAt (wordAt ws 1) 16 8,
    state := fieldAt (wordAt ws 2) 0 8, serial := wordAt ws 3 }

/-- Word 2 of a header as TR writes it: state, status and DETAIL together (09 R167, 11, 11.1). -/
def headerWord (h : HeaderWrite) : Word :=
  BitVec.ofNat 32 (h.state.code + h.status.code * 256 + h.detail % 65536 * 65536)

/-! ## CONFIGURE (09 R175) -/

/-- An encoder scale in 1/65536 nm: whole nanometres, then 16 fraction bits (11, 11.2). -/
def scaleAt (ws : List Word) (i : Nat) : Nat := natAt ws i * 65536 + lowHalf (wordAt ws (i + 1))

/-- The range checks of fields 1 to 21 in ascending index, then the cross-check, which fails on field 5. -/
def configureChecks (ws : List Word) : List (Nat × Bool) :=
  [(1, inN (scaleAt ws 0) (1000 * 65536) (200000 * 65536)), (2, inN (scaleAt ws 2) (1000 * 65536) (200000 * 65536)),
   (3, inN (scaleAt ws 4) (1000 * 65536) (200000 * 65536)),
   (4, inN (natAt ws 6) 100 14000), (5, inN (natAt ws 7) 500 15000), (6, inN (natAt ws 8) 800 3000),
   (7, inN (natAt ws 9) 300 8000), (8, inN (natAt ws 10) 200 10000), (9, inN (natAt ws 11) 20000 200000),
   (10, inN (natAt ws 12) 2 31), (11, inN (natAt ws 13) 50 300), (12, inN (natAt ws 14) 200 5000),
   (13, inN (natAt ws 15) 0 600), (14, inN (natAt ws 16) 100 2000), (15, inN (natAt ws 17) 500 20000),
   (16, inN (natAt ws 18) 0 2), (17, inN (natAt ws 19) 0 1), (18, inN (natAt ws 20) 50 1000),
   (19, inN (natAt ws 21) 20 500), (20, inN (natAt ws 22) 0 1), (21, inN (natAt ws 23) 0 1),
   (5, decide (((natAt ws 7 : Int) - natAt ws 6) * 1000 > (natAt ws 17 : Int) + 100000))]

/-- Edge-mode codes (11, 11.2). -/
def edgeOf (n : Nat) : EdgeMode := if n = 0 then .onset else .both

/-- The settings a CONFIGURE body that passed its checks names. -/
def configureSettings (ws : List Word) : Settings :=
  { scale := ⟨scaleAt ws 0, scaleAt ws 2, scaleAt ws 4⟩, dpm := natAt ws 6, dpn := natAt ws 7, w := natAt ws 8,
    dxi := natAt ws 9, fn := natAt ws 10, pnom := natAt ws 11, leadRows := natAt ws 12, nipCloseSpeed := natAt ws 13,
    nipTravel := natAt ws 14, nipHoldLimit := natAt ws 15, stopDecel := natAt ws 16, markWindow := natAt ws 17,
    counterSource := if natAt ws 18 = 0 then .missed else if natAt ws 18 = 1 then .mismatch else .both,
    counterMode := if natAt ws 19 = 0 then .manual else .auto, triggerTimeout := natAt ws 20,
    encoderTimeout := natAt ws 21, lockEdge := edgeOf (natAt ws 22), driftEdge := edgeOf (natAt ws 23) }

/-! ## Clamped tickets (05 R89, 06 R113, R131) -/

/-- A clamped field: its index, the word it is in, and its range. -/
structure ClampField where
  index : Nat
  word : Nat
  lo : Nat
  hi : Nat

/-- The value of a clamped field: the word at its full width, limited to the range (11 R191). -/
def ClampField.value (f : ClampField) (ws : List Word) : Nat := clampN (natAt ws f.word) f.lo f.hi

/-- DETAIL of a clamped ticket: the index of the first field that was clamped, or 0. -/
def firstClamped (fs : List ClampField) (ws : List Word) : Nat :=
  match fs.find? (fun f => f.value ws ≠ natAt ws f.word) with
  | some f => f.index
  | none => 0

/-- The clamped fields of SET_HEAT: the eight targets, Ton, the ramp rate, Kp and Ki (05 R89). -/
def heatFields : List ClampField :=
  [⟨1, 0, 0, 2300⟩, ⟨2, 1, 0, 2300⟩, ⟨3, 2, 0, 2300⟩, ⟨4, 3, 0, 2300⟩, ⟨5, 4, 0, 2300⟩, ⟨6, 5, 0, 2300⟩,
   ⟨7, 6, 0, 2300⟩, ⟨8, 7, 0, 2300⟩, ⟨10, 9, 1200, 1900⟩, ⟨11, 10, 1, 100⟩, ⟨12, 11, 0, 255⟩, ⟨13, 12, 0, 255⟩]

/-- The clamped fields of SET_SPEED (06 R113). -/
def speedFields : List ClampField := [⟨1, 0, 50, 1000⟩, ⟨2, 1, 10, 2000⟩]

/-- The clamped fields of SET_TENSION (06 R131). -/
def tensionFields : List ClampField :=
  [⟨1, 0, 20, 2000⟩, ⟨2, 1, 20, 2000⟩, ⟨3, 2, 20, 2000⟩, ⟨4, 3, 0, 255⟩, ⟨5, 4, 0, 255⟩, ⟨6, 5, 0, 255⟩,
   ⟨7, 6, 0, 255⟩, ⟨8, 7, 0, 255⟩, ⟨9, 8, 0, 255⟩, ⟨10, 9, 0, 65535⟩, ⟨11, 10, 0, 65535⟩, ⟨12, 11, 0, 65535⟩,
   ⟨13, 12, 1, 8191⟩, ⟨14, 13, 1, 8191⟩, ⟨15, 14, 1, 8191⟩, ⟨16, 15, 5, 500⟩, ⟨17, 16, 50, 2000⟩]

/-! ## LOAD_PROFILE, REPORT and END_SEGMENT -/

/-- A 256-byte structure at an address fits the address space (04 R73, 09 R176). -/
def fits256 (a : Nat) : Bool := a + 255 ≤ max32

/-- The body checks of LOAD_PROFILE (04 R73). -/
def loadChecks (ws : List Word) : List (Nat × Bool) := [(1, natAt ws 0 ≤ 7), (2, fits256 (address (wordAt ws 1)))]

/-- The body check of REPORT (09 R176). -/
def reportChecks (ws : List Word) : List (Nat × Bool) := [(1, fits256 (address (wordAt ws 0)))]

/-- The body check of END_SEGMENT: mode AT_BOUNDARY 0 or NOW 1 (09 R172, 11, 11.2). -/
def endChecks (ws : List Word) : List (Nat × Bool) := [(1, natAt ws 0 ≤ 1)]

/-- A slot number of 0..7. -/
def slotOf (n : Nat) : Fin 8 := Fin.ofNat 8 n

/-! ## SEGMENT (02 R28, R29) -/

/-- The void entries read: the first `void count` of words 13 to 28. -/
def voidsOf (ws : List Word) : List Nat := (List.range (min 16 (natAt ws 12))).map (fun i => natAt ws (13 + i))

/-- The repeat fits the address space: its last byte is at most FFFFFFFFh. -/
def repeatFits (ws : List Word) : Bool :=
  decide ((address (wordAt ws 0) : Int) + ((natAt ws 3 : Int) - 1) * natAt ws 1 + 4 * natAt ws 2 - 1 ≤ max32)

/-- The result area fits the address space. -/
def areaFits (ws : List Word) : Bool := address (wordAt ws 10) + natAt ws 11 * 64 ≤ max32 + 1

/-- The field checks of a SEGMENT body in ascending index (02 R29, check 1). -/
def segmentChecks (ws : List Word) : List (Nat × Bool) :=
  [(1, repeatFits ws), (2, natAt ws 1 % 16 == 0 && 4 * natAt ws 2 ≤ natAt ws 1), (3, inN (natAt ws 2) 1 80000),
   (4, inN (natAt ws 3) 1 1048575), (5, inN (natAt ws 4) 64 16384), (7, natAt ws 6 < natAt ws 3), (8, natAt ws 7 ≤ 7),
   (9, natAt ws 8 ≤ 65535), (11, areaFits ws), (12, inN (natAt ws 11) 1 65535), (13, natAt ws 12 ≤ 16)]
  ++ (List.range (min 16 (natAt ws 12))).map (fun i => (14 + i, natAt ws 5 == 0 || natAt ws (13 + i) < natAt ws 5))

/-- The geometry checks of a SEGMENT at the nominal pitch, in order (02 R29, check 3). -/
def geometryChecks (cfg : Settings) (ws : List Word) : List (Nat × Bool) :=
  let len := natAt ws 4 * cfg.pnom
  [(5, len < cfg.dpn * 1000000), (5, len ≤ cfg.dxi * 1000000), (9, natAt ws 8 * 1000000 < len)]

/-- The segment context a SEGMENT body that passed its checks gives (02 R29). -/
def segmentOf (tally addr : Nat) (ws : List Word) : Segment :=
  { tally := tally, addr := addr, base := address (wordAt ws 0), stride := natAt ws 1, width := natAt ws 2, rows := natAt ws 3,
    bandRows := natAt ws 4, count := natAt ws 5, first := natAt ws 6, slot := slotOf (natAt ws 7), patch := natAt ws 8,
    autoStart := bitAt (wordAt ws 9) 0, testMark := bitAt (wordAt ws 9) 1, voids := voidsOf ws, created := 0 }

/-! ## Profile image (04 R72, 11, 11.5) -/

/-- Halfword `i` of an image as a signed value. -/
def imageZ (ws : List Word) (i : Nat) : Int := signed16 (halfAt ws i)

/-- The checks of the 99 image fields in ascending index. -/
def imageChecks (ws : List Word) : List (Nat × Bool) :=
  (List.range 68).map (fun i => (1 + i, decide (halfAt ws i ≤ 4095)))
  ++ (List.range 16).map (fun i => (69 + i, if i % 5 = 0 then inZ (imageZ ws (68 + i)) 0 2047 else inZ (imageZ ws (68 + i)) (-512) 511))
  ++ (List.range 4).map (fun i => (85 + i, inZ (imageZ ws (84 + i)) (-2048) 2047))
  ++ [(89, inN (halfAt ws 88) 1024 16380), (90, inN (natAt ws 45) 1 4000000), (91, inN (halfAt ws 89) 0 2047),
      (92, inN (halfAt ws 92) 1 50), (93, true), (94, true), (95, true), (96, inN (halfAt ws 93) 1 9999), (97, true),
      (98, inN (halfAt ws 99) 0 255), (99, inZ (imageZ ws 97) (-256) 255)]

/-- The 17 knots from halfword `i` on. -/
def imageKnots (ws : List Word) (i : Nat) : List Nat := (List.range 17).map (fun k => halfAt ws (i + k))

/-- A matrix row, or the offsets, from halfword `i` on. -/
def imageRow (ws : List Word) (i : Nat) : Ink Int := ⟨imageZ ws i, imageZ ws (i + 1), imageZ ws (i + 2), imageZ ws (i + 3)⟩

/-- The loaded fields of an image. -/
def imageProfile (ws : List Word) : Profile :=
  { knots := ⟨imageKnots ws 0, imageKnots ws 17, imageKnots ws 34, imageKnots ws 51⟩,
    matrix := ⟨imageRow ws 68, imageRow ws 72, imageRow ws 76, imageRow ws 80⟩, offsets := imageRow ws 84,
    limit := halfAt ws 88, yield := halfAt ws 89, dref := natAt ws 45, doseTol := halfAt ws 92, colourTol := halfAt ws 93,
    lt := imageZ ws 94, at_ := imageZ ws 95, bt := imageZ ws 96, tauInit := imageZ ws 97,
    trimOn := bitAt (wordAt ws 49) 0, gain := halfAt ws 99 }

end Sys2Proof.Machine
end

