-- ==== Sys2Proof/Machine/Ops.lean ====
section
/-! DEFINITION. Sys2Proof/Machine/Ops.lean: the named operations every block uses: raising a notice, asking for a progress block
write, queueing a transfer, changing one band record or tally entry, and the tests on the state that several chapters make. -/

namespace Sys2Proof.Machine

/-! ## Notices, outputs -/

/-- Raise a cause: set its bit in NOTICE (10 R183). -/
def raise (n : Notice) (s : State) : State := { s with smp.notice := s.smp.notice ||| (1#10 <<< n.bit) }

/-- Raise a cause where a test holds. -/
def raiseIf (t : Bool) (n : Notice) (s : State) : State := if t then raise n s else s

/-- Put something on an output during this step. -/
def emit (o : Output) (s : State) : State := { s with out := s.out ++ [o] }

/-- The interrupt line: asserted while an unmasked bit of NOTICE is set (10 R184), and deasserted in power-up reset (10 R189). -/
def State.interrupt (s : State) : Bool := s.pins.powerGood && (s.smp.notice &&& ~~~s.smp.noticeMask) != 0

/-! ## Input lines -/

/-- The levels that come with a command are read (log entry 31). -/
def sampleLines (l : Lines) (s : State) : State := { s with pins.head := l.head, pins.broken := l.broken }

/-! ## Transfers (10 R185) -/

/-- Append a transfer to client 2's queue. -/
def queueWrite (t : Transfer) (s : State) : State := { s with smp.writes := s.smp.writes ++ [t] }

/-- Append a transfer to client 3's queue. -/
def queueRead (t : Transfer) (s : State) : State := { s with smp.reads := s.smp.reads ++ [t] }

/-- Append a transfer to client 4's queue. -/
def queueCopy (t : Transfer) (s : State) : State := { s with smp.copies := s.smp.copies ++ [t] }

/-- A write transfer of the given words. -/
def writeOf (kind : TransferKind) (addr : Nat) (ws : List Word) : Transfer :=
  { kind := kind, addr := addr, moved := 0, left := ws.length, words := ws }

/-- A read transfer of `n` words. -/
def readOf (kind : TransferKind) (addr n : Nat) : Transfer :=
  { kind := kind, addr := addr, moved := 0, left := n, words := [] }

/-- The transfer is a ticket read. -/
def Transfer.isTicketRead (t : Transfer) : Bool :=
  match t.kind with
  | .headerRead | .linkRead | .bodyRead => true
  | .headerWrite _ | .recordWrite | .countsWrite _ | .progress | .profileCopy | .reportWrite => false

/-- The transfer is a header write. -/
def Transfer.isHeaderWrite (t : Transfer) : Bool :=
  match t.kind with
  | .headerWrite _ => true
  | .recordWrite | .countsWrite _ | .headerRead | .linkRead | .bodyRead | .progress | .profileCopy | .reportWrite => false

/-- The transfer is a progress block write. -/
def Transfer.isProgress (t : Transfer) : Bool := t.kind == .progress

/-- A progress block write that has been granted carries its words; one that is still pending carries none (10 R187, R188). -/
def Transfer.isPendingProgress (t : Transfer) : Bool := t.isProgress && t.words.isEmpty

/-! ## Progress block requests (10 R187) -/

/-- PROGBASE names a block: it is not 0 and address + 127 does not exceed FFFFFFFFh (10 R181). -/
def Port.progUsable (p : Port) : Bool := p.progBase != 0 && p.progBase.toNat + 127 ≤ max32

/-- Request a progress block write: dropped with the timer restarted while PROGBASE names no block; merged with a pending write;
otherwise made pending, in client 3's queue at its place in the order of requests, also behind a write in progress (10 R185, R187,
log entry 46). -/
def requestProgress (s : State) : State :=
  if !s.smp.progUsable then { s with smp.progTimer := 0 }
  else if s.smp.reads.any Transfer.isPendingProgress then s
  else queueRead (readOf .progress 0 32) s

/-! ## Waiting clients and their pass-over counts (10 R185) -/

/-- The slot the row-fetch client is filling: the oldest that is not complete (02 R33). -/
def Raster.filling (r : Raster) : Option RowSlot := r.slots.find? (fun x => !x.complete)

/-- Words the row-fetch client still has to move for its oldest row. -/
def State.rowLeft (s : State) : Nat :=
  match s.re.filling, s.re.seg with
  | some x, some g => g.width - x.words.length
  | some _, none | none, _ => 0

/-- The queue of client 2, 3 or 4; the row-fetch client's transfers are the filling slots. -/
def Port.queue (p : Port) : Client → List Transfer
  | .row => []
  | .write => p.writes
  | .read => p.reads
  | .copy => p.copies

/-- Words of a client's oldest transfer still to move. -/
def State.leftOf (s : State) (c : Client) : Nat :=
  match c with
  | .row => s.rowLeft
  | .write | .read | .copy => ((s.smp.queue c).head?.map Transfer.left).getD 0

/-- A client waits while its oldest transfer has words still to move. -/
def State.waits (s : State) (c : Client) : Bool := s.leftOf c != 0

/-- A client's pass-over count. -/
def PassOver.get (p : PassOver) : Client → Nat
  | .row => p.row
  | .write => p.write
  | .read => p.read
  | .copy => p.copy

/-- The four counts by a function of the client. -/
def PassOver.ofFn (f : Client → Nat) : PassOver := ⟨f .row, f .write, f .read, f .copy⟩

/-- A client whose last waiting transfer has ended or been abandoned has its count set to 0. -/
def State.passOverIdle (s : State) (c : Client) : Nat := if s.waits c then s.smp.passOver.get c else 0

/-- The counts once transfers have ended or been abandoned. -/
def idleCounts (s : State) : State := { s with smp.passOver := PassOver.ofFn s.passOverIdle }

/-! ## Ticket header writes (09 R167, R168) -/

/-- The transfer is the TAKEN write of the ticket at `addr`, being repeated after a bus error. -/
def Transfer.isRepeatedTaken (addr : Nat) (t : Transfer) : Bool :=
  match t.kind with
  | .headerWrite h => h.state == .taken && h.repeating && t.addr == addr + 8
  | .recordWrite | .countsWrite _ | .headerRead | .linkRead | .bodyRead | .progress | .profileCopy | .reportWrite => false

/-- The transfer of a header write of the ticket at `addr`: word 2 of its header. -/
def headerTransfer (addr : Nat) (h : HeaderWrite) : Transfer := writeOf (.headerWrite h) (addr + 8) [headerWord h]

/-- Make a header write. A final-state write takes the place of a TAKEN write of the same ticket that is still being repeated
(09 R168). That a SEGMENT's final state counts as decided at BT's signal, behind its counts write, is log entry 63. -/
def queueHeader (addr : Nat) (h : HeaderWrite) (s : State) : State :=
  if h.state.isFinal && s.smp.writes.any (Transfer.isRepeatedTaken addr) then
    { s with smp.writes := s.smp.writes.map (fun t => if t.isRepeatedTaken addr then headerTransfer addr h else t) }
  else queueWrite (headerTransfer addr h) s

/-- TR waits for this transfer before it reads on (09 R168, R174b). -/
def Transfer.awaited (t : Transfer) : Bool :=
  match t.kind with
  | .headerWrite h =>
    match h.role with
    | .take _ | .close => true
    | .segment own => own
  | .recordWrite | .countsWrite _ | .headerRead | .linkRead | .bodyRead | .progress | .profileCopy | .reportWrite => false

/-! ## Band records and tally entries -/

/-- Change the record with a band number; a number not in the track has no effect (01 R2). -/
def modBand (n : Nat) (f : Band → Band) (s : State) : State :=
  { s with bt.track := s.bt.track.map (fun b => if b.number = n then f b else b) }

/-- Change every record in the track. -/
def modTrack (f : Band → Band) (s : State) : State := { s with bt.track := s.bt.track.map f }

/-- The record with a band number. -/
def State.bandOf (s : State) (n : Nat) : Option Band := s.bt.track.find? (fun b => b.number = n)

/-- Change the tally entry with a handle. -/
def modTally (id : Nat) (f : Tally → Tally) (s : State) : State :=
  { s with bt.tallies := s.bt.tallies.map (fun t => if t.id = id then f t else t) }

/-- The tally entry with a handle. -/
def State.tallyOf (s : State) (id : Nat) : Option Tally := s.bt.tallies.find? (fun t => t.id = id)

/-- The Band Track is full (01 R3). -/
def Tracker.full (b : Tracker) : Bool := Config.trackMax ≤ b.track.length

/-- The band number counter is exhausted (01 R5). -/
def Tracker.exhausted (b : Tracker) : Bool := max32 < b.nextNumber

/-- BT accepts an append (01 R4, R5). -/
def Tracker.accepts (b : Tracker) : Bool := !b.full && !b.exhausted

/-! ## Tests several chapters make -/

/-- The paper position P (01 R6). -/
def State.paper (s : State) : Nat := s.bt.pos.paper.nm

/-- A SEGMENT ticket is TAKEN: RE is not IDLE (02 R30). -/
def State.segTaken (s : State) : Bool := s.re.raster != .idle

/-- Soft reset has reached the blocks and is not complete (10 R190). -/
def State.softBlocks (s : State) : Bool :=
  match s.smp.soft with
  | .off | .stopping => false
  | .retiring | .writing | .finalising | .closing | .settling => true

/-- Soft reset has come to the final-state writes of TR, whose position and step are kept from there on (09 R180, steps 3 to 5, log
entry 36). -/
def State.softEnding (s : State) : Bool :=
  match s.smp.soft with
  | .off | .stopping | .retiring | .writing => false
  | .finalising | .closing | .settling => true

/-- A zone is enabled while its bit is on and its target is 1 or more (05 R86). -/
def Zone.enabled (z : Zone) : Bool := z.enable && 1 ≤ z.target

/-- Any band is in PRINTING, TRAVELLING or ON_DRUM (01 R27). -/
def Tracker.inFlight (b : Tracker) : Bool :=
  b.track.any (fun r => r.state == .printing || r.state == .travelling || r.state == .onDrum)

/-- The conditions under which the nip-hold timer runs (06 R125). -/
def State.nipHoldRuns (s : State) : Bool :=
  s.dc.line == .running && s.re.raster == .idle && !s.bt.inFlight && s.cfg.nipHoldLimit != 0

/-- The millimetre distances of CONFIGURE in nanometres (01 R7). -/
def Settings.dpmNm (c : Settings) : Nat := c.dpm * 1000000
def Settings.dpnNm (c : Settings) : Nat := c.dpn * 1000000
def Settings.wNm (c : Settings) : Nat := c.w * 1000000
def Settings.dxiNm (c : Settings) : Nat := c.dxi * 1000000
def Settings.fnNm (c : Settings) : Nat := c.fn * 1000000

/-- The mark window h in nanometres (07 R139). -/
def Settings.h (c : Settings) : Nat := c.markWindow * 1000

/-- Run a state change while the part is powered; in power-up reset nothing but the power input acts (10 R189). -/
def powered (f : State → State) (s : State) : State := if s.pins.powerGood then f { s with out := [] } else { s with out := [] }

/-- A function applied `n` times. -/
def times : Nat → (State → State) → State → State
  | 0, _, s => s
  | n + 1, f, s => times n f (f s)

end Sys2Proof.Machine
end

