-- ==== Sys2Proof/Machine/Colour.lean ====
section
/-! DEFINITION. Sys2Proof/Machine/Colour.lean: the five pixel stages and the band-start computation of 03. Integer division here
floors (03, chapter head): every divisor is positive. -/

namespace Sys2Proof.Machine

/-- Stage 1, tone curve: the blend of the two knots around the input, halves rounded up (03 R56). -/
def tone (knots : List Nat) (x : Nat) : Nat :=
  (knots.getD (x / 16) 0 * (16 - x % 16) + knots.getD (x / 16 + 1) 0 * (x % 16) + 8) / 16

/-- The exact matrix sum S of one output channel (03 R57, step 1). -/
def matrixSum (row : Ink Int) (v : Ink Nat) : Int := row.c * v.c + row.m * v.m + row.y * v.y + row.k * v.k

/-- Stage 2 before its clamp: S / 1024 rounded, plus the offset (03 R57, step 2). -/
def cross (row : Ink Int) (off : Int) (v : Ink Nat) : Int := (matrixSum row v + 512) / 1024 + off

/-- The clamp of stage 2 (03 R58). -/
def clampInk (w : Int) : Nat := (clampZ w 0 4095).toNat

/-- A value the clamp of stage 2 changes counts 1 (03 R58). -/
def clipOf (w : Int) : Nat := if w < 0 ∨ 4095 < w then 1 else 0

/-- Stage 3, dose compensation (03 R59). -/
def compensate (g w : Nat) : Nat := min 4095 ((w * g + 512) / 1024)

/-- The sum of the four inks. -/
def inkSum (u : Ink Nat) : Nat := u.c + u.m + u.y + u.k

/-- Stage 4, ink limit: scale all four channels down when their sum exceeds the limit (03 R60). -/
def limitInk (limit : Nat) (u : Ink Nat) : Ink Nat :=
  if limit < inkSum u then u.map (fun x => x * limit / inkSum u) else u

/-- The dither matrix: image row mod 4, column mod 4 (03, Stage 5). -/
def ditherMatrix : List (List Nat) := [[0, 8, 2, 10], [12, 4, 14, 6], [3, 11, 1, 9], [15, 7, 13, 5]]

/-- The dither entry of a repeat row and a column. -/
def dither (row col : Nat) : Nat := (ditherMatrix.getD (row % 4) []).getD (col % 4) 0

/-- Stage 5, the drop level of one channel (03 R61). -/
def dropLevel (row col u : Nat) : Nat := min 3 ((u * 3 + (dither row col * 256 + 128)) / 4096)

/-- The stage-1 outputs of a pixel. -/
def stage1 (p : Profile) (x : Ink Nat) : Ink Nat :=
  ⟨tone p.knots.c x.c, tone p.knots.m x.m, tone p.knots.y x.y, tone p.knots.k x.k⟩

/-- The stage-2 outputs of a pixel before the clamp. -/
def stage2 (p : Profile) (v : Ink Nat) : Ink Int :=
  ⟨cross p.matrix.c p.offsets.c v, cross p.matrix.m p.offsets.m v, cross p.matrix.y p.offsets.y v, cross p.matrix.k p.offsets.k v⟩

/-- The stage-4 ink values of a pixel: the tables of the slot and the band's g applied to its four input bytes. -/
def inkOf (p : Profile) (g : Nat) (x : Ink Nat) : Ink Nat :=
  limitInk p.limit ((stage2 p (stage1 p x)).map (fun w => compensate g (clampInk w)))

/-- The clamps a pixel counts at stage 2 (03 R58). -/
def pixelClips (p : Profile) (x : Ink Nat) : Nat :=
  let w := stage2 p (stage1 p x)
  clipOf w.c + clipOf w.m + clipOf w.y + clipOf w.k

/-- The four drop levels of a pixel (03 R54 to R61). -/
def pixelLevels (p : Profile) (g row col : Nat) (x : Ink Nat) : Ink Nat := (inkOf p g x).map (dropLevel row col)

/-- The four input bytes of a pixel word, C in the lowest byte (03 R54, 11). -/
def pixelOf (w : Word) : Ink Nat := ⟨fieldAt w 0 8, fieldAt w 8 8, fieldAt w 16 8, fieldAt w 24 8⟩

/-- A row converted pixel by pixel in column order from column `col` (03 R54). -/
def rowLevels (p : Profile) (g row : Nat) : Nat → List Word → List (Ink Nat)
  | _, [] => []
  | col, w :: ws => pixelLevels p g row col (pixelOf w) :: rowLevels p g row (col + 1) ws

/-- The clamps a row counts. -/
def rowClips (p : Profile) (ws : List Word) : Nat := (ws.map (fun w => pixelClips p (pixelOf w))).sum

/-- A blank row: level 0 for every image pixel (02 R41, 03 R54). -/
def blankRow (width : Nat) : List (Ink Nat) := List.replicate width ⟨0, 0, 0, 0⟩

/-! ## The band-start computation (03, 3.3) -/

/-- The predicted dwell in units of 10 ms (03 R63). -/
def dwell (w vset : Nat) : Nat := w * 100 / vset

/-- The mean target of the enabled zones, floored; `none` when the mask is empty (03 R64). -/
def meanTarget (zones : Oct Zone) : Option Nat :=
  let ts := (zones.toList.filter Zone.enabled).map Zone.target
  if ts.isEmpty then none else some (ts.sum / ts.length)

/-- The predicted dose (03 R64, R65); natural subtraction is max(0, Tm − Ton). -/
def predictedDose (zones : Oct Zone) (ton w vset : Nat) : Nat :=
  match meanTarget zones with
  | none => 0
  | some tm => (tm - ton) * dwell w vset

/-- The correction term of the compensation factor, floored toward minus infinity (03 R66, step 2). -/
def correction (yield dref dpred : Nat) : Int := (yield : Int) * ((dref : Int) - dpred) / dref

/-- The compensation factor g (03 R66). -/
def compensation (yield dref dpred : Nat) (tau : Int) : Nat := (clampZ (1024 + correction yield dref dpred + tau) 768 1280).toNat

/-- The row pitch of a band (02 R37, step 1). -/
def rowPitch (pnom s : Nat) : Nat := pnom * (10000 + s) / 10000

end Sys2Proof.Machine
end

