-- ==== Sys2Proof/Machine/Layout.lean ====
section
/-! DEFINITION. Sys2Proof/Machine/Layout.lean: the words the SL460 writes into host structures (11, R192): band record, counts,
progress block, REPORT snapshot; and the bytes of a MEASURE frame. -/

namespace Sys2Proof.Machine

/-- A whole-word field. -/
def wordOf (n : Nat) : Word := BitVec.ofNat 32 n

/-- A signed value in two's complement at a field's width (11 R192). -/
def twos (width : Nat) (x : Int) : Nat := (BitVec.ofInt width x).toNat

/-- A word of two halfwords. -/
def halves (lo hi : Nat) : Word := BitVec.ofNat 32 (lo % 65536 + hi % 65536 * 65536)

/-- A word of four bytes. -/
def bytesWord (b0 b1 b2 b3 : Nat) : Word :=
  BitVec.ofNat 32 (b0 % 256 + b1 % 256 * 256 + b2 % 256 * 65536 + b3 % 256 * 16777216)

/-- A Boolean as a bit. -/
def bit01 (b : Bool) : Nat := if b then 1 else 0

/-- A zone mask: zone z in bit z. -/
def maskOf (o : Oct Bool) : Nat :=
  bit01 o.z0 + 2 * bit01 o.z1 + 4 * bit01 o.z2 + 8 * bit01 o.z3 + 16 * bit01 o.z4 + 32 * bit01 o.z5 + 64 * bit01 o.z6
    + 128 * bit01 o.z7

/-- The zones checked at the drum exit: enabled at band start and not lost since (05 R108). -/
def Band.checked (b : Band) : Oct Bool := Oct.ofFn (fun i => b.zones.get i && !b.lostZones.get i)

/-- The doses of the checked zones. -/
def Band.checkedDoses (b : Band) : List Nat :=
  (((Oct.toList (Oct.ofFn fun i => (b.checked.get i, b.doses.get i))).filter Prod.fst).map Prod.snd)

/-- The smallest checked zone dose, 0 when there is none (01 R19). -/
def Band.minDose (b : Band) : Nat := (b.checkedDoses.min?).getD 0

/-- The largest checked zone dose, 0 when there is none (01 R19). -/
def Band.maxDose (b : Band) : Nat := (b.checkedDoses.max?).getD 0

/-- The 16 words of a band record (11, 11.3). -/
def recordWords (b : Band) : List Word :=
  let m := b.meas.getD ⟨0, 0, 0, 0⟩
  [wordOf b.number, wordOf b.index, wordOf (b.l0 % 2 ^ 32), wordOf (b.l0 / 2 ^ 32), wordOf (twos 32 (b.c.getD 0)),
   wordOf (b.p % 2 ^ 18 + b.slot.val * 2 ^ 18 + ((b.verdict.map Verdict.code).getD 0) * 2 ^ 21
     + bit01 (b.kind == .void) * 2 ^ 23 + bit01 b.meas.isSome * 2 ^ 24),
   wordOf (b.dpred % 2 ^ 23 + b.s % 2 ^ 9 * 2 ^ 23),
   wordOf (twos 9 b.tau + b.g % 2 ^ 11 * 2 ^ 9 + b.flags.toNat * 2 ^ 20),
   halves b.gen b.clip,
   wordOf (b.firstRow % 2 ^ 20 + maskOf b.zones * 2 ^ 20),
   halves b.fired b.lost,
   wordOf (maskOf b.lostZones + min 0xFFFFFF b.samples * 256),
   wordOf b.minDose, wordOf b.maxDose, halves (twos 16 m.l) (twos 16 m.a), halves (twos 16 m.b) m.e]

/-- The eight words of a SEGMENT's result body (01 R20, 11, 11.2). -/
def countsWords (t : Tally) : List Word :=
  [wordOf t.created, wordOf t.good, wordOf t.suspect, wordOf t.reject, wordOf t.void, wordOf t.written, wordOf t.dropped,
   wordOf t.discarded]

/-- LINESTAT: each state as it stands, in its bits (10, 10.1 and R181). -/
def State.lineStat (s : State) : Word :=
  wordOf (s.dc.line.code + s.hc.drum.code * 2 ^ 4 + s.tr.reader.code * 2 ^ 8 + s.dc.nip.code * 2 ^ 12
    + s.mr.lock.code * 2 ^ 16 + s.dc.startCause.code * 2 ^ 20 + bit01 (s.smp.soft != .off) * 2 ^ 24)

/-- A zone reading in the progress block; none is FFFFh (11, 11.4). -/
def readingHalf (z : Zone) : Nat := z.reading.getD 0xFFFF

/-- The 32 words of the progress block (11, 11.4), with the update count already advanced. -/
def progressWords (s : State) : List Word :=
  let z := s.hc.zones
  let t := s.ps.slots
  [s.smp.updateCount,
   wordOf (s.dc.line.code + s.hc.drum.code * 2 ^ 4 + s.tr.reader.code * 2 ^ 8 + s.dc.nip.code * 2 ^ 12
     + s.mr.lock.code * 2 ^ 16 + s.tr.step.code * 2 ^ 20),
   wordOf s.tr.pos, s.re.serial, wordOf s.re.lastStarted, wordOf s.bt.lastRetired, halves (s.dc.ref / 1000) s.dc.stretch,
   halves (readingHalf z.z0) (readingHalf z.z1), halves (readingHalf z.z2) (readingHalf z.z3),
   halves (readingHalf z.z4) (readingHalf z.z5), halves (readingHalf z.z6) (readingHalf z.z7),
   wordOf (twos 32 s.dc.webs.paper.tension), wordOf (twos 32 s.dc.webs.fabric.tension),
   wordOf (twos 32 s.dc.webs.tissue.tension),
   wordOf (s.mr.counterCopy % 65536 + s.bt.track.length % 256 * 65536), wordOf s.re.gaps,
   halves (twos 16 t.z0.tau) (twos 16 t.z1.tau), halves (twos 16 t.z2.tau) (twos 16 t.z3.tau),
   halves (twos 16 t.z4.tau) (twos 16 t.z5.tau), halves (twos 16 t.z6.tau) (twos 16 t.z7.tau)]
  ++ List.replicate 11 0 ++ [s.smp.updateCount]

/-- The number of records in a band state (01 R27). -/
def Tracker.countIn (b : Tracker) (st : BandState) : Nat := (b.track.filter (fun r => r.state == st)).length

/-- The depth: complete slots counted from the oldest up to the first that is not (02 R32). -/
def Raster.depth (r : Raster) : Nat := (r.slots.takeWhile RowSlot.complete).length

/-- A web's tension peak-to-peak, 0 when the records are clear (06 R132). -/
def WebLoop.peakToPeak (w : WebLoop) : Int :=
  match w.peak with
  | some p => p.hi - p.lo
  | none => 0

/-- The low and high word of a splice entry, 0 beyond the list (11, 11.6). -/
def spliceWords (l : List Nat) (i : Nat) : List Word := [wordOf (l.getD i 0 % 2 ^ 32), wordOf (l.getD i 0 / 2 ^ 32)]

/-- The 64 words of a REPORT snapshot (09 R176, 11, 11.6). -/
def snapshotWords (s : State) : List Word :=
  let n := s.bt.countIn
  let q := s.cv.list
  let z := s.hc.zones
  let t := s.ps.slots
  [wordOf (s.bt.track.length % 256 + s.re.depth % 256 * 2 ^ 8 + s.mr.lock.code * 2 ^ 16 + s.cv.status.code * 2 ^ 20
     + bit01 s.cv.drift * 2 ^ 24 + bit01 s.bt.overflow * 2 ^ 25 + min 4 s.bt.splices.length * 2 ^ 26
     + min 4 q.length * 2 ^ 29),
   wordOf ((s.bt.track.head?.map Band.number).getD 0), wordOf ((s.bt.track.getLast?.map Band.number).getD 0),
   bytesWord (n .printing) (n .travelling) (n .onDrum) (n .pastDrum),
   bytesWord (n .awaiting) (n .clearing) (n .finished) 0]
  ++ spliceWords s.bt.splices 0 ++ spliceWords s.bt.splices 1 ++ spliceWords s.bt.splices 2 ++ spliceWords s.bt.splices 3
  ++ [bytesWord ((q[0]?.map Trigger.seq).getD 0) ((q[1]?.map Trigger.seq).getD 0) ((q[2]?.map Trigger.seq).getD 0)
        ((q[3]?.map Trigger.seq).getD 0),
      wordOf ((q[0]?.map Trigger.band).getD 0), wordOf ((q[1]?.map Trigger.band).getD 0),
      wordOf ((q[2]?.map Trigger.band).getD 0), wordOf ((q[3]?.map Trigger.band).getD 0)]
  ++ z.toList.map (fun x => wordOf x.integral)
  ++ [halves z.z0.duty z.z1.duty, halves z.z2.duty z.z3.duty, halves z.z4.duty z.z5.duty, halves z.z6.duty z.z7.duty]
  ++ s.dc.webs.toList.map (fun w => wordOf (twos 32 w.peakToPeak))
  ++ [wordOf s.re.lowWater, wordOf s.re.underruns, wordOf s.re.gaps, wordOf s.cv.late, wordOf s.cv.bad, wordOf s.mr.strays,
      bytesWord (s.mr.errors % 256) (s.mr.errors / 256) s.cv.failRun s.cv.passRun,
      halves (twos 16 t.z0.tau) (twos 16 t.z1.tau), halves (twos 16 t.z2.tau) (twos 16 t.z3.tau),
      halves (twos 16 t.z4.tau) (twos 16 t.z5.tau), halves (twos 16 t.z6.tau) (twos 16 t.z7.tau)]
  ++ List.replicate 20 0

/-- The sum byte that makes the 8-bit sum of the bytes before it and itself 00h (08, 8.1). -/
def sumByte (bs : List Byte) : Byte := 0 - bs.foldl (· + ·) 0

/-- The five bytes of a MEASURE frame (08 R155, 11, 11.7). -/
def measureBytes (seq : Nat) : List Byte :=
  [0xA5, 0x01, 0x01, BitVec.ofNat 8 seq, sumByte [0x01, 0x01, BitVec.ofNat 8 seq]]

end Sys2Proof.Machine
end

