-- ==== Sys2Proof/Machine/Reader.lean ====
section
/-! DEFINITION. Sys2Proof/Machine/Reader.lean: the Ticket Reader's own moves (09): reading at the chain position, chain looks,
leaving HOLDING, refusing and finishing a ticket, the poll timer. -/

namespace Sys2Proof.Machine

/-- Enter a reader state. -/
def setReader (r : ReaderState) (s : State) : State := { s with tr.reader := r }

/-- A header, link or body read is queued or in flight. -/
def State.ticketReadInFlight (s : State) : Bool := s.smp.reads.any Transfer.isTicketRead

/-- No header write that TR waits for is outstanding (09 R168, R174b). -/
def State.canRead (s : State) : Bool := s.tr.awaitSeg.isNone && !s.smp.writes.any Transfer.awaited

/-- TR is free to make a read at the chain position. -/
def State.mayRead (s : State) : Bool := s.canRead && s.tr.ticket.isNone && !s.ticketReadInFlight && !s.softBlocks

/-- Read at the chain position at its step (09 R169): the four header words, or the link alone. -/
def issueRead (s : State) : State :=
  match s.tr.step with
  | .header => queueRead (readOf .headerRead s.tr.pos 4) s
  | .link => queueRead (readOf .linkRead s.tr.pos 1) s

/-- Enter IDLE: the halt request is cleared (09 R170). -/
def enterIdle (s : State) : State := { s with tr.reader := .idle, tr.haltReq := false, tr.awaitSeg := none }

/-- Go on in READING once the writes TR waits for have completed: to IDLE if a halt is pending, otherwise to the read at the
chain position (09 R173, R174b). -/
def trContinue (s : State) : State :=
  if s.tr.reader = .reading ∧ s.mayRead then (if s.tr.haltReq then enterIdle s else issueRead s) else s

/-- A chain look as TR takes it: in WAITING and HOLDING the read at the chain position is made (09 R174, R174a). A look in HOLDING that
falls while a header write TR waits for is outstanding is dropped, and the next look reads (log entry 56). -/
def readerLook (s : State) : State :=
  match s.tr.reader with
  | .waiting | .holding => if s.mayRead then issueRead s else s
  | .idle | .reading | .executing | .paused | .stalled => s

/-- The burst in progress becomes abandoned where a test on its client holds. -/
def dropGrant (c : Client) (t : Bool) (s : State) : State :=
  match s.smp.grant with
  | some g => if g.client = c ∧ t then { s with smp.grant := some { g with dropped := true } } else s
  | none => s

/-- Abandon the ticket read in flight; words that arrive for it are dropped (10 R185). -/
def abandonTicketRead (s : State) : State :=
  let s1 := dropGrant .read ((s.smp.reads.head?.map Transfer.isTicketRead).getD false) s
  idleCounts { s1 with smp.reads := s1.smp.reads.filter (fun t => !t.isTicketRead) }

/-- The ticket is past its checks: it is TAKEN or final (09 R172). -/
def Ticket.past (t : Ticket) : Bool := t.phase != .checking

/-- TR leaves HOLDING at a segment's PRINTED or START_REFUSED report (09 R174b): it waits for the segment's header write and
then reads on, or enters IDLE where a halt is pending. An END_SEGMENT already TAKEN stays executed as an ordinary ticket; one
whose take had not come so far stays NEW. A STALLED reader stays STALLED unless a halt is pending (09 R170, R178). That a halt's IDLE
comes at the report itself, not after BT's counts write of a segment with no band, and that with an END_SEGMENT already TAKEN it comes
at that ticket's final-state write, is log entry 55; that TR is READING while it waits is log entry 61; that the
segment's write is not waited for by a walk that GO_CHAIN begins or resumes after that IDLE or STALLED is log entry 62. -/
def leaveHolding (addr : Nat) (s : State) : State :=
  match s.tr.reader with
  | .holding =>
    if (s.tr.ticket.map Ticket.past).getD false then { s with tr.reader := .executing, tr.awaitSeg := some addr }
    else
      let s1 := abandonTicketRead { s with tr.ticket := none }
      if s1.tr.haltReq then enterIdle s1 else { s1 with tr.reader := .reading, tr.awaitSeg := some addr }
  | .stalled => if s.tr.haltReq then enterIdle s else s
  | .idle | .reading | .waiting | .executing | .paused => s

/-- Make a SEGMENT ticket's PRINTED or final-state write (09 R174b, 01 R22); TR waits for it if it left
HOLDING for READING or EXECUTING at it, and not if it was IDLE or STALLED then (log entry 62). -/
def queueSegmentHeader (addr : Nat) (notify : Bool) (st : TicketState) (status : Status) (s : State) : State :=
  let own := s.tr.awaitSeg == some addr
  let s1 := if own then { s with tr.awaitSeg := none } else s
  queueHeader addr { state := st, status := status, detail := 0, notify := notify, role := .segment own, repeating := false } s1

/-- Make the final-state write of the ticket TR is executing (09 R173). -/
def finishTicket (st : TicketState) (status : Status) (detail : Nat) (s : State) : State :=
  match s.tr.ticket with
  | some t =>
    queueHeader t.addr { state := st, status := status, detail := detail, notify := t.notify, role := .close, repeating := false }
      { s with tr.ticket := some { t with phase := .final } }
  | none => s

/-- Refuse the ticket at the chain position: written FAILED directly from NEW, and TR goes on to its link (09 R172). That outside
HOLDING the reader is READING while that write is outstanding is log entry 61. -/
def refuseTicket (notify : Bool) (status : Status) (detail : Nat) (s : State) : State :=
  let r := if s.tr.reader = .holding then .holding else .reading
  queueHeader s.tr.pos { state := .failed, status := status, detail := detail, notify := notify, role := .close, repeating := false }
    { s with tr.ticket := none, tr.reader := r }

/-- Start the poll timer from 0 with the period now in PORTCFG, unless it runs already (09 R174). -/
def pollStart (s : State) : State :=
  if s.tr.pollRunning then s
  else { s with tr.pollRunning := true, tr.pollElapsed := 0, tr.pollInForce := s.smp.pollPeriod }

/-- Stop the poll timer. -/
def pollStop (s : State) : State := { s with tr.pollRunning := false, tr.pollElapsed := 0 }

end Sys2Proof.Machine
end

