-- ==== Sys2Proof/Machine/Band.lean ====
section
/-! DEFINITION. Sys2Proof/Machine/Band.lean: retirement, tallies and finalisation (01, 1.6 and 1.7), and the position events of a
band (01, 1.3). -/

namespace Sys2Proof.Machine

/-! ## Finalisation (01 R22) -/

/-- The final state of a SEGMENT ticket by its end cause (02 R50). -/
def EndCause.final : EndCause → TicketState × Status
  | .ok => (.done, .ok)
  | .short => (.done, .short)
  | .abortedTrip => (.failed, .abortedTrip)
  | .startRefused => (.failed, .startRefused)
  | .reset => (.failed, .reset)

/-- In counter mode AUTO, a finalisation copies the mark error counter into the counter copy and clears it (07 R149). -/
def autoCount (s : State) : State :=
  match s.cfg.counterMode with
  | .auto => { s with mr.counterCopy := s.mr.errors, mr.errors := 0 }
  | .manual => s

/-- The byte address of a SEGMENT ticket's result body, body word 29 (11, 11.2). -/
def Tally.resultBody (t : Tally) : Nat := t.addr + 16 + 29 * 4

/-- The signal of a finalisation: the tally entry leaves the list and TR writes the final state (01 R22, steps 2 and 3).
That this state counts as decided here, and not at the PRINTED or START_REFUSED report, is log entry 63. -/
def signalFinal (t : Tally) (s : State) : State :=
  queueSegmentHeader t.addr t.notify t.cause.final.1 t.cause.final.2
    (autoCount { s with bt.tallies := s.bt.tallies.filter (fun u => u.id != t.id) })

/-- Make a counts write with the tally's totals (01 R20); no counts have changed since. The totals are those at the moment the write is
asked for (log entry 57). -/
def queueCounts (why : CountsFor) (t : Tally) (s : State) : State :=
  modTally t.id (fun u => { u with stale := false }) (queueWrite (writeOf (.countsWrite why) t.resultBody (countsWords t)) s)

/-- Finalise a tally entry: a counts write first if its counts have changed since the last (01 R22, step 1). -/
def finalise (id : Nat) (s : State) : State :=
  match s.tallyOf id with
  | none => s
  | some t =>
    if t.closing then s
    else if t.stale then queueCounts (.finalise id) t (modTally id (fun u => { u with closing := true }) s)
    else signalFinal t s

/-! ## Retirement (01 R17 to R20) -/

/-- Count a verdict in a tally entry (01 R17). -/
def Tally.count (v : Verdict) (t : Tally) : Tally :=
  match v with
  | .good => { t with good := t.good + 1, stale := true }
  | .suspect => { t with suspect := t.suspect + 1, stale := true }
  | .reject => { t with reject := t.reject + 1, stale := true }
  | .void => { t with void := t.void + 1, stale := true }

/-- The counts write of the retirement in progress (01 R20). -/
def startCounts (id : Nat) (s : State) : State :=
  match s.tallyOf id with
  | some t => { queueCounts .retirement t s with bt.retiring := some .counts }
  | none => { s with bt.retiring := some .counts }

/-- The record write of the retirement in progress, or its drop where the result area is full (01 R19). -/
def startRecord (b : Band) (s : State) : State :=
  match s.tallyOf b.tally with
  | some t =>
    if t.written < t.capacity then
      { queueWrite (writeOf .recordWrite (t.area + t.written * 64) (recordWords b)) s with bt.retiring := some .record }
    else startCounts b.tally (modTally b.tally (fun u => { u with dropped := u.dropped + 1, stale := true }) s)
  | none => startCounts b.tally s

/-- Start a retirement if the head record is FINISHED and none is in progress; none starts once soft reset has reached BT
(01 R17, R25). -/
def startRetirement (s : State) : State :=
  match s.bt.track with
  | [] => s
  | b :: rest =>
    if b.state = .finished ∧ s.bt.retiring.isNone ∧ s.softBlocks = false then
      let v := b.verdictOf
      let b1 := { b with verdict := some v }
      startRecord b1 (modTally b.tally (Tally.count v) { s with bt.track := b1 :: rest })
    else s

/-- The record write has ended: written or dropped, then the counts write (01 R19, R20). -/
def recordEnded (ok : Bool) (s : State) : State :=
  match s.bt.track with
  | [] => s
  | b :: _ =>
    let f : Tally → Tally := fun u =>
      if ok then { u with written := u.written + 1, stale := true } else { u with dropped := u.dropped + 1, stale := true }
    startCounts b.tally (modTally b.tally f s)

/-- The removal that ends a retirement (01 R20): the head record leaves, bands in track falls by 1, last band retired is set and
a progress block write is requested. -/
def removeHead (s : State) : State :=
  match s.bt.track with
  | [] => { s with bt.retiring := none }
  | b :: rest =>
    requestProgress (modTally b.tally (fun u => { u with inTrack := u.inTrack - 1 })
      { s with bt.track := rest, bt.retiring := none, bt.lastRetired := b.number })

/-- Finalise an entry that is PRINTED and has no band in the track (01 R20, R21). -/
def finaliseIfDone (id : Nat) (s : State) : State :=
  match s.tallyOf id with
  | some t => if t.printed ∧ t.inTrack = 0 then finalise id s else s
  | none => s

/-! ## Flags set on the drum -/

/-- STOP_EXPOSED on every band ON_DRUM as the nip leaves CLOSED (05 R107). -/
def exposeDrum (s : State) : State := modTrack (fun b => b.flagIf (b.state == .onDrum) .stopExposed) s

/-- A zone dose below the low bound (05 R108). -/
def doseLow (b : Band) (d : Nat) : Bool := d * 100 < b.dpred * (100 - b.doseTol)

/-- A zone dose above the high bound (05 R108). -/
def doseHigh (b : Band) (d : Nat) : Bool := d * 100 > b.dpred * (100 + b.doseTol)

/-- HC's dose check of a band at its midpoint-at-the-drum-exit event (05 R108, 01 R10); VOID bands are not checked. -/
def doseCheck (b : Band) : Band :=
  if b.kind = .void then b
  else (b.flagIf (b.checkedDoses.any (doseLow b)) .doseLow).flagIf (b.checkedDoses.any (doseHigh b)) .doseHigh

/-! ## Splices (01 R14 to R16) -/

/-- A band's drum span with c resolved, or with c = 0 widened at both ends by the mark window (01 R9, R15). -/
def Band.span (cfg : Settings) (b : Band) : Int × Int :=
  match b.c with
  | some c => ((b.l0 : Int) + cfg.dpnNm + c, (b.l0 : Int) + b.len + cfg.dpnNm + c)
  | none => ((b.l0 : Int) + cfg.dpnNm - cfg.h, (b.l0 : Int) + b.len + cfg.dpnNm + cfg.h)

/-- A nip position lies in the band's drum span, a closed interval. -/
def Band.hit (cfg : Settings) (b : Band) (nip : Nat) : Bool := inZ nip (b.span cfg).1 (b.span cfg).2

/-- A splice pulse (01 R14): stored or lost with overflow set, then the arrival test on every record (01 R15). -/
def splicePulse (s : State) : State :=
  let nip := s.paper + s.cfg.fnNm
  let s1 := if s.bt.splices.length < Config.spliceMax then { s with bt.splices := s.bt.splices ++ [nip] }
    else { s with bt.overflow := true }
  modTrack (fun b => b.flagIf (b.hit s.cfg nip) .splice) s1

/-- The head splice entry is due to leave: P has reached its nip position + W (01 R16). -/
def State.spliceDue (s : State) (x : Nat) : Bool := x + s.cfg.wNm ≤ s.paper

/-- Remove every splice entry that is due, and clear overflow when a removal leaves fewer than 4 entries (01 R16). -/
def removeSplices (s : State) : State :=
  let rest := s.bt.splices.dropWhile s.spliceDue
  if rest.length < s.bt.splices.length ∧ rest.length < Config.spliceMax then { s with bt.splices := rest, bt.overflow := false }
  else { s with bt.splices := rest }

/-- The entry test of the splice list at a band's drum entry (01 R15). -/
def entryTest (s : State) (b : Band) : Bool := s.bt.overflow || s.bt.splices.any (b.hit s.cfg)

/-! ## Event positions (01 R7) -/

/-- Midpoint at the nip. -/
def Band.nipAt (cfg : Settings) (b : Band) (c : Int) : Int := (b.l0 : Int) + (b.len / 2 : Nat) + cfg.dpnNm + c

/-- Midpoint at the drum exit. -/
def Band.exitAt (cfg : Settings) (b : Band) (c : Int) : Int := b.nipAt cfg c + cfg.wNm

/-- Patch at inspection. -/
def Band.patchAt (cfg : Settings) (b : Band) (c : Int) : Int := (b.l0 : Int) + b.po + cfg.dpnNm + cfg.wNm + cfg.dxiNm + c

/-- Trailing edge past inspection. -/
def Band.trailAt (cfg : Settings) (b : Band) (c : Int) : Int := (b.l0 : Int) + b.len + cfg.dpnNm + cfg.wNm + cfg.dxiNm + c

/-- RE's report that a band's printing has ended: PRINTING becomes TRAVELLING (01 R8). -/
def endPrinting (n : Nat) (s : State) : State :=
  modBand n (fun b => if b.state = .printing then { b with state := .travelling } else b) s

/-- The midpoint-at-the-nip event (01 R9). -/
def nipEvent (n : Nat) (s : State) : State :=
  modBand n (fun b =>
    match b.c with
    | some c =>
      if b.state = .travelling ∧ b.nipAt s.cfg c ≤ s.paper then
        ({ b with state := .onDrum } : Band).flagIf (entryTest s b) .splice
      else b
    | none => b) s

/-- The midpoint-at-the-drum-exit event with its dose check (01 R10). -/
def exitEvent (n : Nat) (s : State) : State :=
  modBand n (fun b =>
    match b.c with
    | some c => if b.state = .onDrum ∧ b.exitAt s.cfg c ≤ s.paper then doseCheck { b with state := .pastDrum } else b
    | none => b) s

/-- The trailing-edge-past-inspection event (01 R13). -/
def trailEvent (n : Nat) (s : State) : State :=
  modBand n (fun b =>
    match b.c with
    | some c =>
      if b.trailAt s.cfg c ≤ s.paper then
        match b.state with
        | .clearing => { b with state := .finished }
        | .awaiting => { b with trailing := true }
        | .printing | .travelling | .onDrum | .pastDrum | .finished => b
      else b
    | none => b) s

end Sys2Proof.Machine
end

