-- ==== Sys2Proof/Machine/Profile.lean ====
section
/-! DEFINITION. Sys2Proof/Machine/Profile.lean: the Profile Store (04): commit and refusal of a copied image, trim. -/

namespace Sys2Proof.Machine

/-- Change one profile slot. -/
def modSlot (i : Fin 8) (f : ProfileSlot → ProfileSlot) (s : State) : State :=
  { s with ps.slots := s.ps.slots.set i (f (s.ps.slots.get i)) }

/-- The commit of an image into a slot (04 R75): loaded fields replaced, valid, generation advanced modulo 65,536, tau initial. -/
def ProfileSlot.commit (ws : List Word) (p : ProfileSlot) : ProfileSlot :=
  { valid := true, gen := (p.gen + 1) % 65536, tau := (imageProfile ws).tauInit, prof := imageProfile ws }

/-- The copy has completed: the field checks, then the commit or the refusal (04 R75). -/
def copyEnded (ws : List Word) (s : State) : State :=
  match s.ps.staging with
  | none => s
  | some c =>
    let s1 := { s with ps.staging := none }
    match firstFail (imageChecks ws) with
    | some i => finishTicket .failed .badProfile i s1
    | none =>
      let s2 := modSlot c.target (ProfileSlot.commit ws) s1
      finishTicket .done .ok (s2.ps.slots.get c.target).gen s2

/-- A copy transfer that ends with a bus error ends the copy (04 R76). -/
def copyFailed (s : State) : State := finishTicket .failed .portError 2 { s with ps.staging := none }

/-- Flags that bar a band from the trim (04 R80). -/
def trimBars : List Flag :=
  [.stopExposed, .truncated, .underrun, .headMiss, .zoneLost, .doseLow, .doseHigh, .splice]

/-- The conditions of 04 R80 on a band and its slot. -/
def trimFresh (p : ProfileSlot) (b : Band) : Bool :=
  p.prof.trimOn && b.kind == .printed && b.meas.isSome && !b.hasAny trimBars && b.gen == p.gen && b.tau == p.tau

/-- The trim step for a lightness error (04 R81, steps 1 and 2). -/
def trimStep (l lt : Int) (gain : Nat) : Int := clampZ ((l - lt) * gain / 256) (-16) 16

/-- The new current trim (04 R81, step 3). -/
def trimNext (tau step : Int) : Int := clampZ (tau + step) (-256) 255

/-- A trim request naming a band (04 R80, R81, R164). -/
def trimRequest (n : Nat) (s : State) : State :=
  match s.bandOf n with
  | none => s
  | some b =>
    match b.meas with
    | none => s
    | some m =>
      let p := s.ps.slots.get b.slot
      if trimFresh p b then modSlot b.slot (fun q => { q with tau := trimNext q.tau (trimStep m.l b.lt q.prof.gain) }) s else s

end Sys2Proof.Machine
end

