-- ==== Sys2Proof/Machine/Verify.lean ====
section
/-! DEFINITION. Sys2Proof/Machine/Verify.lean: the Colour Verifier (08): triggers, replies, timeouts, drift, the frame receiver;
and the position events of a pulse, which offer it bands. -/

namespace Sys2Proof.Machine

/-! ## Triggers (08 R155 to R157) -/

/-- The sequence counter advances from 255 to 1, never to 0 (08 R157). -/
def nextSeq (n : Nat) : Nat := if n = 255 then 1 else n + 1

/-- Place a MEASURE frame in the transmit queue; the transmitter starts it at once when it is idle (08 R155). -/
def queueMeasure (seq : Nat) (s : State) : State :=
  let s1 := { s with cv.txq := s.cv.txq ++ [seq] }
  if s.cv.txq.isEmpty then emit (.measure (measureBytes seq)) s1 else s1

/-- CV can trigger: the instrument is READY and the list holds fewer than 4 entries (08 R157). -/
def State.canTrigger (s : State) : Bool := s.cv.status == .ready && s.cv.list.length < Config.triggerMax

/-- A PRINTED band is offered to CV at its patch event (08 R157, 01 R11). -/
def offerPatch (n : Nat) (s : State) : State :=
  if s.canTrigger then
    let e : Trigger := { seq := s.cv.seq, band := n, deadline := s.now + s.cfg.triggerTimeout }
    modBand n (fun b => { b with state := .awaiting })
      (queueMeasure s.cv.seq { s with cv.list := s.cv.list ++ [e], cv.seq := nextSeq s.cv.seq })
  else modBand n (fun b => { b.flag .unmeasured with state := .clearing }) s

/-- The patch-at-inspection event (01 R11). -/
def patchEvent (n : Nat) (s : State) : State :=
  match s.bandOf n with
  | none => s
  | some b =>
    match b.c with
    | none => s
    | some c =>
      if b.state = .pastDrum ∧ b.patchAt s.cfg c ≤ s.paper then
        match b.kind with
        | .void => modBand n (fun r => { r with state := .clearing }) s
        | .printed => offerPatch n s
      else s

/-- The position events of one band, in table order (01 R7). -/
def bandEvents (s : State) (n : Nat) : State := trailEvent n (patchEvent n (exitEvent n (nipEvent n s)))

/-- The position events of every band, oldest band first (log entry 11). -/
def trackEvents (s : State) : State := (s.bt.track.map Band.number).foldl bandEvents s

/-- The position events of a pulse with the splice removals. Where a removal is due, a free value decides whether it comes
before or after the bands' events (log entry 3). -/
def positionEvents (s : State) : State :=
  if (s.bt.splices.head?.map s.spliceDue).getD false then
    let s1 := { s with freeCount := s.freeCount + 1 }
    if Config.removalFirst s.freeCount then trackEvents (removeSplices s1) else removeSplices (trackEvents s1)
  else trackEvents s

/-! ## Drift (08 R162, R163) -/

/-- The drift test: a fail run of 3 sets drift and raises DRIFT (08 R162, R163). -/
def driftSetTest (s : State) : State :=
  if s.cv.drift = false ∧ 3 ≤ s.cv.failRun then
    raise .drift { s with cv.drift := true, cv.failRun := 0, cv.passRun := 0 }
  else s

/-- The drift test: a pass run of 16 clears drift, and raises DRIFT in edge mode BOTH (08 R162, R163). -/
def driftClearTest (s : State) : State :=
  if s.cv.drift = true ∧ 16 ≤ s.cv.passRun then
    raiseIf (s.cfg.driftEdge == .both) .drift { s with cv.drift := false, cv.failRun := 0, cv.passRun := 0 }
  else s

/-- Count a measured band toward drift (08 R162). -/
def countDrift (fail : Bool) (s : State) : State :=
  if s.cv.drift then driftClearTest { s with cv.passRun := if fail then 0 else s.cv.passRun + 1 }
  else driftSetTest { s with cv.failRun := if fail then s.cv.failRun + 1 else 0 }

/-! ## Replies and timeouts (08 R158 to R160) -/

/-- BT moves a resolved band on: CLEARING, or FINISHED if its trailing edge has passed; a FINISHED head then retires
(01 R12, R17). -/
def resolve (n : Nat) (s : State) : State :=
  startRetirement (modBand n (fun b =>
    if b.state = .awaiting then { b with state := if b.trailing then .finished else .clearing } else b) s)

/-- A measurement stored in its band, with COLOUR_FAIL where E exceeds the tolerance (08 R158, step 2). -/
def Band.measure (l a b : Int) (r : Band) : Band :=
  let e := patchError l a b r.lt r.at_ r.bt
  ({ r with meas := some ⟨l, a, b, e⟩ } : Band).flagIf (decide (r.colourTol < e)) .colourFail

/-- A measured band failed: its stored E exceeds its tolerance. -/
def State.measuredFail (s : State) (n : Nat) : Bool :=
  match s.bandOf n with
  | some b => b.has .colourFail
  | none => false

/-- A reply matched to a band's entry, with its status and measurement (08 R158, steps 2 to 4). -/
def takeReply (n : Nat) (ok : Bool) (l a b : Int) (s : State) : State :=
  if ok then
    let s1 := modBand n (Band.measure l a b) s
    resolve n (trimRequest n (countDrift (s1.measuredFail n) s1))
  else resolve n (modBand n (Band.flag .unmeasured) s)

/-- A reply arrival (08 R158, R159). -/
def replyArrival (seq : Nat) (ok : Bool) (l a b : Int) (s : State) : State :=
  match s.cv.list.find? (fun e => e.seq = seq) with
  | some e => takeReply e.band ok l a b { s with cv.list := s.cv.list.filter (fun x => x.seq != seq) }
  | none => { s with cv.late := satAdd max32 s.cv.late 1 }

/-- One timeout: the head entry leaves, its band is UNMEASURED and resolved (08 R160). -/
def timeoutHead (s : State) : State :=
  match s.cv.list with
  | [] => s
  | e :: rest =>
    if e.deadline ≤ s.now then resolve e.band (modBand e.band (Band.flag .unmeasured) { s with cv.list := rest }) else s

/-! ## The frame receiver (08 R152 to R154) -/

/-- REPLY is type 02h with 8 payload bytes, STATUS type 03h with 1 (11, 11.7); no other type is received. -/
def payloadLength (ty : Byte) : Option Nat := if ty = 0x02 then some 8 else if ty = 0x03 then some 1 else none

/-- Discard a frame: the bad-frame count rises and the receiver hunts (08 R152). -/
def badFrame (s : State) : State := { s with cv.bad := satAdd max32 s.cv.bad 1, cv.rx := .hunting }

/-- Restart the silence timer at an accepted frame (08 R153). -/
def restartSilence (s : State) : State := { s with cv.silenceOn := true, cv.silence := 0 }

/-- The instrument status a STATUS payload names (11, 11.7). -/
def statusOf (b : Byte) : Option InstrumentStatus :=
  if b = 0 then some .ready else if b = 1 then some .notReady else if b = 2 then some .cal else none

/-- Two payload bytes, low byte first, as a signed value. -/
def signedBytes (lo hi : Byte) : Int := signed16 (lo.toNat + hi.toNat * 256)

/-- What a receiver does with a byte (08 R152, R153). -/
inductive ByteResult where
  /-- The byte advances the receiver, or is dropped while hunting. -/
  | advance (rx : Receiver)
  /-- The byte discards the frame. -/
  | bad
  /-- The byte completes an accepted STATUS frame. -/
  | status (v : InstrumentStatus)
  /-- The byte completes an accepted REPLY frame. -/
  | reply (seq : Nat) (ok : Bool) (l a b : Int)
  deriving DecidableEq, Repr

/-- Payload value i of a frame. -/
def payloadAt (p : List Byte) (i : Nat) : Byte := p.getD i 0

/-- The check of a complete frame's payload values (08 R153). -/
def acceptFrame (ty : Byte) (p : List Byte) : ByteResult :=
  if ty = 0x03 then
    match statusOf (payloadAt p 0) with
    | some v => .status v
    | none => .bad
  else if payloadAt p 1 = 0 ∨ payloadAt p 1 = 1 then
    .reply (payloadAt p 0).toNat (payloadAt p 1 == 0) (signedBytes (payloadAt p 2) (payloadAt p 3))
      (signedBytes (payloadAt p 4) (payloadAt p 5)) (signedBytes (payloadAt p 6) (payloadAt p 7))
  else .bad

/-- The receiver's move on one byte, by its position (08 R152). -/
def receive (rx : Receiver) (b : Byte) (framing : Bool) : ByteResult :=
  match rx with
  | .hunting => if !framing && b == 0xA5 then .advance .type else .advance .hunting
  | .type => if framing then .bad else .advance (.length b)
  | .length ty =>
    if framing then .bad
    else match payloadLength ty with
      | some n => if b.toNat = n then .advance (.body ty n []) else .bad
      | none => .bad
  | .body ty n got =>
    if framing then .bad
    else if got.length < n then .advance (.body ty n (got ++ [b]))
    else if ty + BitVec.ofNat 8 n + got.foldl (· + ·) 0 + b = 0 then acceptFrame ty got
    else .bad

/-- More than 5 ms have passed since the last byte of a frame (08 R152). -/
def State.gapPassed (s : State) : Bool := s.cv.rx != .hunting && 5 < s.cv.rxGap

/-- Discard a frame whose next byte has not come within 5 ms (08 R152). -/
def gapTest (s : State) : State := if s.gapPassed then badFrame s else s

/-- What a byte does to CV: the gap is tested first, then the byte is taken at the receiver's position (08 R152 to R154). -/
def takeByte (b : Byte) (framing : Bool) (s : State) : State :=
  let s1 := gapTest s
  let s2 := { s1 with cv.rxGap := 0 }
  match receive s1.cv.rx b framing with
  | .advance rx => { s2 with cv.rx := rx }
  | .bad => badFrame s2
  | .status v => restartSilence { s2 with cv.rx := .hunting, cv.status := v }
  | .reply seq ok l a m => replyArrival seq ok l a m (restartSilence { s2 with cv.rx := .hunting })

/-- What the receiver would do with a byte that arrives now. -/
def State.byteResult (s : State) (b : Byte) (framing : Bool) : ByteResult := receive (gapTest s).cv.rx b framing

end Sys2Proof.Machine
end

