-- ==== Sys2Proof/Machine/Mark.lean ====
section
/-! DEFINITION. Sys2Proof/Machine/Mark.lean: the Mark Reader (07): windows, reads, the lock machine, the mark error counter. -/

namespace Sys2Proof.Machine

/-- The expected band: the oldest whose mark is unresolved (07 R139). -/
def State.expected (s : State) : Option Band := s.bt.track.find? (fun b => b.c.isNone)

/-- The half-width H of a window: four times h in SEARCH (07 R139). -/
def State.halfWindow (s : State) : Nat := if s.mr.lock = .search then 4 * s.cfg.h else s.cfg.h

/-- A band's expected mark position x (01 R7, 07 R139). -/
def Band.markAt (cfg : Settings) (b : Band) : Nat := b.l0 + cfg.dpmNm

/-- Resolve a band's mark: its correction, and a mark flag where one is set; a second resolution is ignored (01 R2). -/
def resolveMark (n : Nat) (c : Int) (flag : Option Flag) (s : State) : State :=
  modBand n (fun b =>
    match b.c with
    | some _ => b
    | none =>
      match flag with
      | some f => { b.flag f with c := some c }
      | none => { b with c := some c }) s

/-- Enter a lock state: both runs 0, a progress block write requested, LOCK raised by the edge mode (07 R145, R147). -/
def setLock (l : LockState) (s : State) : State :=
  raiseIf (s.cfg.lockEdge == .both || l == .lost) .lock
    (requestProgress { s with mr.lock := l, mr.found := 0, mr.miss := 0 })

/-- The found run reaching 3 in SEARCH or LOST (07 R145). -/
def lockAcquireTest (s : State) : State := if s.mr.lock ≠ .locked ∧ 3 ≤ s.mr.found then setLock .locked s else s

/-- The miss run reaching 4 in LOCKED (07 R145). -/
def lockLoseTest (s : State) : State := if s.mr.lock = .locked ∧ 4 ≤ s.mr.miss then setLock .lost s else s

/-- Count a FOUND and test the lock (07 R145). The run is held in 0..3. -/
def countFound (s : State) : State := lockAcquireTest { s with mr.found := min 3 (s.mr.found + 1), mr.miss := 0 }

/-- Count a MISMATCH or MISSED and test the lock (07 R145). The run is held in 0..4. -/
def countMiss (s : State) : State := lockLoseTest { s with mr.miss := min 4 (s.mr.miss + 1), mr.found := 0 }

/-- Add 1 to the mark error counter; the increment that brings it to 65,535 raises COUNTER (07 R148). -/
def addError (s : State) : State :=
  if s.mr.errors < 65535 then raiseIf (s.mr.errors + 1 == 65535) .counter { s with mr.errors := s.mr.errors + 1 } else s

/-- Add 1 to the counter where its source counts this kind of fault. -/
def addErrorIf (t : Bool) (s : State) : State := if t then addError s else s

/-- The source counts MISSED outcomes (07 R148). -/
def CounterSource.missed? : CounterSource → Bool
  | .missed | .both => true
  | .mismatch => false

/-- The source counts MISMATCH outcomes and strays (07 R148). -/
def CounterSource.mismatch? : CounterSource → Bool
  | .mismatch | .both => true
  | .missed => false

/-- A MISSED outcome (07 R143). -/
def markMissed (b : Band) (s : State) : State :=
  addErrorIf s.cfg.counterSource.missed? (countMiss (resolveMark b.number s.mr.ccur (some .markMissed) s))

/-- A stray (07 R144). -/
def markStray (s : State) : State :=
  addErrorIf s.cfg.counterSource.mismatch? { s with mr.strays := satAdd max32 s.mr.strays 1 }

/-- Close every window wholly behind P, in band order (07 R143); at most one per record. -/
def closeWindowsN : Nat → State → State
  | 0, s => s
  | n + 1, s =>
    match s.expected with
    | none => s
    | some b => if b.markAt s.cfg + s.halfWindow < s.paper then closeWindowsN n (markMissed b s) else s

/-- Test the window ends against P (07 R143). -/
def closeWindows (s : State) : State := closeWindowsN s.bt.track.length s

/-- A read's error e, clamped to ±h (07 R141). -/
def markError (cfg : Settings) (x position : Nat) : Int := clampZ ((position : Int) - x) (-(cfg.h : Int)) cfg.h

/-- After a FOUND's count, C_cur becomes its e if the lock state is LOCKED (07 R146). -/
def takeCorrection (e : Int) (s : State) : State := if s.mr.lock = .locked then { s with mr.ccur := e } else s

/-- A FOUND outcome (07 R141): the window ends are tested again, since H may have narrowed (07 R143). C_cur is set before that test,
which R146 and R143 do not order (log entry 52). -/
def markFound (b : Band) (position : Nat) (s : State) : State :=
  let x := b.markAt s.cfg
  let e := markError s.cfg x position
  closeWindows (takeCorrection e (countFound { resolveMark b.number e none s with mr.lastRead := some ⟨b.number, x⟩ }))

/-- A MISMATCH outcome (07 R142). -/
def markMismatch (b : Band) (s : State) : State :=
  addErrorIf s.cfg.counterSource.mismatch?
    (countMiss { resolveMark b.number s.mr.ccur (some .markMismatch) s with mr.lastRead := some ⟨b.number, b.markAt s.cfg⟩ })

/-- The read repeats the mark of the last read band (07 R140, step 4). -/
def State.repeats (s : State) (code : Byte) (ok : Bool) (position : Nat) : Bool :=
  match s.mr.lastRead with
  | some r => ok && code.toNat == r.number % 256 && r.x ≤ position + s.halfWindow && position ≤ r.x + s.halfWindow
  | none => false

/-- The steps that settle a read, taken in order (07 R140); step 2 comes back to step 1 at most once per record. -/
def settleRead (code : Byte) (ok : Bool) (position : Nat) : Nat → State → State
  | 0, s => markStray s
  | n + 1, s =>
    match s.expected with
    | none => markStray s
    | some b =>
      let x := b.markAt s.cfg
      if x + s.halfWindow < position then settleRead code ok position n (markMissed b s)
      else if position + s.halfWindow < x then markStray s
      else if s.repeats code ok position then markStray s
      else if ok ∧ code.toNat = b.number % 256 then markFound b position s
      else markMismatch b s

/-- A read of the band-mark reader (07 R140). -/
def takeMark (code : Byte) (ok : Bool) (position : Nat) (s : State) : State :=
  settleRead code ok position (s.bt.track.length + 1) s

/-- MR's reset values after soft reset (07 R151); the return to SEARCH is a lock change when the state was another (R147). The
progress block write is requested in SEARCH too (log entry 53). -/
def marksSoftReset (s : State) : State :=
  let s1 := if s.mr.lock = .search then requestProgress s
    else raiseIf (s.cfg.lockEdge == .both) .lock (requestProgress s)
  { s1 with mr.lock := .search, mr.found := 0, mr.miss := 0, mr.ccur := 0, mr.errors := 0, mr.lastRead := none }

end Sys2Proof.Machine
end

