-- ==== Sys2Proof/Machine/Heat.lean ====
section
/-! DEFINITION. Sys2Proof/Machine/Heat.lean: the Heat Controller (05): SET_HEAT, the ramp, the stages of a heat sample, trips. -/

namespace Sys2Proof.Machine

/-- Enter a drum state: each change raises DRUM and requests a progress block write (05 R104). -/
def setDrum (d : DrumState) (s : State) : State :=
  if s.hc.drum = d then s else requestProgress (raise .drum { s with hc.drum := d })

/-- Change every zone. -/
def modZones (f : Zone → Zone) (s : State) : State := { s with hc.zones := s.hc.zones.map f }

/-- Some zone is enabled. -/
def Heat.anyEnabled (h : Heat) : Bool := h.zones.toList.any Zone.enabled

/-- The enabled-zone mask (05 R86). -/
def Heat.mask (h : Heat) : Oct Bool := h.zones.map Zone.enabled

/-- Entry to REGULATE from a valid reading (05 R88). -/
def Zone.regulateFrom (reading : Nat) (z : Zone) : Zone :=
  { z with state := .regulate, eff := min reading 2300, integral := 0, validRun := 0 }

/-- What an OFF zone holds (05 R88). -/
def Zone.turnOff (z : Zone) : Zone := { z with state := .off, eff := 0, integral := 0, duty := 0, validRun := 0 }

/-! ## SET_HEAT (05 R89 to R91) -/

/-- A zone given its new target and enable bit, and settled by the table of 05 R90. -/
def Zone.retarget (target : Nat) (enable : Bool) (z : Zone) : Zone :=
  let n : Zone := { z with target := target, enable := enable }
  match z.enabled, n.enabled with
  | false, false => n.turnOff
  | false, true =>
    match z.reading with
    | some r => n.regulateFrom r
    | none => { n with state := .lost, validRun := 0 }
  | true, false => n.turnOff
  | true, true => n

/-- The zone's part in a setpoint change: newly enabled, or its target moved by more than 30 (05 R91). -/
def Zone.changed (z n : Zone) : Bool :=
  n.enabled && (!z.enabled || (z.target + 30 < n.target || n.target + 30 < z.target))

/-- The targets of a SET_HEAT body, clamped. -/
def heatTarget (ws : List Word) (i : Fin 8) : Nat := clampN (natAt ws i.val) 0 2300

/-- The zones after a SET_HEAT. -/
def heatZones (ws : List Word) (zs : Oct Zone) : Oct Zone :=
  Oct.ofFn (fun i => (zs.get i).retarget (heatTarget ws i) (bitAt (wordAt ws 8) i.val))

/-- The drum state after a SET_HEAT (05 R91), from the zones before and after it. -/
def heatDrum (before after : Oct Zone) (d : DrumState) : DrumState :=
  if d = .tripped then .tripped
  else if !(after.toList.any Zone.enabled) then .cold
  else if d = .cold then .heating
  else if (Oct.ofFn (fun i => (before.get i).changed (after.get i))).toList.any id then .heating
  else d

/-- HC takes a SET_HEAT (05 R89 to R91). Entry to HEATING, from HEATING too, sets the settle count to 0. A ticket that leaves no zone
enabled makes the drum COLD with the settle count it had, to which R91 gives no value (log entry 54). -/
def takeHeat (ws : List Word) (s : State) : State :=
  let before := s.hc.zones
  let after := heatZones ws before
  let d := heatDrum before after s.hc.drum
  let restart := d == .heating && (s.hc.drum == .cold || (Oct.ofFn (fun i => (before.get i).changed (after.get i))).toList.any id)
  setDrum d { s with
    hc.zones := after,
    hc.settle := if restart then 0 else s.hc.settle,
    hc.ton := clampN (natAt ws 9) 1200 1900,
    hc.ramp := clampN (natAt ws 10) 1 100,
    hc.kp := clampN (natAt ws 11) 0 255,
    hc.ki := clampN (natAt ws 12) 0 255,
    hc.retain := bitAt (wordAt ws 13) 0 }

/-! ## The ramp (05 R92) -/

/-- One ramp step of a zone. -/
def Zone.ramp (rate : Nat) (z : Zone) : Zone :=
  if z.state = .regulate then
    if z.eff < z.target then { z with eff := min z.target (z.eff + rate) }
    else if z.target < z.eff then { z with eff := max z.target (z.eff - rate) }
    else z
  else z

/-! ## The heat sample (05 R93) -/

/-- A channel's reading: 0..2600 with the fault flag clear is valid (05 R87). -/
def channelReading (c : Channel) : Option Nat := if c.fault || 2600 < c.value.toNat then none else some c.value.toNat

/-- Stage 2 for one zone: loss (05 R96) and recovery (05 R97). -/
def Zone.lossRecovery (z : Zone) : Zone :=
  match z.state, z.reading with
  | .regulate, none => { z with state := .lost, duty := 0, integral := 0, validRun := 0 }
  | .lost, some r => if 19 ≤ z.validRun then z.regulateFrom r else { z with validRun := z.validRun + 1 }
  | .lost, none => { z with validRun := 0 }
  | .off, _ | .regulate, some _ => z

/-- Stage 3 for one zone: the relative and the absolute over-temperature test (05 R100). -/
def Zone.over (z : Zone) : Bool :=
  match z.reading with
  | some r => (z.state == .regulate && z.eff + 150 < r) || 2450 < r
  | none => false

/-- A trip: duty, heater output and integral 0 in every zone (05 R100, R101). -/
def Zone.cut (z : Zone) : Zone := { z with duty := 0, integral := 0 }

/-- The drum becomes TRIPPED (05 R100, R101). The settle count is kept, to which the manual gives no value here (log entry 54). -/
def tripDrum (s : State) : State := setDrum .tripped (modZones Zone.cut s)

/-- The dose a zone gives a band at one sample (05 R105). -/
def Zone.dose (ton : Nat) (z : Zone) : Nat :=
  match z.reading with
  | some r => if z.enabled && z.state == .regulate then 5 * (r - ton) else 0
  | none => 0

/-- The zone is enabled and LOST (05 R106). -/
def Zone.missing (z : Zone) : Bool := z.enabled && z.state == .lost

/-- Stage 4 for one band: dose, sample count, ZONE_LOST and the lost-zone mask (05 R105, R106). -/
def accrue (zones : Oct Zone) (ton : Nat) (b : Band) : Band :=
  if b.state = .onDrum then
    ({ b with
        doses := Oct.ofFn (fun i => satAdd max32 (b.doses.get i) ((zones.get i).dose ton)),
        samples := satAdd max32 b.samples 1,
        lostZones := Oct.ofFn (fun i => b.lostZones.get i || (zones.get i).missing) } : Band).flagIf
      (zones.toList.any Zone.missing) .zoneLost
  else b

/-- Stage 5 for one zone while the drum is not TRIPPED (05 R94). -/
def Zone.regulate (kp ki : Nat) (z : Zone) : Zone :=
  match z.state, z.reading with
  | .regulate, some t =>
    let e : Int := (z.eff : Int) - t
    let hold := (z.duty == 1000 && decide (0 < e)) || (z.duty == 0 && decide (e < 0))
    let i : Nat := if hold then z.integral else (clampZ (z.integral + ki * e) 0 256000).toNat
    { z with integral := i, duty := (clampZ (kp * e / 16 + (i / 256 : Nat)) 0 1000).toNat }
  | .off, _ | .lost, _ | .regulate, none => { z with duty := 0 }

/-- The zone counts for settling: REGULATE with a reading within its target ± 30 (05 R98). -/
def Zone.settled (z : Zone) : Bool :=
  match z.reading with
  | some r => z.state == .regulate && r ≤ z.target + 30 && z.target ≤ r + 30
  | none => false

/-- The zone breaks the deviation band: LOST, or more than 80 from its target (05 R99). -/
def Zone.deviates (z : Zone) : Bool :=
  z.state == .lost ||
  match z.reading with
  | some r => z.target + 80 < r || r + 80 < z.target
  | none => false

/-- The settle count reaching 200 makes the drum AT_TEMP (05 R98). -/
def settleTest (s : State) : State :=
  if (s.hc.drum = .heating ∨ s.hc.drum = .deviation) ∧ 200 ≤ s.hc.settle then setDrum .atTemp s else s

/-- Stage 6: the settle and deviation tests (05 R98, R99). -/
def judgeDrum (s : State) : State :=
  let on := s.hc.zones.toList.filter Zone.enabled
  match s.hc.drum with
  | .heating | .deviation =>
    settleTest { s with hc.settle := if on.all Zone.settled then min 200 (s.hc.settle + 1) else 0 }
  | .atTemp => if on.any Zone.deviates then setDrum .deviation { s with hc.settle := 0 } else s
  | .cold | .tripped => s

/-- Stages 1 and 2: all eight readings, then loss and recovery. -/
def takeReadings (ch : Oct Channel) (s : State) : State :=
  { s with hc.zones := Oct.ofFn (fun i => Zone.lossRecovery { s.hc.zones.get i with reading := channelReading (ch.get i) }) }

/-- Stage 3's test over all zones, made unless the drum is already TRIPPED. -/
def State.overTemp (s : State) : Bool := s.hc.drum != .tripped && s.hc.zones.toList.any Zone.over

/-- Stage 4: dose for every band ON_DRUM if the nip is CLOSED (05 R105, R106). -/
def doseStage (s : State) : State :=
  if s.dc.nip = .closed then modTrack (accrue s.hc.zones s.hc.ton) s else s

/-- Stage 5: duties, 0 in every zone while the drum is TRIPPED (05 R94, R95). -/
def dutyStage (s : State) : State :=
  if s.hc.drum = .tripped then modZones (fun z => { z with duty := 0 }) s else modZones (Zone.regulate s.hc.kp s.hc.ki) s

/-- The stages of a heat sample; the fast-stop request of a trip is DC's to act on when the sample is done (05 R93). -/
def heatStages (ch : Oct Channel) (s : State) : State :=
  let s2 := takeReadings ch s
  let s3 := if s2.overTemp then tripDrum s2 else s2
  judgeDrum (dutyStage (doseStage s3))

/-! ## CLEAR_TRIP and soft reset at HC (05 R103, R110) -/

/-- The zone's readings permit a clear (05 R103). -/
def Zone.cool (z : Zone) : Bool :=
  match z.reading with
  | some r => r ≤ 2450 && (!z.enabled || r ≤ z.target + 150)
  | none => true

/-- Re-entry to REGULATE at a clear (05 R103). -/
def Zone.reenter (z : Zone) : Zone :=
  match z.state, z.reading with
  | .regulate, some r => z.regulateFrom r
  | .regulate, none | .off, _ | .lost, _ => z

/-- CLEAR_TRIP as HC takes it (05 R103). The settle count becomes 0 at COLD too, where the manual is silent (log entry 54). -/
def clearDrum (s : State) : State :=
  if s.hc.drum = .tripped ∧ s.pins.mainsOk ∧ s.dc.line ≠ .powerStop ∧ s.dc.line ≠ .powerHeld ∧ s.hc.zones.toList.all Zone.cool then
    setDrum (if s.hc.anyEnabled then .heating else .cold) { modZones Zone.reenter s with hc.settle := 0 }
  else s

/-- Soft reset as HC takes it (05 R110). Without RETAIN the settle count stays as it was, COLD or TRIPPED, where the manual is silent
(log entry 54). -/
def heatSoftReset (s : State) : State :=
  if s.hc.retain then s
  else
    let s1 := modZones (fun z => { z.turnOff with target := 0, enable := false }) s
    if s.hc.drum = .tripped then s1 else setDrum .cold s1

end Sys2Proof.Machine
end

