-- ==== Sys2Proof/Machine/Stops.lean ====
section
/-! DEFINITION. Sys2Proof/Machine/Stops.lean: how a segment ends (02, 2.8), how the nip and the line change state, and how the
line stops and starts (06, 6.2 to 6.6). -/

namespace Sys2Proof.Machine

/-! ## Discarding rows and ending a segment -/

/-- Discard the slots a test picks; the fetch in flight for one of them is abandoned (02 R35). -/
def discardSlots (p : RowSlot → Bool) (s : State) : State :=
  let s1 := dropGrant .row ((s.re.filling.map p).getD false) s
  idleCounts { s1 with re.slots := s1.re.slots.filter (fun x => !p x) }

/-- RE empties its buffer, clears the segment context and the end pending, and enters IDLE (02 R50, R53). -/
def clearSegment (s : State) : State :=
  let s1 := discardSlots (fun _ => true) s
  let s2 := { s1 with re.raster := .idle, re.seg := none, re.ending := .none, re.band := none, re.fetchOn := false,
                      re.fullWait := false, re.autoRetry := false }
  if s.re.raster = .printing then pollStart s2 else s2

/-- The status a PRINTED write shows for an end cause (02 R50). -/
def EndCause.status (c : EndCause) : Status := c.final.2

/-- The PRINTED report (02 R50): RE hands the ended segment over; BT stores the cause and finalises at once when no band is in the
track (01 R21); otherwise TR writes the ticket PRINTED. -/
def printedReport (cause : EndCause) (s : State) : State :=
  match s.re.seg with
  | none => s
  | some g =>
    let s1 := leaveHolding g.addr (modTally g.tally (fun t => { t with printed := true, cause := cause }) (clearSegment s))
    match s1.tallyOf g.tally with
    | some t => if t.inTrack = 0 then finalise g.tally s1 else queueSegmentHeader g.addr false .printed cause.status s1
    | none => s1

/-- A refused AUTO_START ends the segment without a PRINTED report (02 R51, 01 R21). -/
def refuseSegment (s : State) : State :=
  match s.re.seg with
  | none => s
  | some g =>
    finalise g.tally (leaveHolding g.addr (modTally g.tally (fun t => { t with cause := .startRefused }) (clearSegment s)))

/-- Firing stops for a fast stop or power stop (02 R49): the band in PRINTING gets TRUNCATED and ends; the segment is reported
PRINTED with ABORTED_TRIP. -/
def abortSegment (s : State) : State :=
  match s.re.band with
  | some c => printedReport .abortedTrip (endPrinting c.number (modBand c.number (Band.flag .truncated) s))
  | none => printedReport .abortedTrip s

/-! ## The line and nip states -/

/-- The line states in which deviation runs are counted (06 R129). -/
def LineState.counts : LineState → Bool
  | .running | .draining => true
  | .stopped | .starting | .stopping | .tripped | .powerStop | .powerHeld => false

/-- Enter a line state: each change raises LINE and requests a progress block write (06 R111), returns the nip-hold timer to 0
(06 R125), and leaves every deviation run 0 outside RUNNING and DRAINING (06 R129). -/
def setLine (l : LineState) (s : State) : State :=
  if s.dc.line = l then s
  else
    let webs := if l.counts then s.dc.webs else s.dc.webs.map (fun w => { w with run := 0 })
    requestProgress (raise .line { s with dc.line := l, dc.nipHold := 0, dc.webs := webs })

/-- Enter a nip state: each change requests a progress block write (06 R123); leaving CLOSED exposes the bands on the drum
(05 R107). -/
def setNip (n : NipState) (s : State) : State :=
  if s.dc.nip = n then s
  else
    let s1 := requestProgress { s with dc.nip := n }
    if s.dc.nip = .closed then exposeDrum s1 else s1

/-- The nip commanded open (06 R122, R123). -/
def nipOpenCommand (s : State) : State :=
  match s.dc.nip with
  | .closed | .closing => { setNip .opening s with dc.valve := .opening, dc.nipTimer := some s.cfg.nipTravel }
  | .opened | .opening | .fault => s

/-- The nip commanded closed (06 R115, R123). -/
def nipCloseCommand (s : State) : State :=
  match s.dc.nip with
  | .opened => { setNip .closing s with dc.valve := .closing, dc.nipTimer := some s.cfg.nipTravel }
  | .closing | .closed | .opening | .fault => s

/-- Every web's integral, demand and deviation run become 0 (06 R117, R119, R121). -/
def zeroLoops (s : State) : State :=
  { s with dc.webs := s.dc.webs.map (fun w => { w with integral := 0, demand := 0, run := 0 }) }

/-! ## STOP tickets (06 R118) -/

/-- Settle a STOP ticket that DC holds by the line state: DONE in STOPPED, FAILED ABORTED_TRIP in TRIPPED, POWER_STOP and
POWER_HELD; otherwise it stays TAKEN. That a mains change settles it so after soft reset has reached TR too, before TR's step 4 (09 R180),
is log entry 60. -/
def settleStop (s : State) : State :=
  match s.tr.ticket with
  | some t =>
    if t.kind = .stop ∧ t.phase = .handed then
      match s.dc.line with
      | .stopped => finishTicket .done .ok 0 s
      | .tripped | .powerStop | .powerHeld => finishTicket .failed .abortedTrip 0 s
      | .starting | .running | .draining | .stopping => s
    else s
  | none => s

/-! ## Stopping (06 R116 to R119) -/

/-- Begin a normal stop (06 R117). With the reference at 0 already, it ends at the next test for speed 0 (log entry 47). -/
def normalStop (s : State) : State := nipOpenCommand (setLine .stopping { s with dc.stopKind := .normal })

/-- BT's track-empty report ends DRAINING (06 R117). -/
def drainEnd (s : State) : State := if s.dc.line = .draining ∧ s.bt.track = [] then normalStop s else s

/-- RE takes the entry to DRAINING (02 R48). No fetch of a later band's row starts while the drain is pending, and those already started go
on (log entry 58). -/
def drainEntry (s : State) : State :=
  match s.re.raster with
  | .priming | .between => printedReport .short s
  | .printing => if s.re.ending = .none then { s with re.ending := .drain } else s
  | .idle => s

/-- A stop request (06 R116). -/
def stopRequest (s : State) : State :=
  match s.dc.line with
  | .running => drainEnd (drainEntry (setLine .draining s))
  | .starting => normalStop s
  | .draining | .stopping | .stopped | .tripped | .powerStop | .powerHeld => s

/-- The line states in which a fast-stop cause begins a fast stop (06 R119). -/
def State.canFastStop (s : State) : Bool :=
  match s.dc.line with
  | .starting | .running | .draining => true
  | .stopping => s.dc.stopKind == .normal
  | .stopped | .tripped | .powerStop | .powerHeld => false

/-- A fast-stop cause (06 R119, 09 R177). With the reference at 0 already, the stop ends at the next test for speed 0 (log entry
47). -/
def fastStop (s : State) : State :=
  if s.canFastStop then
    let s1 := nipOpenCommand (abortSegment s)
    setLine .stopping { s1 with dc.stopKind := .fast, tr.pauseReq := true }
  else s

/-- The nip enters FAULT: the travel timer stops, the valve is commanded open, and it is a fast-stop cause (06 R123, R124). -/
def nipFault (s : State) : State := fastStop { setNip .fault s with dc.nipTimer := none, dc.valve := .opening }

/-! ## Starting (06 R114, R115, 02 R51) -/

/-- The permission test of a start in STOPPED; the first that fails gives the cause (06 R114). -/
def State.startTest (s : State) : Option StartCause :=
  if s.hc.drum ≠ .atTemp then some .drumNotReady
  else if s.dc.nip ≠ .opened then some .nipNotOpen
  else if !(s.dc.webs.toList.all WebLoop.inRange) || s.pins.broken.paper || s.pins.broken.infeed || s.pins.broken.drum then
    some .sensor
  else none

/-- A refused start: its cause is recorded and LINE raised (06 R114). -/
def refuseStart (c : StartCause) (s : State) : State := raise .line { s with dc.startCause := c }

/-- An accepted start: STARTING with every integral and deviation run 0 (06 R114, R115). -/
def acceptStart (s : State) : State :=
  setLine .starting { s with dc.startCause := .none, dc.webs := s.dc.webs.map (fun w => { w with integral := 0, run := 0 }) }

/-- An AUTO_START request of a PRIMING segment while the line is STOPPED (02 R51). -/
def autoStart (s : State) : State :=
  if s.re.raster = .priming ∧ (s.re.seg.map Segment.autoStart).getD false ∧ s.dc.line = .stopped then
    match s.startTest with
    | none => { acceptStart s with re.autoRetry := false }
    | some c =>
      let s1 := refuseStart c s
      if c = .drumNotReady ∧ s.hc.drum = .heating then { s1 with re.autoRetry := true } else refuseSegment s1
  else s

/-- The line enters STOPPED: a STOP ticket is settled and a waiting AUTO_START segment asks (06 R117, R118). -/
def enterStopped (s : State) : State := autoStart (settleStop (setLine .stopped s))

/-- The line enters TRIPPED: a STOP ticket is settled (06 R118, R119). -/
def enterTripped (s : State) : State := settleStop (setLine .tripped s)

/-- A chain look (09 R174): TR's read, and in HOLDING the AUTO_START retry that RE asks for (02 R51). -/
def chainLook (s : State) : State :=
  let s1 := readerLook s
  if s.tr.reader = .holding ∧ s.re.autoRetry then autoStart s1 else s1

/-- RE announces a band boundary: a chain look while the line is moving (09 R174). -/
def bandBoundary (s : State) : State := if s.dc.line.moving then chainLook s else s

end Sys2Proof.Machine
end

