-- ==== Sys2Proof/Machine/Raster.lean ====
section
/-! DEFINITION. Sys2Proof/Machine/Raster.lean: the Raster Engine (02): the fetcher, band start, row events, the band mark, and the
taking of an END_SEGMENT. -/

namespace Sys2Proof.Machine

/-! ## The fetcher (02 R33) -/

/-- The first band index from `k` on that is not on the void list; the fuel is the list's length. -/
def skipVoids (voids : List Nat) : Nat → Nat → Nat
  | 0, k => k
  | n + 1, k => if voids.contains k then skipVoids voids n (k + 1) else k

/-- The band index of the next row the fetcher would fetch. -/
def Raster.nextBand (r : Raster) (g : Segment) : Nat :=
  if r.fetchRow = 0 then skipVoids g.voids g.voids.length r.fetchBand else r.fetchBand

/-- No row beyond the current band is fetched while an end is pending. -/
def Raster.mayFetchBand (r : Raster) (g : Segment) (k : Nat) : Bool :=
  (g.count == 0 || k < g.count) && (r.ending == .none || (r.band.map (fun c => decide (k ≤ c.index))).getD false)

/-- The repeat row printed by row `i` of the band with index `k` (02 R31). -/
def Segment.repeatRow (g : Segment) (k i : Nat) : Nat := (g.first + k * g.bandRows + i) % g.rows

/-- Start one row fetch into an empty slot, if a row remains to be fetched. -/
def fetchOne (s : State) : State :=
  match s.re.seg with
  | none => s
  | some g =>
    let k := s.re.nextBand g
    if s.re.fetchOn && s.re.slots.length < Config.slotMax && s.re.mayFetchBand g k then
      let slot : RowSlot :=
        { band := k, row := s.re.fetchRow, repeatRow := g.repeatRow k s.re.fetchRow, words := [], complete := false }
      let last := s.re.fetchRow + 1 = g.bandRows
      { s with re.slots := s.re.slots ++ [slot], re.fetchBand := if last then k + 1 else k,
               re.fetchRow := if last then 0 else s.re.fetchRow + 1 }
    else s

/-- Start fetches while a slot is empty and a row remains (02 R33). -/
def fetchRun (s : State) : State := times (Config.slotMax - s.re.slots.length) fetchOne s

/-- The byte address of a slot's row (02 R33). -/
def Segment.rowAddress (g : Segment) (x : RowSlot) : Nat := g.base + x.repeatRow * g.stride

/-! ## The band mark (02 R43, 11 R193) -/

/-- The number of one bits of an 8-bit code. -/
def onesIn (n : Nat) : Nat := ((List.range 8).map (fun i => n / 2 ^ i % 2)).sum

/-- The mark's check: the number of one bits in the code, mod 4; inverted on band index 0 of a TEST_MARK segment. -/
def markCheck (code : Nat) (test : Bool) : Nat := if test then 3 - onesIn code % 4 else onesIn code % 4

/-- Row `i` of the mark prints a bar (11 R193). -/
def markBar (code check i : Nat) : Bool :=
  if i < 2 then true else if i < 10 then code.testBit (9 - i) else if i < 12 then check.testBit (11 - i)
  else if i < 14 then false else true

/-- The mark part a row of a band carries: on rows 0 to 15, level 3 on every selvedge nozzle for a bar and level 0 for a space
(02 R43, 11 R193). -/
def markPart (g : Segment) (c : BandContext) : Option Nat :=
  if c.next < 16 then
    some (if markBar (c.number % 256) (markCheck (c.number % 256) (g.testMark && c.index == 0)) c.next then 3 else 0)
  else none

/-! ## Row events (02 R39 to R42) -/

/-- All head links are ready: at least one is present and every one present is ready (02 R40). -/
def headReady (h : HeadLines) : Bool := h.present != 0 && h.present &&& ~~~h.ready == 0

/-- Send a row to every head link if all are ready. -/
def sendRow (levels : List (Ink Nat)) (mark : Option Nat) (s : State) : State :=
  if headReady s.pins.head then emit (.headRow levels mark) s else s

/-- The oldest row leaves the buffer, and the fetcher goes on (02 R32, R33). -/
def consumeRow (s : State) : State := fetchRun { s with re.slots := s.re.slots.tail }

/-- An underrun (02 R41): the row lost, UNDERRUN, blanking, the counter and the notice, and the band's rows discarded; the fetcher
goes on at row 0 of the next band it would fetch, or, where it has begun a later band already, at that band's next row (log entry 59). -/
def underrun (c : BandContext) (s : State) : State :=
  let s1 := modBand c.number (fun b => { b.flag .underrun with lost := b.lost + 1 }) s
  let s2 := raise .underrun { s1 with re.underruns := satAdd max32 s1.re.underruns 1, re.band := some { c with blank := true } }
  let s3 := discardSlots (fun x => x.band == c.index) s2
  fetchRun (if s3.re.fetchBand ≤ c.index then { s3 with re.fetchBand := c.index + 1, re.fetchRow := 0 } else s3)

/-- Count a low-water row event: the depth before it was 1 or 2 (02 R40). -/
def countLowWater (s : State) : State :=
  if s.re.depth ≤ 2 then { s with re.lowWater := satAdd max32 s.re.lowWater 1 } else s

/-- A row event with a complete row at the buffer's head: fired if all head links are ready, otherwise lost with HEAD_MISS
(02 R40). -/
def fireRow (g : Segment) (c : BandContext) (x : RowSlot) (s : State) : State :=
  let p := (s.ps.slots.get g.slot).prof
  let s1 := countLowWater s
  if headReady s.pins.head then
    let comp := ((s.bandOf c.number).map Band.g).getD 1024
    consumeRow (emit (.headRow (rowLevels p comp x.repeatRow 0 x.words) (markPart g c))
      (modBand c.number (fun b => { b with fired := b.fired + 1, clip := satAdd 65535 b.clip (rowClips p x.words) }) s1))
  else consumeRow (modBand c.number (fun b => { b.flag .headMiss with lost := b.lost + 1 }) s1)

/-- The outcome of a row event by kind, blanking and depth (02 R40, R41, R44). -/
def rowOutcome (g : Segment) (c : BandContext) (s : State) : State :=
  match c.kind with
  | .void => sendRow (blankRow g.width) (markPart g c) s
  | .printed =>
    if c.blank then sendRow (blankRow g.width) (markPart g c) (modBand c.number (fun b => { b with lost := b.lost + 1 }) s)
    else match s.re.slots with
      | [] => underrun c s
      | x :: _ => if x.complete then fireRow g c x s else underrun c s

/-- The cause of a segment ended by an END_SEGMENT: OK when N = 0 or every band has been created, else SHORT (02 R46). -/
def Segment.endCause (g : Segment) : EndCause := if g.count = 0 ∨ g.created = g.count then .ok else .short

/-- The segment has created its last band (02 R45). -/
def Segment.allCreated (g : Segment) : Bool := g.count != 0 && g.created == g.count

/-- The cause of a segment at a band end: a completed segment is OK, also with a drain pending (02 R45, log entry 14). -/
def Raster.bandEndCause (r : Raster) (g : Segment) : EndCause :=
  if g.allCreated then .ok
  else match r.ending with
    | .drain => .short
    | .none | .atBoundary | .now => g.endCause

/-- The end of the band in PRINTING (02 R42): BT is told, a boundary is announced, and RE goes to BETWEEN or reports the segment. -/
def bandEnd (g : Segment) (c : BandContext) (s : State) : State :=
  let cause := s.re.bandEndCause g
  let finished := s.re.ending != .none || g.allCreated
  let s1 := bandBoundary (endPrinting c.number { s with re.band := none })
  if finished then printedReport cause s1 else pollStart { s1 with re.raster := .between }

/-- Row event `i` of the band in PRINTING, with the band's end at row B − 1 (02 R39, R42). -/
def rowEvent (s : State) : State :=
  match s.re.seg, s.re.band with
  | some g, some c =>
    let s1 := rowOutcome g c s
    let s2 := { s1 with re.band := s1.re.band.map (fun x => { x with next := c.next + 1 }) }
    if g.bandRows ≤ c.next + 1 then bandEnd g c s2 else s2
  | some _, none | none, _ => s

/-- Rows are fired only in RUNNING and DRAINING (02 R39). -/
def LineState.fires : LineState → Bool
  | .running | .draining => true
  | .stopped | .starting | .stopping | .tripped | .powerStop | .powerHeld => false

/-- How many row events of the band in PRINTING P has reached (02 R39). -/
def State.rowsDue (s : State) : Nat :=
  match s.re.seg, s.re.band with
  | some g, some c =>
    let x := c.l0 + c.next * c.p
    if s.dc.line.fires && decide (x ≤ s.paper) then min (g.bandRows - c.next) ((s.paper - x) / c.p + 1) else 0
  | some _, none | none, _ => 0

/-- Take every row event that P has reached, in ascending order (02 R39). -/
def rowEvents (s : State) : State := times s.rowsDue rowEvent s

/-! ## Band start (02 R36 to R38) -/

/-- The next band of the segment will be VOID (02 R31). -/
def Segment.nextVoid (g : Segment) : Bool := g.voids.contains g.created

/-- The conditions of 02 R36 other than BT's acceptance. -/
def State.mayStart (s : State) (g : Segment) : Bool :=
  (s.re.raster == .priming || s.re.raster == .between) && s.re.ending == .none && (g.count == 0 || g.created < g.count)
    && s.dc.line == .running && decide (s.re.printEnd ≤ s.paper) && (g.nextVoid || decide (s.cfg.leadRows ≤ s.re.depth))

/-- The band record RE forms (02 R37, 01 R1), with BT's starting values. -/
def State.formBand (s : State) (g : Segment) : Band :=
  let q := s.ps.slots.get g.slot
  let p := rowPitch s.cfg.pnom s.dc.stretch
  let dpred := predictedDose s.hc.zones s.hc.ton s.cfg.w s.dc.setpoint
  { number := s.bt.nextNumber, tally := g.tally, index := g.created, kind := if g.nextVoid then .void else .printed,
    slot := g.slot, gen := q.gen, tau := q.tau, g := compensation q.prof.yield q.prof.dref dpred q.tau,
    firstRow := g.repeatRow g.created 0, p := p, l0 := s.paper, len := g.bandRows * p, s := s.dc.stretch, dpred := dpred,
    zones := s.hc.mask, lt := q.prof.lt, at_ := q.prof.at_, bt := q.prof.bt, colourTol := q.prof.colourTol,
    doseTol := q.prof.doseTol, po := g.patch * 1000000, state := .printing, flags := 0, fired := 0, lost := 0, clip := 0,
    doses := Oct.fill 0, samples := 0, lostZones := Oct.fill false, c := none, meas := none, trailing := false,
    verdict := none }

/-- BT's append (01 R4): the record at the tail, the counter advanced, the tally's bands created and in track incremented. -/
def appendBand (b : Band) (s : State) : State :=
  modTally b.tally (fun t => { t with created := t.created + 1, inTrack := t.inTrack + 1, stale := true })
    { s with bt.track := s.bt.track ++ [b], bt.nextNumber := s.bt.nextNumber + 1 }

/-- The band context of a band that has just started. -/
def Band.context (b : Band) : BandContext :=
  { number := b.number, index := b.index, kind := b.kind, l0 := b.l0, p := b.p, next := 0, blank := false }

/-- The band has started: what RE does at once (02 R37), row event 0 with it. -/
def startBand (g : Segment) (s : State) : State :=
  let b := s.formBand g
  let s1 := appendBand b s
  let s2 := { s1 with re.seg := some { g with created := g.created + 1 }, re.printEnd := b.l0 + b.len,
                      re.lastStarted := b.number, re.raster := .printing, re.band := some b.context, re.fullWait := false }
  rowEvent (bandBoundary (pollStop s2))

/-- Test a band start (02 R36): start it, or enter the track-full wait where BT refuses (02 R38); the wait ends where the other
conditions cease to hold. -/
def tryBandStart (s : State) : State :=
  match s.re.seg with
  | none => s
  | some g =>
    if s.mayStart g then
      if s.bt.accepts then startBand g s
      else if s.re.fullWait then s
      else { s with re.fullWait := true, re.gaps := satAdd max32 s.re.gaps 1 }
    else { s with re.fullWait := false }

/-- A row's last word has arrived: its slot is complete (02 R33), and a band start is tested (02 R36). -/
def rowComplete (ws : List Word) (s : State) : State :=
  let f : List RowSlot → List RowSlot := fun l =>
    l.takeWhile RowSlot.complete ++
      match l.dropWhile RowSlot.complete with
      | [] => []
      | x :: rest => { x with words := x.words ++ ws, complete := true } :: rest
  tryBandStart { s with re.slots := f s.re.slots }

/-! ## The line reaching RUNNING (06 R115, R116, 02 R48) -/

/-- A pending drain is cleared and the fetcher goes on; any other end pending stands (02 R48). -/
def clearDrain (s : State) : State :=
  match s.re.ending with
  | .drain => fetchRun { s with re.ending := .none }
  | .none | .atBoundary | .now => s

/-- The line enters RUNNING. -/
def enterRunning (s : State) : State := tryBandStart (clearDrain (setLine .running s))

/-! ## END_SEGMENT (02 R46, R47) -/

/-- AT_BOUNDARY in PRINTING: rows of later bands are discarded and fetching stays within the current band. -/
def endAtBoundary (s : State) : State :=
  match s.re.band with
  | some c => fetchRun { discardSlots (fun x => c.index < x.band) s with re.ending := .atBoundary }
  | none => { s with re.ending := .atBoundary }

/-- NOW in PRINTING: TRUNCATED, blanking, every row discarded and the fetcher stopped. -/
def endNow (s : State) : State :=
  match s.re.band with
  | some c =>
    { discardSlots (fun _ => true) (modBand c.number (Band.flag .truncated) s) with
      re.ending := .now, re.fetchOn := false, re.band := some { c with blank := true } }
  | none => { discardSlots (fun _ => true) s with re.ending := .now, re.fetchOn := false }

/-- The effect of an END_SEGMENT on the segment that is TAKEN (02 R46, R47). -/
def applyEnd (now : Bool) (s : State) : State :=
  match s.re.raster with
  | .idle => s
  | .priming | .between => printedReport ((s.re.seg.map Segment.endCause).getD .ok) s
  | .printing =>
    match s.re.ending with
    | .none | .drain => if now then endNow s else endAtBoundary s
    | .atBoundary => if now then endNow s else s
    | .now => s

/-- RE takes an END_SEGMENT (02 R46, R47): DONE OK, or SKIPPED NO_SEGMENT while no segment is TAKEN. -/
def takeEnd (now : Bool) (s : State) : State :=
  if s.segTaken then finishTicket .done .ok 0 (applyEnd now s) else finishTicket .skipped .noSegment 0 s

end Sys2Proof.Machine
end

