-- ==== Sys2Proof/Machine/Soft.lean ====
section
/-! DEFINITION. Sys2Proof/Machine/Soft.lean: soft reset (10 R190) and each block's part in it. -/

namespace Sys2Proof.Machine

/-- CV at soft reset (08 R166): the frame being sent is completed and the waiting ones are dropped; a set drift condition that is
cleared raises DRIFT in edge mode BOTH. -/
def verifierSoftReset (s : State) : State :=
  raiseIf (s.cv.drift && s.cfg.driftEdge == .both) .drift
    { s with cv.list := [], cv.txq := s.cv.txq.take 1, cv.seq := 1, cv.drift := false, cv.failRun := 0, cv.passRun := 0,
             cv.late := 0, cv.bad := 0 }

/-- The transfer reads a profile image. -/
def Transfer.isCopy (t : Transfer) : Bool := t.kind == .profileCopy

/-- The transfer writes a REPORT snapshot. -/
def Transfer.isReport (t : Transfer) : Bool := t.kind == .reportWrite

/-- PS at soft reset (04 R77): a copy in flight is abandoned and staging is FREE. -/
def storeSoftReset (s : State) : State :=
  let s1 := dropGrant .copy ((s.smp.copies.head?.map Transfer.isCopy).getD false) s
  idleCounts { s1 with ps.staging := none, smp.copies := s1.smp.copies.filter (fun t => !t.isCopy) }

/-- TR as soft reset reaches it (09 R180, step 1): ticket reads are abandoned; a ticket without its TAKEN write stays NEW. -/
def readerSoftReset (s : State) : State :=
  let s1 := abandonTicketRead s
  { s1 with tr.awaitSeg := none, tr.ticket := s1.tr.ticket.filter Ticket.past }

/-- The switches confirm the nip open (06 R136). -/
def Pins.nipOpen (p : Pins) : Bool := p.nipOpenSw && !p.nipClosedSw

/-- The nip as the switches show it at a reset (06 R136): OPEN, or OPENING with the travel timer started. -/
def nipFromSwitches (s : State) : State :=
  if s.pins.nipOpen then { setNip .opened s with dc.nipTimer := none }
  else { setNip .opening s with dc.nipTimer := some s.cfg.nipTravel }

/-- A web's values after soft reset: the power-up ones; the range state of its latest reading is kept (06 R137). -/
def WebLoop.softReset (tset : Nat) (w : WebLoop) : WebLoop := { WebLoop.reset tset with inRange := w.inRange }

/-- DC's soft-reset values (06 R137). -/
def driveSoftReset (s : State) : State :=
  let s1 := setLine (if s.pins.mainsOk then .stopped else .powerHeld) s
  let w := s1.dc.webs
  let s2 := { s1 with
    dc.stopKind := .normal, dc.setpoint := Drive.reset.setpoint, dc.accel := Drive.reset.accel, dc.ref := 0,
    dc.webs := ⟨w.paper.softReset 300, w.fabric.softReset 200, w.tissue.softReset 150⟩,
    dc.devLimit := Drive.reset.devLimit, dc.faultTime := Drive.reset.faultTime, dc.stretch := 0,
    dc.storedIn := s1.bt.pos.infeed.nm, dc.storedDr := s1.bt.pos.drum.nm, dc.valve := .opening, dc.nipHold := 0,
    dc.silence := ⟨0, 0, 0⟩, dc.startCause := .none }
  if s2.dc.nip = .fault then s2 else nipFromSwitches s2

/-- The ticket is TAKEN and its final-state write has not been made. -/
def Ticket.unsettled (t : Ticket) : Bool := t.phase == .taken || t.phase == .handed

/-- MR and TR take their reset values (07 R151, 09 R180, step 5): the lock state is SEARCH, and TR is IDLE with no request standing and
the poll timer stopped. -/
def softLast (s : State) : State :=
  pollStop (enterIdle (marksSoftReset { s with smp.soft := .settling, tr.pauseReq := false }))

/-- TR's last steps once BT has finalised every tally (09 R180, steps 3 to 5). A non-segment ticket that is TAKEN is written FAILED
RESET, its TAKEN write having ended in step 2, and a REPORT's snapshot write before this; that a ticket of any kind whose TAKEN write was
in flight, and which no block has had, is written so is log entry 48. TR is IDLE and the lock state SEARCH only when every header shows
its FAILED RESET, in the order that 10 R190 lists for the host (log entry 64). -/
def softClose (s : State) : State :=
  if s.smp.soft = .closing ∧ s.smp.copies.any Transfer.isReport = false then
    if (s.tr.ticket.map Ticket.unsettled).getD false then finishTicket .failed .reset 0 s
    else if s.smp.writes.any Transfer.isHeaderWrite then s
    else softLast s
  else s

/-- BT empties the splice list once every tally has been finalised (01 R25, step 4), and TR's last steps follow. -/
def softSettle (s : State) : State := softClose { s with bt.splices := [], bt.overflow := false, smp.soft := .closing }

/-- Finalise the entries in list order, each once the one before it has been signalled; then the end of stage 2 (01 R25, step 3). -/
def finaliseNext : Nat → State → State
  | 0, s => s
  | n + 1, s =>
    match s.bt.tallies with
    | [] => softSettle s
    | t :: _ =>
      let s1 := finalise t.id s
      if s1.bt.tallies.length < s.bt.tallies.length then finaliseNext n s1 else s1

/-- Finalise what is left of the tally list. -/
def softFinalise (s : State) : State := finaliseNext (s.bt.tallies.length + 1) s

/-- A tally entry once its bands have been discarded with cause RESET (01 R25). -/
def Tally.discard (track : List Band) (t : Tally) : Tally :=
  let n := (track.filter (fun b => b.tally == t.id)).length
  { t with discarded := t.discarded + n, inTrack := t.inTrack - n, stale := t.stale || n != 0, cause := .reset }

/-- What a soft reset goes on to once no header write is in flight: BT's finalisations and the final-state writes they call for, and
after those TR's last steps (09 R180, steps 2 to 5). -/
def softWritten (s : State) : State :=
  if s.smp.writes.any Transfer.isHeaderWrite then s
  else match s.smp.soft with
    | .writing => softFinalise { s with smp.soft := .finalising }
    | .closing => softClose s
    | .off | .stopping | .retiring | .finalising | .settling => s

/-- BT removes every record, and every entry is to be finalised with cause RESET (01 R25, steps 2 and 3). -/
def softDiscard (s : State) : State :=
  softWritten { s with bt.tallies := s.bt.tallies.map (Tally.discard s.bt.track), bt.track := [], smp.soft := .writing }

/-- Stage 2: the reset reaches the blocks (10 R190); BT waits for a retirement in progress (01 R25, step 1). -/
def softReach (s : State) : State :=
  let s1 := { s with smp.soft := .retiring }
  let s2 := driveSoftReset (heatSoftReset (clearSegment (readerSoftReset (storeSoftReset (verifierSoftReset s1)))))
  if s2.bt.retiring.isSome then s2 else softDiscard s2

/-- SOFT_RESET (10 R190, stage 1): a moving line makes its fast stop or continues its stop; a line at rest passes on at once. -/
def softStart (s : State) : State :=
  let s1 := { s with smp.soft := .stopping }
  if s1.dc.line.moving then fastStop s1 else softReach s1

/-- Every write that stage 2 caused has ended: those of client 2, a snapshot write and the progress block writes (10 R190, stage 3,
log entry 49). -/
def State.softDone (s : State) : Bool :=
  s.smp.soft == .settling && s.smp.writes.isEmpty && s.tr.ticket.isNone && !s.smp.copies.any Transfer.isReport
    && !s.smp.reads.any Transfer.isProgress

/-- Completion of soft reset (10 R190, stage 3). -/
def softComplete (s : State) : State :=
  if s.softDone then requestProgress (raise .line { s with smp.soft := .off }) else s

end Sys2Proof.Machine
end

