-- ==== Sys2Proof/Machine/Drive.lean ====
section
/-! DEFINITION. Sys2Proof/Machine/Drive.lean: the Drive Controller (06): start requests, speed 0, the tension sample, the power
stop, the nip switches, stretch, encoder pulses and CLEAR_TRIP. -/

namespace Sys2Proof.Machine

/-! ## Start and stop -/

/-- A start request from LINECTL (06 R114). -/
def startRequest (s : State) : State :=
  match s.dc.line with
  | .stopped =>
    match s.startTest with
    | none => acceptStart s
    | some c => refuseStart c s
  | .draining => enterRunning s
  | .tripped => refuseStart .tripped s
  | .powerStop | .powerHeld => refuseStart .power s
  | .starting | .running | .stopping => s

/-- The reference has reached 0 where that ends a stop (06 R112, R117, R119, R121). -/
def State.atSpeedZero (s : State) : Bool :=
  s.dc.ref == 0 &&
  match s.dc.line with
  | .stopping =>
    match s.dc.stopKind with
    | .normal => s.dc.nip == .opened
    | .fast => true
  | .powerStop => true
  | .stopped | .starting | .running | .draining | .tripped | .powerHeld => false

/-- Speed 0 (06 R112): the loops go off, and the line takes its end state or a soft reset proceeds (06 R117, R119, R121, R137). -/
def speedZero (s : State) : State :=
  let s1 := zeroLoops s
  if s1.smp.soft = .stopping then softReach s1
  else match s1.dc.line with
    | .stopping =>
      match s1.dc.stopKind with
      | .normal => enterStopped s1
      | .fast => enterTripped s1
    | .powerStop => if s1.pins.mainsOk then enterTripped s1 else setLine .powerHeld s1
    | .stopped | .starting | .running | .draining | .tripped | .powerHeld => s1

/-- Test for speed 0. -/
def speedZeroTest (s : State) : State := if s.atSpeedZero then speedZero s else s

/-- The running test (06 R115). -/
def runningTest (s : State) : State :=
  if s.dc.line = .starting ∧ s.dc.nip = .closed ∧ s.dc.ref = s.dc.setpoint * 1000 then enterRunning s else s

/-- The nip-close test (06 R115). -/
def nipCloseTest (s : State) : State :=
  if s.dc.line = .starting ∧ s.dc.nip = .opened ∧ min s.cfg.nipCloseSpeed s.dc.setpoint * 1000 ≤ s.dc.ref then nipCloseCommand s
  else s

/-! ## The tension sample (06 R126) -/

/-- A value moved toward a goal by at most a step, never past it (06 R112). -/
def stepToward (x goal d : Nat) : Nat := if x ≤ goal then min goal (x + d) else max goal (x - d)

/-- The reference at a sample (06 R112). -/
def State.nextRef (s : State) : Nat :=
  match s.dc.line with
  | .stopped | .tripped | .powerHeld => 0
  | .starting | .running | .draining => stepToward s.dc.ref (s.dc.setpoint * 1000) (s.dc.accel * 5)
  | .stopping =>
    match s.dc.stopKind with
    | .normal => if s.dc.nip = .opened then stepToward s.dc.ref 0 (s.dc.accel * 5) else s.dc.ref
    | .fast => stepToward s.dc.ref 0 (s.cfg.stopDecel * 5)
  | .powerStop => stepToward s.dc.ref 0 (s.cfg.stopDecel * 5)

/-- Move the reference; the silence timers restart where it rises to 50,000 µm/s (06 R112, R135). -/
def stepRef (s : State) : State :=
  let r := s.nextRef
  if s.dc.ref < 50000 ∧ 50000 ≤ r then { s with dc.ref := r, dc.silence := ⟨0, 0, 0⟩ } else { s with dc.ref := r }

/-- Stage 1 (06 R126). -/
def refStage (s : State) : State := speedZeroTest (runningTest (nipCloseTest (stepRef s)))

/-- A load-cell reading is in range (06 R127). -/
def cellOk (c : LoadCell) : Bool := !c.fault && c.count != 0 && c.count != 0xFFFF

/-- A web's tension from a count (06 R127). -/
def tensionOf (count atZero scale : Nat) : Int := ((count : Int) - atZero) * scale / 1024

/-- A peak record after a tension (06 R132). -/
def peakWith (t : Int) : Option Peak → Peak
  | none => ⟨t, t⟩
  | some p => ⟨max p.hi t, min p.lo t⟩

/-- Stage 2 for one web (06 R127, R132). -/
def WebLoop.read (on : Bool) (c : LoadCell) (w : WebLoop) : WebLoop :=
  if cellOk c then
    let t := tensionOf c.count.toNat w.zero w.scale
    { w with tension := t, inRange := true, peak := if on then some (peakWith t w.peak) else w.peak }
  else { w with inRange := false }

/-- Stage 2: the three readings. -/
def readStage (cells : Webs LoadCell) (s : State) : State :=
  let on := s.dc.line.moving
  let w := s.dc.webs
  { s with dc.webs := ⟨w.paper.read on cells.paper, w.fabric.read on cells.fabric, w.tissue.read on cells.tissue⟩ }

/-- Stage 3: the SENSOR test, made in exactly the line states in which a fast-stop cause stops the line (06 R130). -/
def sensorStage (s : State) : State :=
  if s.canFastStop && !s.dc.webs.toList.all WebLoop.inRange then fastStop (raise .tension s) else s

/-- Stage 4 for one web (06 R128). -/
def WebLoop.regulate (w : WebLoop) : WebLoop :=
  let e := (w.tset : Int) - w.tension
  let i := clampZ (w.integral + w.ki * e) (-500000) 500000
  { w with integral := i, demand := clampZ (w.kp * e / 64 + i / 1024) (-1000) 1000 }

/-- Stage 4: the loops while they are on; off, integral and demand are 0 (06 R128). -/
def loopStage (s : State) : State :=
  if s.dc.line.moving then { s with dc.webs := s.dc.webs.map WebLoop.regulate }
  else { s with dc.webs := s.dc.webs.map (fun w => { w with integral := 0, demand := 0 }) }

/-- A web's tension error lies beyond a limit (06 R129). -/
def WebLoop.beyond (limit : Nat) (w : WebLoop) : Bool := limit < ((w.tset : Int) - w.tension).natAbs

/-- A web's deviation run after a sample (06 R129). -/
def WebLoop.countRun (on : Bool) (limit : Nat) (w : WebLoop) : WebLoop :=
  { w with run := if on && w.beyond limit then w.run + 1 else 0 }

/-- The FABRIC limit: doubled while a splice is in path (06 R129, R133). -/
def State.fabricLimit (s : State) : Nat := if s.bt.splices = [] then s.dc.devLimit else 2 * s.dc.devLimit

/-- Stage 5's counting. -/
def countStage (s : State) : State :=
  let on := s.dc.line.counts
  let w := s.dc.webs
  { s with dc.webs := ⟨w.paper.countRun on s.dc.devLimit, w.fabric.countRun on s.fabricLimit, w.tissue.countRun on s.dc.devLimit⟩ }

/-- A web's run has reached the fault time (06 R129). -/
def Drive.runFaults (d : Drive) (w : WebLoop) : Bool := d.line.counts && d.faultTime ≤ w.run * 5

/-- Web faults: TENSION and a fast stop; once the line has left RUNNING and DRAINING every run is 0 (06 R129). -/
def faultStage (s : State) : State :=
  if s.dc.webs.toList.any s.dc.runFaults then fastStop (raise .tension s) else s

/-- Stage 6: the reference and the demands on the drive link. -/
def driveOut (s : State) : State :=
  emit (.drive s.dc.ref (if s.dc.line.moving then s.dc.webs.map WebLoop.demand else ⟨0, 0, 0⟩)) s

/-- A tension sample (06 R126). -/
def tensionSample (cells : Webs LoadCell) (s : State) : State :=
  driveOut (faultStage (countStage (loopStage (sensorStage (readStage cells (refStage s))))))

/-- The loop of one web. -/
def webOf {α : Type} (w : Webs α) : WebId → α
  | .paper => w.paper
  | .fabric => w.fabric
  | .tissue => w.tissue

/-- A web fault of one web (06 R129). -/
def webFault (w : WebId) (s : State) : State :=
  if s.dc.runFaults (webOf s.dc.webs w) then fastStop (raise .tension s) else s

/-! ## Tickets (06 R113, R131) -/

/-- DC takes a SET_SPEED. -/
def takeSpeed (ws : List Word) (s : State) : State :=
  { s with dc.setpoint := clampN (natAt ws 0) 50 1000, dc.accel := clampN (natAt ws 1) 10 2000 }

/-- A web's SET_TENSION values; its integral is kept and its deviation run is 0 (06 R131). -/
def WebLoop.retune (ws : List Word) (i : Nat) (w : WebLoop) : WebLoop :=
  { w with tset := clampN (natAt ws i) 20 2000, kp := clampN (natAt ws (3 + i)) 0 255, ki := clampN (natAt ws (6 + i)) 0 255,
           zero := clampN (natAt ws (9 + i)) 0 65535, scale := clampN (natAt ws (12 + i)) 1 8191, run := 0 }

/-- DC takes a SET_TENSION. -/
def takeTension (ws : List Word) (s : State) : State :=
  let w := s.dc.webs
  { s with dc.webs := ⟨w.paper.retune ws 0, w.fabric.retune ws 1, w.tissue.retune ws 2⟩,
           dc.devLimit := clampN (natAt ws 15) 5 500, dc.faultTime := clampN (natAt ws 16) 50 2000 }

/-- DC takes a STOP ticket: the stop request, then the line state settles it (06 R118). -/
def takeStop (s : State) : State := settleStop (stopRequest s)

/-! ## Power stop (06 R121) -/

/-- MAINS_OK is deasserted: the line enters POWER_STOP from any state but POWER_STOP and POWER_HELD; at a reference of 0 speed 0
follows at once, also from STARTING and STOPPING, where R121 does not say so (log entry 47). -/
def powerStop (s : State) : State :=
  match s.dc.line with
  | .powerStop | .powerHeld => s
  | .stopped | .starting | .running | .draining | .stopping | .tripped =>
    let s1 := nipOpenCommand (abortSegment s)
    let s2 := requestProgress (settleStop (setLine .powerStop { s1 with tr.pauseReq := true }))
    speedZeroTest s2

/-- MAINS_OK is deasserted (06 R121, 05 R101, 10 R189). -/
def mainsLoss (s : State) : State :=
  powerStop (tripDrum (raise .power { s with pins.mainsOk := false }))

/-- MAINS_OK is asserted again (06 R121, 10 R189). -/
def mainsReturn (s : State) : State :=
  let s1 := raise .power { s with pins.mainsOk := true }
  if s1.dc.line = .powerHeld then enterTripped s1 else s1

/-! ## The nip switches (06 R123) -/

/-- The nip after a change of a switch, with the new levels in the pins. -/
def nipSwitches (s : State) : State :=
  let o := s.pins.nipOpenSw
  let c := s.pins.nipClosedSw
  if s.dc.nip = .fault then s
  else if o && c then nipFault s
  else match s.dc.nip with
    | .opened => if !o then nipFault s else s
    | .closing => if c then runningTest { setNip .closed s with dc.nipTimer := none } else s
    | .closed => if !c then nipFault s else s
    | .opening => if o then { setNip .opened s with dc.nipTimer := none } else s
    | .fault => s

/-- The travel timer has run out (06 R123). -/
def nipTimeout (s : State) : State :=
  if s.dc.nipTimer = some 0 ∧ (s.dc.nip = .closing ∨ s.dc.nip = .opening) then nipFault s else s

/-- The nip-hold timer has reached the nip hold (06 R125). -/
def nipHoldTest (s : State) : State :=
  if s.nipHoldRuns && decide (s.cfg.nipHoldLimit * 1000 ≤ s.dc.nipHold) then stopRequest s else s

/-! ## Stretch and encoders (06 R134, R135, 01 R6) -/

/-- The stretch estimate after an update with these distances (06 R134). -/
def stretchNext (s dIn dDr : Int) : Int := if dIn = 0 then s else clampZ (s + ((dDr - dIn) * 10000 / dIn - s) / 8) 0 500

/-- A stretch update (06 R134). -/
def stretchUpdate (s : State) : State :=
  let i := s.bt.pos.infeed.nm
  let d := s.bt.pos.drum.nm
  { s with dc.stretch := (stretchNext s.dc.stretch ((i : Int) - s.dc.storedIn) ((d : Int) - s.dc.storedDr)).toNat,
           dc.storedIn := i, dc.storedDr := d }

/-- The value of one encoder. -/
def encOf {α : Type} (x : Encs α) : EncoderId → α
  | .paper => x.paper
  | .infeed => x.infeed
  | .drum => x.drum

/-- Replace the value of one encoder. -/
def encPut {α : Type} (x : Encs α) (e : EncoderId) (a : α) : Encs α :=
  match e with
  | .paper => { x with paper := a }
  | .infeed => { x with infeed := a }
  | .drum => { x with drum := a }

/-- A silence timer has reached the encoder timeout while the timers run (06 R135). -/
def encoderLoss (e : EncoderId) (s : State) : State :=
  if 50000 ≤ s.dc.ref ∧ s.cfg.encoderTimeout ≤ encOf s.dc.silence e then fastStop s else s

/-- A position after a forward pulse: the scale is added to the position and its remainder together (01 R6). -/
def Position.advance (scale : Nat) (p : Position) : Position :=
  { nm := p.nm + (p.frac + scale) / 65536, frac := (p.frac + scale) % 65536 }

/-- What a forward pulse of the paper encoder brings: the row events, the window ends, the bands' position events, a retirement
and a band start (02 R36, R39, 07 R143, 01 R7, R17). -/
def paperMoved (s : State) : State := tryBandStart (startRetirement (positionEvents (closeWindows (rowEvents s))))

/-- A pulse of an encoder: its silence timer restarts; a forward pulse advances its position (01 R6, 06 R135). -/
def encoderPulse (e : EncoderId) (forward : Bool) (s : State) : State :=
  let s1 := { s with dc.silence := encPut s.dc.silence e 0 }
  if forward then
    let s2 := { s1 with bt.pos := encPut s1.bt.pos e ((encOf s1.bt.pos e).advance (encOf s1.cfg.scale e)) }
    match e with
    | .paper => paperMoved s2
    | .infeed | .drum => s2
  else s1

/-! ## CLEAR_TRIP at the line and the nip (06 R120, R124) -/

/-- CLEAR_TRIP at the line: TRIPPED becomes STOPPED, with every deviation run 0. The AUTO_START request that entering STOPPED
brings is made after the rest of the command (log entry 15). -/
def clearLine (s : State) : State :=
  if s.dc.line = .tripped then settleStop (setLine .stopped { s with dc.webs := s.dc.webs.map (fun w => { w with run := 0 }) })
  else s

/-- CLEAR_TRIP at the nip: FAULT becomes OPEN while the open switch alone is asserted (06 R123). -/
def clearNip (s : State) : State := if s.dc.nip = .fault ∧ s.pins.nipOpen then setNip .opened s else s

/-- CLEAR_TRIP at TR (09 R177): the pause request is cleared when the line is now STOPPED, and a PAUSED reader reads on. -/
def clearPause (s : State) : State :=
  if s.dc.line = .stopped then
    let s1 := { s with tr.pauseReq := false }
    if s.tr.reader = .paused then
      if s.segTaken then readerLook (setReader .holding s1) else trContinue (setReader .reading s1)
    else s1
  else s

/-- CLEAR_TRIP (10 R182). -/
def clearTrip (s : State) : State :=
  let was := s.dc.line
  let s1 := clearPause (clearNip (clearDrum (clearLine s)))
  if was = .tripped then autoStart s1 else s1

end Sys2Proof.Machine
end

