-- ==== Sys2Proof/Machine/Chain.lean ====
section
/-! DEFINITION. Sys2Proof/Machine/Chain.lean: the walk of the Ticket Reader (09): what a completed header, link or body read brings,
taking a ticket, handing it to its block, and the completion of header writes. -/

namespace Sys2Proof.Machine

/-! ## What the blocks do with a ticket (09 R172, R173) -/

/-- CONFIGURE applied at one moment (09 R175); a narrower mark window clamps C_cur (07 R146). -/
def applySettings (c : Settings) (s : State) : State := { s with cfg := c, mr.ccur := clampZ s.mr.ccur (-(c.h : Int)) c.h }

/-- The two conditions of a CONFIGURE (09 R175). -/
def State.atRest (s : State) : Bool := (s.dc.line == .stopped || s.dc.line == .tripped) && s.bt.track.isEmpty

/-- TR applies a CONFIGURE, or writes it FAILED BUSY (09 R175). -/
def takeConfigure (ws : List Word) (s : State) : State :=
  if s.atRest then finishTicket .done .ok 0 (applySettings (configureSettings ws) s) else finishTicket .failed .busy 0 s

/-- PS starts the copy of a LOAD_PROFILE (04 R74). -/
def takeLoad (ws : List Word) (s : State) : State :=
  queueCopy (readOf .profileCopy (address (wordAt ws 1)) 64)
    { s with ps.staging := some { target := slotOf (natAt ws 0), words := [] } }

/-- The clears of the snapshot moment (09 R176). -/
def clearReported (s : State) : State :=
  { s with dc.webs := s.dc.webs.map (fun w => { w with peak := none }),
           mr.errors := match s.cfg.counterMode with
             | .manual => 0
             | .auto => s.mr.errors }

/-- TR takes the snapshot of a REPORT and asks for its write (09 R176). -/
def takeReport (ws : List Word) (s : State) : State :=
  queueCopy (writeOf .reportWrite (address (wordAt ws 0)) (snapshotWords s)) (clearReported s)

/-- The executing block takes a ticket (09 R172, R173). A SEGMENT was taken as its TAKEN write was made (02 R29). -/
def execute (kind : TicketKind) (ws : List Word) (s : State) : State :=
  match kind with
  | .configure => takeConfigure ws s
  | .setHeat => finishTicket .done .ok (firstClamped heatFields ws) (takeHeat ws s)
  | .setTension => finishTicket .done .ok (firstClamped tensionFields ws) (takeTension ws s)
  | .setSpeed => finishTicket .done .ok (firstClamped speedFields ws) (takeSpeed ws s)
  | .loadProfile => takeLoad ws s
  | .segment => s
  | .endSegment => takeEnd (natAt ws 0 == 1) s
  | .stop => takeStop s
  | .report => takeReport ws s

/-- The TAKEN write has completed: the ticket is handed to its block (09 R172, step 5); not once soft reset has reached TR
(09 R180). -/
def handOff (s : State) : State :=
  match s.tr.ticket with
  | some t =>
    if t.phase = .taken ∧ s.softBlocks = false then execute t.kind t.body { s with tr.ticket := some { t with phase := .handed } }
    else s
  | none => s

/-! ## Taking a ticket (09 R172) -/

/-- The NOTIFY of a SEGMENT: the header's, or its body flag (09 R167, 11, 11.2). -/
def segmentNotify (t : Ticket) : Bool := t.notify || bitAt (wordAt t.body 9) 2

/-- BT opens a tally entry (01 R21). No counts write has been made for it. Its end cause is set at the PRINTED report or at
START_REFUSED; until then it is OK here, for which the manual gives no value (log entry 50). -/
def openTally (t : Ticket) (s : State) : State :=
  let e : Tally :=
    { id := s.bt.nextTally, addr := t.addr, notify := segmentNotify t, area := address (wordAt t.body 10),
      capacity := natAt t.body 11, created := 0, inTrack := 0, good := 0, suspect := 0, reject := 0, void := 0, written := 0,
      dropped := 0, discarded := 0, printed := false, cause := .ok, stale := true, closing := false }
  { s with bt.tallies := s.bt.tallies ++ [e], bt.nextTally := s.bt.nextTally + 1 }

/-- RE loads the segment context and enters PRIMING (02 R29, R33). -/
def loadSegment (tally : Nat) (t : Ticket) (s : State) : State :=
  { s with re.raster := .priming, re.seg := some (segmentOf tally t.addr t.body), re.ending := .none, re.band := none,
           re.fetchOn := true, re.fetchBand := 0, re.fetchRow := 0, re.serial := t.serial, re.fullWait := false,
           re.autoRetry := false, dc.nipHold := 0 }

/-- The TAKEN write of a ticket (09 R172, step 5). -/
def writeTaken (t : Ticket) (s : State) : State :=
  queueHeader t.addr { state := .taken, status := .ok, detail := 0, notify := t.notify, role := .take t.kind, repeating := false } s

/-- A SEGMENT is written TAKEN (02 R29): at the same moment BT opens its tally, RE loads its context and starts fetching, and TR is
HOLDING with the SEGMENT's link to read next (09 R174a). AUTO_START asks (02 R51) and a band start is tested (02 R36). -/
def takeSegment (t : Ticket) (s : State) : State :=
  let s1 := loadSegment s.bt.nextTally t (openTally t (writeTaken t s))
  tryBandStart (autoStart (fetchRun { s1 with tr.ticket := none, tr.reader := .holding, tr.step := .link }))

/-- A non-segment ticket is written TAKEN: TR is EXECUTING, or stays HOLDING at an END_SEGMENT found by read-ahead (09 R172). -/
def takeOther (t : Ticket) (s : State) : State :=
  let r := if s.tr.reader = .holding then .holding else .executing
  writeTaken t { s with tr.ticket := some { t with phase := .taken }, tr.reader := r }

/-- The result of the take checks: the status and DETAIL of a refusal, if any (09 R172, step 4). -/
def takeCheck (t : Ticket) (s : State) : Option (Status × Nat) :=
  match t.kind with
  | .configure => (firstFail (configureChecks t.body)).map (fun i => (.badField, i))
  | .loadProfile => (firstFail (loadChecks t.body)).map (fun i => (.badField, i))
  | .endSegment => (firstFail (endChecks t.body)).map (fun i => (.badField, i))
  | .report => (firstFail (reportChecks t.body)).map (fun i => (.badField, i))
  | .segment =>
    match firstFail (segmentChecks t.body) with
    | some i => some (.badField, i)
    | none =>
      if !(s.ps.slots.get (slotOf (natAt t.body 7))).valid then some (.noProfile, 8)
      else (firstFail (geometryChecks s.cfg t.body)).map (fun i => (.badGeometry, i))
  | .setHeat | .setTension | .setSpeed | .stop => none

/-- The NOTIFY of the FAILED write that refuses a ticket: of a SEGMENT the header's or its body flag (09 R167, R172). -/
def Ticket.refuseNotify (t : Ticket) : Bool :=
  match t.kind with
  | .segment => segmentNotify t
  | .configure | .setHeat | .setTension | .setSpeed | .loadProfile | .endSegment | .stop | .report => t.notify

/-- Steps 4 and 5 of a take, once the body is read (09 R172). -/
def checkTicket (t : Ticket) (s : State) : State :=
  match takeCheck t s with
  | some (st, d) => refuseTicket t.refuseNotify st d s
  | none =>
    match t.kind with
    | .segment => takeSegment t s
    | .configure | .setHeat | .setTension | .setSpeed | .loadProfile | .endSegment | .stop | .report => takeOther t s

/-- Steps 1 to 3 of a take (09 R172): kind, body length, then the body read at header + 16. -/
def takeTicket (h : Header) (s : State) : State :=
  match kindOfCode h.kindCode with
  | none => refuseTicket h.notify .invalidKind 0 s
  | some k =>
    if h.bodyLen < bodyLength k then refuseTicket h.notify .badField 0 s
    else
      let t : Ticket := { addr := s.tr.pos, kind := k, notify := h.notify, serial := h.serial, body := [], phase := .checking }
      let r := if s.tr.reader = .holding then .holding else .reading
      if bodyRead k = 0 then checkTicket t s
      else queueRead (readOf .bodyRead (s.tr.pos + 16) (bodyRead k)) { s with tr.ticket := some t, tr.reader := r }

/-! ## Completed reads (09 R171, R174a) -/

/-- A completed read that finds a halt pending in READING takes TR to IDLE without acting on what it read (09 R170). -/
def State.haltsRead (s : State) : Bool := s.tr.reader == .reading && s.tr.haltReq

/-- The header names a ticket TR may take in its reader state: in HOLDING only an END_SEGMENT (09 R174a). -/
def State.wants (s : State) (h : Header) : Bool := s.tr.reader != .holding || h.kindCode == 7

/-- The read has found a NEW ticket while a pause request stands: TR is PAUSED, which a halt that is pending leads on to IDLE at once
(09 R170, R177, log entry 24). -/
def pauseReader (s : State) : State := if s.tr.haltReq then enterIdle s else setReader .paused s

/-- A completed header read (09 R171, R174a, R177). -/
def headerRead (ws : List Word) (s : State) : State :=
  let h := headerOf ws
  if s.haltsRead then enterIdle s
  else if h.state ≠ 0 then (if s.tr.reader = .holding then s else setReader .waiting s)
  else if !s.wants h then s
  else if s.tr.pauseReq then pauseReader s
  else takeTicket h s

/-- A completed link read (09 R171, R174a): a link of 10h or above is followed and the new header read at once. -/
def linkRead (ws : List Word) (s : State) : State :=
  let l := natAt ws 0
  if s.haltsRead then enterIdle s
  else if l < 16 then (if s.tr.reader = .holding then s else setReader .waiting s)
  else
    let r := if s.tr.reader = .holding then .holding else .reading
    issueRead { s with tr.pos := address (wordAt ws 0), tr.step := .header, tr.reader := r }

/-- A completed body read (09 R172). -/
def bodyDone (ws : List Word) (s : State) : State :=
  match s.tr.ticket with
  | some t => if s.haltsRead then enterIdle { s with tr.ticket := none } else checkTicket { t with body := ws } s
  | none => s

/-! ## Completed header writes (09 R167, R168, R173, R174b) -/

/-- The final-state write of TR's own ticket has completed: the step becomes LINK and TR reads on, or enters IDLE where a halt is
pending (09 R170, R173). In IDLE, and as soft reset writes the ticket FAILED RESET, position and step are kept (09 R180). -/
def closeTicket (s : State) : State :=
  let s1 := { s with tr.ticket := none }
  if s.softEnding then s1
  else match s.tr.reader with
    | .idle => s1
    | .holding | .stalled | .paused => { s1 with tr.step := .link }
    | .reading | .executing | .waiting => trContinue { s1 with tr.step := .link, tr.reader := .reading }

/-- What a completed header write was for (09 R168). A SEGMENT's TAKEN write can complete when a halt and a GO_CHAIN have begun another
walk, which has waited for it and reads now. -/
def headerRole (r : HeaderRole) (s : State) : State :=
  match r with
  | .take _ => trContinue (handOff s)
  | .close => closeTicket s
  | .segment _ => trContinue s

/-- A header write has completed: the TICKET notice of a final state and a progress block write (09 R167), what the write was for
(09 R168), and a soft reset that waits for the last one goes on (09 R180, steps 2 to 5). -/
def headerWritten (h : HeaderWrite) (s : State) : State :=
  softWritten (headerRole h.role (requestProgress (raiseIf (h.state.isFinal && h.notify) .ticket s)))

/-! ## GO_CHAIN and HALT_CHAIN (09 R170, R178) -/

/-- A final-state write that is still outstanding from the walk before this one: TR waits for it before it reads, but its
completion moves neither position nor step (09 R168, log entry 36). -/
def Transfer.ofOldWalk (t : Transfer) : Transfer :=
  match t.kind with
  | .headerWrite h =>
    match h.role with
    | .close => { t with kind := .headerWrite { h with role := .segment true } }
    | .take _ | .segment _ => t
  | .recordWrite | .countsWrite _ | .headerRead | .linkRead | .bodyRead | .progress | .profileCopy | .reportWrite => t

/-- GO_CHAIN from IDLE with CHAINHEAD not 0: TR reads the header at CHAINHEAD at once, in READING; with a segment still TAKEN, which
only the halt of a PAUSED reader leaves in IDLE, as a read-ahead in HOLDING, and then the poll timer runs by R174 (log entry 24). -/
def startWalk (s : State) : State :=
  let s1 := { s with tr.pos := s.smp.chainHead.toNat, tr.step := .header, smp.writes := s.smp.writes.map Transfer.ofOldWalk }
  if s.segTaken then readerLook (setReader .holding (if s.re.raster = .printing then s1 else pollStart s1))
  else trContinue (setReader .reading (pollStart s1))

/-- GO_CHAIN. From STALLED, and from the IDLE of a halted HOLDING, the read does not wait for the PRINTED or final-state write of the segment
that was reported then (log entry 62). -/
def goChain (s : State) : State :=
  match s.tr.reader with
  | .idle => if s.smp.chainHead = 0 then s else startWalk s
  | .stalled => if s.segTaken then setReader .holding s else trContinue (setReader .reading s)
  | .reading | .waiting | .executing | .holding | .paused => s

/-- HALT_CHAIN. A look's repeated read leaves the reader WAITING, so a halt during it abandons the read (log entry 51); PAUSED leads to
IDLE at once also with a segment TAKEN (log entry 24). -/
def haltChain (s : State) : State :=
  match s.tr.reader with
  | .idle => { s with tr.haltReq := false }
  | .waiting | .paused => enterIdle (abandonTicketRead s)
  | .stalled => if s.segTaken then { s with tr.haltReq := true } else enterIdle s
  | .reading | .executing | .holding => { s with tr.haltReq := true }

/-- The poll timer has reached the period in force: a chain look, and the timer restarts (09 R174). -/
def chainPoll (s : State) : State :=
  if s.tr.pollRunning && decide (s.tr.pollInForce ≤ s.tr.pollElapsed) then
    chainLook { s with tr.pollElapsed := 0, tr.pollInForce := s.smp.pollPeriod }
  else s

end Sys2Proof.Machine
end

