-- ==== Sys2Proof/Machine/Port.lean ====
section
/-! DEFINITION. Sys2Proof/Machine/Port.lean: the Shared Memory Port (10): the arbiter, the end of a burst and of a transfer, bus
errors, the register window, power inputs, and the passing of a millisecond. -/

namespace Sys2Proof.Machine

/-! ## The arbiter (10 R185) -/

/-- Replace the queue of client 2, 3 or 4. -/
def Port.setQueue (p : Port) (c : Client) (q : List Transfer) : Port :=
  match c with
  | .row => p
  | .write => { p with writes := q }
  | .read => { p with reads := q }
  | .copy => { p with copies := q }

/-- A client is guarded by a pass-over count of 8 or more. -/
def State.guarded (s : State) (c : Client) : Bool := s.waits c && Config.passOverMax ≤ s.smp.passOver.get c

/-- The clients in the order of their priority. -/
def clients : List Client := [.row, .write, .read, .copy]

/-- The client the arbiter grants: the first guarded one, otherwise the first that waits. -/
def State.choose (s : State) : Option Client :=
  match clients.find? s.guarded with
  | some c => some c
  | none => clients.find? s.waits

/-- The pass-over count of a client at a grant to `winner`. -/
def State.passOverAt (s : State) (winner c : Client) : Nat :=
  if c = winner then 0 else if s.waits c then s.smp.passOver.get c + 1 else 0

/-- The first burst of a progress block write (10 R188): the update count is incremented, the values are taken and the one-second
timer restarts. -/
def startProgress (rest : List Transfer) (s : State) : State :=
  let s1 := { s with smp.updateCount := s.smp.updateCount + 1 }
  { s1 with
    smp.progTimer := 0,
    smp.reads := writeOf .progress s1.smp.progBase.toNat (progressWords s1) :: rest }

/-- Grant a burst to a client: at most the burst limit of words of its oldest transfer. -/
def grantBurst (c : Client) (s : State) : State :=
  let n := min s.smp.burstLimit (s.leftOf c)
  let s1 := { s with smp.passOver := PassOver.ofFn (s.passOverAt c), smp.grant := some { client := c, words := n, dropped := false } }
  match c, s1.smp.reads with
  | .read, t :: rest => if t.isPendingProgress then startProgress rest s1 else s1
  | .read, [] | .row, _ | .write, _ | .copy, _ => s1

/-- The arbiter: while the bus is idle and a client waits it grants (10 R185). -/
def kick (s : State) : State :=
  let s1 := idleCounts s
  if s1.smp.grant.isSome then s1
  else match s1.choose with
    | none => s1
    | some c => grantBurst c s1

/-! ## Ends of transfers -/

/-- The transfer writes host memory; the others read it. -/
def Transfer.isWrite (t : Transfer) : Bool :=
  match t.kind with
  | .headerWrite _ | .recordWrite | .countsWrite _ | .progress | .reportWrite => true
  | .headerRead | .linkRead | .bodyRead | .profileCopy => false

/-- A counts write has ended (01 R20, R22, R25). An entry whose finalisation had begun before soft reset reached BT is signalled as
its write ends: with its stored cause while BT still waits for a retirement, with RESET afterwards, and once TR waits for its
header writes (09 R180, step 2), when that wait is over; a PRINTED segment whose last band is the retirement that soft reset waits for is
not finalised by 01 R20 at its removal, but with RESET in step 3 (log entry 33). -/
def countsEnded (why : CountsFor) (s : State) : State :=
  match why with
  | .retirement =>
    let id := (s.bt.track.head?.map Band.tally).getD 0
    let s1 := removeHead s
    if s1.smp.soft = .retiring then softDiscard s1
    else tryBandStart (drainEnd (finaliseIfDone id (startRetirement s1)))
  | .finalise id =>
    match s.tallyOf id with
    | some t =>
      match s.smp.soft with
      | .writing => modTally id (fun u => { u with closing := false }) s
      | .finalising => softFinalise (signalFinal t s)
      | .off | .stopping | .retiring | .closing | .settling => signalFinal t s
    | none => s

/-- The snapshot write of a REPORT has ended (09 R176); once soft reset has reached TR the final state is RESET, written in TR's own
turn (09 R180, step 4). -/
def reportEnded (ok : Bool) (s : State) : State :=
  match s.smp.soft with
  | .off | .stopping => if ok then finishTicket .done .ok 0 s else finishTicket .failed .portError 1 s
  | .closing => softClose s
  | .retiring | .writing | .finalising | .settling => s

/-- What the end of a transfer without error brings to its owner. -/
def transferEnded (t : Transfer) (s : State) : State :=
  match t.kind with
  | .headerWrite h => headerWritten h s
  | .recordWrite => recordEnded true s
  | .countsWrite why => countsEnded why s
  | .headerRead => headerRead t.words s
  | .linkRead => linkRead t.words s
  | .bodyRead => bodyDone t.words s
  | .progress => s
  | .profileCopy => copyEnded t.words s
  | .reportWrite => reportEnded true s

/-! ## The end of a burst (10 R185) -/

/-- Put the words a write burst moved on the bus. -/
def emitWrites (addr : Nat) : List Word → State → State
  | [], s => s
  | w :: ws, s => emitWrites (addr + 4) ws (emit (.busWrite addr w) s)

/-- The words of a transfer that its next `n` moves write. -/
def Transfer.next (t : Transfer) (n : Nat) : List Word := (t.words.drop t.moved).take n

/-- How many words a burst of a transfer moves: all that were granted in a write; those that arrived, in a read. -/
def Transfer.moves (t : Transfer) (g : Grant) (ws : List Word) : Nat := if t.isWrite then g.words else min ws.length g.words

/-- A transfer after `n` more words. -/
def Transfer.after (t : Transfer) (n : Nat) (ws : List Word) : Transfer :=
  { t with moved := t.moved + n, left := t.left - n, words := if t.isWrite then t.words else t.words ++ ws.take n }

/-- Words of an image arrive in the staging slot (04 R74). -/
def stageWords (t : Transfer) (ws : List Word) (s : State) : State :=
  if t.isCopy then { s with ps.staging := s.ps.staging.map (fun c => { c with words := c.words ++ ws }) } else s

/-- The burst of a transfer ends without error: its words have moved, and the transfer ends with its last one. -/
def transferBurst (c : Client) (t : Transfer) (rest : List Transfer) (g : Grant) (ws : List Word) (s : State) : State :=
  let n := t.moves g ws
  let s1 := if t.isWrite then emitWrites (t.addr + 4 * t.moved) (t.next n) s else stageWords t (ws.take n) s
  let t1 := t.after n ws
  if t1.left = 0 then transferEnded t1 { s1 with smp := s1.smp.setQueue c rest }
  else { s1 with smp := s1.smp.setQueue c (t1 :: rest) }

/-- Words of the row being fetched that are not its last arrive (02 R33). -/
def rowWords (ws : List Word) (s : State) : State :=
  let f : List RowSlot → List RowSlot := fun l =>
    l.takeWhile RowSlot.complete ++
      match l.dropWhile RowSlot.complete with
      | [] => []
      | x :: rest => { x with words := x.words ++ ws } :: rest
  { s with re.slots := f s.re.slots }

/-- A row-fetch burst ends without error. -/
def rowBurst (g : Grant) (ws : List Word) (s : State) : State :=
  let got := ws.take g.words
  if s.rowLeft = 0 then s else if s.rowLeft ≤ got.length then rowComplete got s else rowWords got s

/-- The burst in progress ends without error; `ws` are the words a read delivered. Words for an abandoned read are dropped. -/
def burstEnd (ws : List Word) (s : State) : State :=
  match s.smp.grant with
  | none => s
  | some g =>
    let s1 := { s with smp.grant := none }
    if g.dropped then s1
    else match g.client, s1.smp.queue g.client with
      | .row, _ => rowBurst g ws s1
      | .write, t :: rest | .read, t :: rest | .copy, t :: rest => transferBurst g.client t rest g ws s1
      | .write, [] | .read, [] | .copy, [] => s1

/-- What the burst in progress completes as it ends without error. -/
inductive Completes where
  /-- A row of the row buffer. -/
  | row
  /-- The transfer at the head of its client's queue. -/
  | transfer (t : Transfer)
  deriving DecidableEq, Repr

/-- What ends with the burst in progress, if it delivers these words. -/
def State.finishing (s : State) (ws : List Word) : Option Completes :=
  match s.smp.grant with
  | none => none
  | some g =>
    if g.dropped then none
    else match g.client, s.smp.queue g.client with
      | .row, _ => if s.rowLeft ≠ 0 ∧ s.rowLeft ≤ min ws.length g.words then some .row else none
      | .write, t :: _ | .read, t :: _ | .copy, t :: _ => if t.left ≤ t.moves g ws then some (.transfer t) else none
      | .write, [] | .read, [] | .copy, [] => none

/-- The transfer that ends with the burst in progress meets a test. -/
def State.finishes (s : State) (ws : List Word) (p : Transfer → Bool) : Bool :=
  match s.finishing ws with
  | some (.transfer t) => p t
  | some .row | none => false

/-- The burst in progress ends, where it completes a transfer of the kind a command names; a burst that does not is not that
command's event, and nothing changes. -/
def transferDone (p : Transfer → Bool) (ws : List Word) (s : State) : State := if s.finishes ws p then burstEnd ws s else s

/-! ## Bus errors (10 R186) -/

/-- A ticket read has failed (09 R178): STALLED, with a ticket whose body read failed still NEW. With a halt pending and no segment
TAKEN, STALLED leads to IDLE at once (09 R170, log entry 16). -/
def ticketReadFailed (s : State) : State :=
  let s1 := setReader .stalled { s with tr.ticket := s.tr.ticket.filter Ticket.past }
  if s1.tr.haltReq && !s1.segTaken then enterIdle s1 else s1

/-- A header write made again with the same content (09 R168). -/
def Transfer.repeated (t : Transfer) (h : HeaderWrite) : Transfer :=
  { t with kind := .headerWrite { h with repeating := true }, moved := 0, left := t.words.length }

/-- What an error brings to the owner of a transfer, and what stays of it in its queue (10 R186). -/
def transferFailed (c : Client) (t : Transfer) (rest : List Transfer) (s : State) : State :=
  let s1 := { s with smp := s.smp.setQueue c rest }
  match t.kind with
  | .headerWrite h => { s with smp := s.smp.setQueue c (t.repeated h :: rest) }
  | .recordWrite => recordEnded false s1
  | .countsWrite why => countsEnded why s1
  | .headerRead | .linkRead | .bodyRead => ticketReadFailed s1
  | .progress => s1
  | .profileCopy => copyFailed s1
  | .reportWrite => reportEnded false s1

/-- The received words of the row being fetched are dropped; the same row is fetched again (02 R34). -/
def rowFailed (s : State) : State :=
  let f : List RowSlot → List RowSlot := fun l =>
    l.takeWhile RowSlot.complete ++
      match l.dropWhile RowSlot.complete with
      | [] => []
      | x :: rest => { x with words := [] } :: rest
  { s with re.slots := f s.re.slots }

/-- The burst in progress is cut off after `moved` of its words: those a write moved have reached memory (10 R186, R189). -/
def cutBurst (moved : Nat) (s : State) : State :=
  match s.smp.grant with
  | none => s
  | some g =>
    match s.smp.queue g.client with
    | [] => s
    | t :: _ =>
      if t.isWrite && !g.dropped then emitWrites (t.addr + 4 * t.moved) (t.next (min moved g.words)) s else s

/-- The burst in progress ends with an error after `moved` words: PORT is raised, and the error goes to the transfer's owner. -/
def busError (moved : Nat) (s : State) : State :=
  match s.smp.grant with
  | none => s
  | some g =>
    let s1 := raise .port { cutBurst moved s with smp.grant := none }
    if g.dropped then s1
    else match g.client, s1.smp.queue g.client with
      | .row, _ => rowFailed s1
      | .write, t :: rest | .read, t :: rest | .copy, t :: rest => transferFailed g.client t rest s1
      | .write, [] | .read, [] | .copy, [] => s1

/-! ## The register window (10 R181 to R184) -/

/-- A value with bits 3..0 cleared. -/
def align16 (v : Word) : Word := v &&& 0xFFFFFFF0

/-- A write to CHAINHEAD: stored while TR is IDLE. -/
def writeChainHead (v : Word) (s : State) : State :=
  match s.tr.reader with
  | .idle => { s with smp.chainHead := align16 v }
  | .reading | .waiting | .executing | .holding | .paused | .stalled => s

/-- A write to PROGBASE: stored; a usable value requests a progress block write; with no block named, pending writes are dropped
and the one-second timer goes on as it stands (log entry 35). -/
def writeProgBase (v : Word) (s : State) : State :=
  let s1 := { s with smp.progBase := align16 v }
  if s1.smp.progUsable then requestProgress s1
  else idleCounts { s1 with smp.reads := s1.smp.reads.filter (fun t => !t.isPendingProgress) }

/-- A write to NOTICE: writing 1 clears a bit (10 R183). -/
def writeNotice (v : Word) (s : State) : State := { s with smp.notice := s.smp.notice &&& ~~~(v.setWidth 10) }

/-- A write to NOTICEMASK (10 R184). -/
def writeNoticeMask (v : Word) (s : State) : State := { s with smp.noticeMask := v.setWidth 10 }

/-- A write to PORTCFG: both fields clamped. -/
def writePortCfg (v : Word) (s : State) : State :=
  { s with smp.burstLimit := clampN (fieldAt v 0 5) 1 16, smp.pollPeriod := clampN (fieldAt v 8 8) 1 255 }

/-- A command of LINECTL is taken unless a soft reset is in progress (10 R182). -/
def lineCtl (f : State → State) (s : State) : State :=
  match s.smp.soft with
  | .off => f s
  | .stopping | .retiring | .writing | .finalising | .closing | .settling => s

/-- Apply a command where its bit is set. -/
def onBit (t : Bool) (f : State → State) (s : State) : State := if t then f s else s

/-- A write to LINECTL with any bits (10 R182): SOFT_RESET alone, STOP over RUN, HALT_CHAIN over GO_CHAIN, CLEAR_TRIP first. -/
def writeLineCtl (v : Word) (s : State) : State :=
  if bitAt v 5 then softStart s
  else
    onBit (bitAt v 4) haltChain
      (onBit (bitAt v 3 && !bitAt v 4) goChain
        (onBit (bitAt v 1) stopRequest
          (onBit (bitAt v 0 && !bitAt v 1) startRequest
            (onBit (bitAt v 2) clearTrip s))))

/-- A write access to the register window (10 R181): a partial write, a write to LINESTAT and one to offset 1Ch are ignored. -/
def writeRegister (offset bytes : Nat) (v : Word) (s : State) : State :=
  if bytes ≠ 4 then s
  else if offset = 0x00 then lineCtl (writeLineCtl v) s
  else if offset = 0x08 then writeChainHead v s
  else if offset = 0x0C then writeProgBase v s
  else if offset = 0x10 then writeNotice v s
  else if offset = 0x14 then writeNoticeMask v s
  else if offset = 0x18 then writePortCfg v s
  else s

/-- A read of the register window (10 R181, R189): a read of any width returns the whole register; all read 0 in power-up reset. -/
def State.readRegister (s : State) (offset : Nat) : Word :=
  if !s.pins.powerGood then 0
  else if offset = 0x04 then s.lineStat
  else if offset = 0x08 then s.smp.chainHead
  else if offset = 0x0C then s.smp.progBase
  else if offset = 0x10 then s.smp.notice.setWidth 32
  else if offset = 0x14 then s.smp.noticeMask.setWidth 32
  else if offset = 0x18 then wordOf (s.smp.burstLimit + s.smp.pollPeriod * 256)
  else 0

/-- The one-second timer has reached 1 s while the line is moving (10 R187). -/
def progressTimer (s : State) : State :=
  if s.dc.line.moving && decide (1000 ≤ s.smp.progTimer) then requestProgress s else s

/-! ## Power inputs (10 R189) -/

/-- Every block at its power-up values, as the pins stand (01 R26, 05 R109, 06 R136, 07 R151, 08 R166, 10 R189); the queue, the
clock and the free values' counter are the model's own and stay. -/
def powerUpState (p : Pins) (s : State) : State :=
  { State.reset with
    pins := p, now := s.now, freeCount := s.freeCount, pending := s.pending,
    hc.drum := if p.mainsOk then .cold else .tripped,
    dc.line := if p.mainsOk then .stopped else .powerHeld,
    dc.nip := if p.nipOpen then .opened else .opening,
    dc.nipTimer := if p.nipOpen then none else some Settings.reset.nipTravel }

/-- POWER_GOOD is deasserted: power-up reset begins at once. Memory is left as the last completed words left it; how many words of a
write burst in progress were completed comes with the command (log entry 38). -/
def powerDown (moved : Nat) (s : State) : State :=
  { powerUpState { s.pins with powerGood := false } s with out := (cutBurst moved { s with out := [] }).out }

/-- The rising edge of POWER_GOOD releases the reset, and raises POWER with MAINS_OK deasserted. -/
def powerRise (s : State) : State :=
  if s.pins.powerGood then { s with out := [] }
  else raiseIf (!s.pins.mainsOk) .power (powerUpState { s.pins with powerGood := true } s)

/-! ## Closing a command, and the clock -/

/-- What every command ends with: in power-up reset nothing acts; otherwise the arbiter grants where it can. -/
def command (f : State → State) (s : State) : State := powered (fun t => kick (f t)) s

/-- A command that comes with the levels of the input lines (log entry 31). -/
def commandAt (l : Lines) (f : State → State) (s : State) : State := command (fun t => f (sampleLines l t)) s

/-- One silence timer after a millisecond (06 R135). -/
def Drive.silenceTick (d : Drive) : Encs Nat :=
  if 50000 ≤ d.ref then ⟨d.silence.paper + 1, d.silence.infeed + 1, d.silence.drum + 1⟩ else d.silence

/-- One millisecond passes (log entry 1): every timer that runs advances. What a timer brings when it has run out is a command of
its own. -/
def tick (s : State) : State :=
  powered (fun s =>
    { s with
      now := s.now + 1,
      tr.pollElapsed := if s.tr.pollRunning then s.tr.pollElapsed + 1 else s.tr.pollElapsed,
      smp.progTimer := if s.dc.line.moving then s.smp.progTimer + 1 else s.smp.progTimer,
      dc.nipTimer := s.dc.nipTimer.map (· - 1),
      dc.nipHold := if s.nipHoldRuns then s.dc.nipHold + 1 else 0,
      dc.silence := s.dc.silenceTick,
      cv.silence := if s.cv.silenceOn then s.cv.silence + 1 else s.cv.silence,
      cv.rxGap := if s.cv.rx = .hunting then s.cv.rxGap else s.cv.rxGap + 1 }) s

end Sys2Proof.Machine
end

