-- ==== Sys2Proof/Machine/LineCtl.lean ====
section
/-! DEFINITION. Sys2Proof/Machine/LineCtl.lean: the six commands of LINECTL (10 R182). -/

namespace Sys2Proof.Machine

/-- RUN (06 R114): a start request. -/
def execRun (lines : Lines) (s : State) : Host.Outcome State Fault Refusal :=
  .next (commandAt lines (lineCtl startRequest) s)

/-- STOP (06 R116): a stop request. -/
def execStop (s : State) : Host.Outcome State Fault Refusal :=
  .next (command (lineCtl stopRequest) s)

/-- CLEAR_TRIP (06 R120, 05 R103, 06 R124, 09 R177). -/
def execClearTrip (lines : Lines) (s : State) : Host.Outcome State Fault Refusal :=
  .next (commandAt lines (lineCtl clearTrip) s)

/-- GO_CHAIN (09 R170, R178). -/
def execGoChain (s : State) : Host.Outcome State Fault Refusal :=
  .next (command (lineCtl goChain) s)

/-- HALT_CHAIN (09 R170). -/
def execHaltChain (s : State) : Host.Outcome State Fault Refusal :=
  .next (command (lineCtl haltChain) s)

/-- SOFT_RESET (10 R190): begun when none is in progress. -/
def execSoftReset (s : State) : Host.Outcome State Fault Refusal :=
  .next (command (lineCtl softStart) s)

end Sys2Proof.Machine
end

