-- ==== Sys2Proof/Machine/Registers.lean ====
section
/-! DEFINITION. Sys2Proof/Machine/Registers.lean: writes to the register window (10, 10.1). -/

namespace Sys2Proof.Machine

/-- CHAINHEAD_WRITE (10 R181). -/
def execChainheadWrite (v : Word) (s : State) : Host.Outcome State Fault Refusal :=
  .next (command (writeChainHead v) s)

/-- PROGBASE_WRITE (10 R181). -/
def execProgbaseWrite (v : Word) (s : State) : Host.Outcome State Fault Refusal :=
  .next (command (writeProgBase v) s)

/-- NOTICE_WRITE (10 R183). -/
def execNoticeWrite (v : Word) (s : State) : Host.Outcome State Fault Refusal :=
  .next (command (writeNotice v) s)

/-- NOTICEMASK_WRITE (10 R184). -/
def execNoticemaskWrite (v : Word) (s : State) : Host.Outcome State Fault Refusal :=
  .next (command (writeNoticeMask v) s)

/-- PORTCFG_WRITE (10 R181). -/
def execPortcfgWrite (v : Word) (s : State) : Host.Outcome State Fault Refusal :=
  .next (command (writePortCfg v) s)

/-- REGISTER_WRITE (10 R181, R182): any write access to the window. -/
def execRegisterWrite (offset bytes : Nat) (v : Word) (lines : Lines) (s : State) : Host.Outcome State Fault Refusal :=
  .next (commandAt lines (writeRegister offset bytes v) s)

end Sys2Proof.Machine
end

