-- ==== Sys2Proof/Machine/Power.lean ====
section
/-! DEFINITION. Sys2Proof/Machine/Power.lean: the power inputs (10 R189). -/

namespace Sys2Proof.Machine

/-- POWER_GOOD_LOW (10 R189). -/
def execPowerGoodLow (moved : Nat) (s : State) : Host.Outcome State Fault Refusal :=
  .next (powerDown moved s)

/-- POWER_GOOD_RISE (10 R189). -/
def execPowerGoodRise (s : State) : Host.Outcome State Fault Refusal :=
  .next (powerRise s)

/-- While power-up reset is held a power or switch pin changes its level and nothing else acts (10 R189). -/
def pinned (p : Pins) (f : State → State) (s : State) : State :=
  if s.pins.powerGood then command f s else { s with pins := p, out := [] }

/-- MAINS_OK_LOSS (06 R121, 05 R101, 10 R189). -/
def execMainsOkLoss (s : State) : Host.Outcome State Fault Refusal :=
  .next (pinned { s.pins with mainsOk := false } mainsLoss s)

/-- MAINS_OK_RETURN (06 R121, 10 R189). -/
def execMainsOkReturn (s : State) : Host.Outcome State Fault Refusal :=
  .next (pinned { s.pins with mainsOk := true } mainsReturn s)

end Sys2Proof.Machine
end

