-- ==== Sys2Proof/Machine/Tickets.lean ====
section
/-! DEFINITION. Sys2Proof/Machine/Tickets.lean: the nine kinds of ticket (09 R172, R173) and the end of a snapshot write. -/

namespace Sys2Proof.Machine

/-- The burst in progress ends a step of a ticket of this kind that is due: the body read of one being taken (for a STOP, which has
no body, the header read that finds it), or its TAKEN write, at which it is handed to its block (09 R172). -/
def State.ticketDue (s : State) (ws : List Word) (k : TicketKind) : Bool :=
  s.finishes ws (fun t =>
    match t.kind with
    | .bodyRead => (s.tr.ticket.map (fun x => x.kind == k && x.phase == .checking)).getD false
    | .headerRead =>
      let h := headerOf (t.words ++ ws)
      k == .stop && h.state == 0 && kindOfCode h.kindCode == some .stop
    | .headerWrite h =>
      match h.role with
      | .take x => x == k
      | .close | .segment _ => false
    | .recordWrite | .countsWrite _ | .linkRead | .progress | .profileCopy | .reportWrite => false)

/-- The due step of a ticket of a kind is made by the end of the burst in progress; where none is due, nothing changes. -/
def ticketStep (k : TicketKind) (ws : List Word) (s : State) : State := if s.ticketDue ws k then burstEnd ws s else s

/-- CONFIGURE (09 R175): its range checks, or its application. -/
def execConfigure (ws : List Word) (s : State) : Host.Outcome State Fault Refusal :=
  .next (command (ticketStep .configure ws) s)

/-- SET_HEAT (05 R89). -/
def execSetHeat (ws : List Word) (s : State) : Host.Outcome State Fault Refusal :=
  .next (command (ticketStep .setHeat ws) s)

/-- SET_TENSION (06 R131). -/
def execSetTension (ws : List Word) (s : State) : Host.Outcome State Fault Refusal :=
  .next (command (ticketStep .setTension ws) s)

/-- SET_SPEED (06 R113). -/
def execSetSpeed (ws : List Word) (s : State) : Host.Outcome State Fault Refusal :=
  .next (command (ticketStep .setSpeed ws) s)

/-- LOAD_PROFILE (04 R73): its body checks, or the start of its copy. -/
def execLoadProfile (ws : List Word) (s : State) : Host.Outcome State Fault Refusal :=
  .next (command (ticketStep .loadProfile ws) s)

/-- SEGMENT (02 R29): its checks and its take. -/
def execSegment (ws : List Word) (lines : Lines) (s : State) : Host.Outcome State Fault Refusal :=
  .next (commandAt lines (ticketStep .segment ws) s)

/-- END_SEGMENT (02 R46, R47). -/
def execEndSegment (ws : List Word) (s : State) : Host.Outcome State Fault Refusal :=
  .next (command (ticketStep .endSegment ws) s)

/-- STOP as a ticket (06 R118). -/
def execStopTicket (ws : List Word) (s : State) : Host.Outcome State Fault Refusal :=
  .next (command (ticketStep .stop ws) s)

/-- REPORT (09 R176): its check, or its snapshot. -/
def execReport (ws : List Word) (s : State) : Host.Outcome State Fault Refusal :=
  .next (command (ticketStep .report ws) s)

/-- REPORT_WRITE_DONE (09 R176). -/
def execReportWriteDone (s : State) : Host.Outcome State Fault Refusal :=
  .next (command (transferDone Transfer.isReport []) s)

end Sys2Proof.Machine
end

