-- ==== Sys2Proof/Machine/Paper.lean ====
section
/-! DEFINITION. Sys2Proof/Machine/Paper.lean: encoder pulses, splices, marks, band starts and rows (01, 02, 07). -/

namespace Sys2Proof.Machine

/-- ENCODER_PULSE (01 R6, 06 R135). -/
def execEncoderPulse (e : EncoderId) (forward : Bool) (lines : Lines) (s : State) : Host.Outcome State Fault Refusal :=
  .next (commandAt lines (encoderPulse e forward) s)

/-- SPLICE_PULSE (01 R14, R15, 06 R133). -/
def execSplicePulse (s : State) : Host.Outcome State Fault Refusal :=
  .next (command splicePulse s)

/-- MARK_READ (07 R140). -/
def execMarkRead (code : Byte) (checkOk : Bool) (position : Nat) (s : State) : Host.Outcome State Fault Refusal :=
  .next (command (takeMark code checkOk position) s)

/-- The test of the found run; a window that the narrower H of LOCKED places behind P closes (07 R143, R145). -/
def lockAcquired (s : State) : State :=
  if s.mr.lock ≠ .locked ∧ 3 ≤ s.mr.found then closeWindows (lockAcquireTest s) else s

/-- LOCK_ACQUIRED (07 R145). -/
def execLockAcquired (s : State) : Host.Outcome State Fault Refusal :=
  .next (command lockAcquired s)

/-- LOCK_LOST (07 R145): the test of the miss run. -/
def execLockLost (s : State) : Host.Outcome State Fault Refusal :=
  .next (command lockLoseTest s)

/-- BAND_START (02 R36 to R38): the test of a band start. -/
def execBandStart (lines : Lines) (s : State) : Host.Outcome State Fault Refusal :=
  .next (commandAt lines tryBandStart s)

/-- The burst in progress completes a row (02 R33). -/
def rowDone (ws : List Word) (s : State) : State := if s.finishing ws = some .row then burstEnd ws s else s

/-- ROW_ARRIVED (02 R33). -/
def execRowArrived (ws : List Word) (lines : Lines) (s : State) : Host.Outcome State Fault Refusal :=
  .next (commandAt lines (rowDone ws) s)

end Sys2Proof.Machine
end

