-- ==== Sys2Proof/Machine/HeatEvents.lean ====
section
/-! DEFINITION. Sys2Proof/Machine/HeatEvents.lean: the events of the Heat Controller (05). -/

namespace Sys2Proof.Machine

/-- A heat sample: its stages, then the fast stop that a trip asks for (05 R93, R100). -/
def heatSample (ch : Oct Channel) (s : State) : State :=
  let s1 := heatStages ch s
  if (takeReadings ch s).overTemp then fastStop s1 else s1

/-- A zone whose valid run has reached 20 is entered into REGULATE (05 R97). -/
def Zone.recover (z : Zone) : Zone :=
  match z.state, z.reading with
  | .lost, some r => if 20 ≤ z.validRun then z.regulateFrom r else z
  | .lost, none | .off, _ | .regulate, _ => z

/-- A ramp step; none is made while the drum is TRIPPED (05 R92). -/
def rampStep (s : State) : State := if s.hc.drum = .tripped then s else modZones (Zone.ramp s.hc.ramp) s

/-- HEAT_SAMPLE (05 R93). -/
def execHeatSample (channels : Oct Channel) (s : State) : Host.Outcome State Fault Refusal :=
  .next (command (heatSample channels) s)

/-- ZONE_RECOVERY (05 R97): the test of one zone's valid run. -/
def execZoneRecovery (z : Fin 8) (s : State) : Host.Outcome State Fault Refusal :=
  .next (command (fun t => { t with hc.zones := t.hc.zones.set z (t.hc.zones.get z).recover }) s)

/-- DRUM_SETTLED (05 R98): the test of the settle count. -/
def execDrumSettled (s : State) : Host.Outcome State Fault Refusal :=
  .next (command settleTest s)

/-- RAMP_STEP (05 R92). -/
def execRampStep (s : State) : Host.Outcome State Fault Refusal :=
  .next (command rampStep s)

end Sys2Proof.Machine
end

