-- ==== Sys2Proof/Machine/DriveEvents.lean ====
section
/-! DEFINITION. Sys2Proof/Machine/DriveEvents.lean: the events of the Drive Controller (06). -/

namespace Sys2Proof.Machine

/-- TENSION_SAMPLE (06 R126). -/
def execTensionSample (cells : Webs LoadCell) (lines : Lines) (s : State) : Host.Outcome State Fault Refusal :=
  .next (commandAt lines (tensionSample cells) s)

/-- WEB_FAULT (06 R129): the test of one web's deviation run. -/
def execWebFault (w : WebId) (s : State) : Host.Outcome State Fault Refusal :=
  .next (command (webFault w) s)

/-- LINE_RUNNING (06 R115): the running test. -/
def execLineRunning (lines : Lines) (s : State) : Host.Outcome State Fault Refusal :=
  .next (commandAt lines runningTest s)

/-- SPEED_ZERO (06 R112, R117): the test for speed 0. -/
def execSpeedZero (lines : Lines) (s : State) : Host.Outcome State Fault Refusal :=
  .next (commandAt lines speedZeroTest s)

/-- STRETCH_UPDATE (06 R134). -/
def execStretchUpdate (s : State) : Host.Outcome State Fault Refusal :=
  .next (command stretchUpdate s)

/-- The levels of the nip switches. -/
def sampleNip (openSw closedSw : Bool) (s : State) : State := { s with pins.nipOpenSw := openSw, pins.nipClosedSw := closedSw }

/-- NIP_SWITCH_CHANGE (06 R123). -/
def execNipSwitchChange (openSw closedSw : Bool) (lines : Lines) (s : State) : Host.Outcome State Fault Refusal :=
  .next (pinned { s.pins with nipOpenSw := openSw, nipClosedSw := closedSw }
    (fun t => nipSwitches (sampleNip openSw closedSw (sampleLines lines t))) s)

/-- NIP_TRAVEL_TIMEOUT (06 R123). -/
def execNipTravelTimeout (s : State) : Host.Outcome State Fault Refusal :=
  .next (command nipTimeout s)

/-- NIP_HOLD_EXPIRY (06 R125). -/
def execNipHoldExpiry (s : State) : Host.Outcome State Fault Refusal :=
  .next (command nipHoldTest s)

/-- ENCODER_LOSS (06 R135): the test of one encoder's silence timer. -/
def execEncoderLoss (e : EncoderId) (s : State) : Host.Outcome State Fault Refusal :=
  .next (command (encoderLoss e) s)

end Sys2Proof.Machine
end

