-- ==== Sys2Proof/Machine/Instrument.lean ====
section
/-! DEFINITION. Sys2Proof/Machine/Instrument.lean: the instrument link and the Colour Verifier's events (08). -/

namespace Sys2Proof.Machine

/-- The byte completes an accepted STATUS frame. -/
def ByteResult.isStatus : ByteResult → Bool
  | .status _ => true
  | .advance _ | .bad | .reply _ _ _ _ _ => false

/-- The byte completes an accepted REPLY frame. -/
def ByteResult.isReply : ByteResult → Bool
  | .reply _ _ _ _ _ => true
  | .advance _ | .bad | .status _ => false

/-- The byte discards a frame. -/
def ByteResult.isBad : ByteResult → Bool
  | .bad => true
  | .advance _ | .status _ | .reply _ _ _ _ _ => false

/-- A byte is taken where it has the result a command names; a byte with another result is not that command's event. -/
def byteWhere (p : ByteResult → Bool) (b : Byte) (framing : Bool) (s : State) : State :=
  if p (s.byteResult b framing) then takeByte b framing s else s

/-- The silence timer has reached 5 s: NOT_READY, and the timer stops (08 R154). -/
def instrumentSilence (s : State) : State :=
  if s.cv.silenceOn && decide (5000 ≤ s.cv.silence) then { s with cv.status := .notReady, cv.silenceOn := false } else s

/-- Every head entry whose deadline has passed times out in turn (08 R160). -/
def triggerTimeouts (s : State) : State := times s.cv.list.length timeoutHead s

/-- The frame being sent is complete, and the next queued frame is sent (08 R155). -/
def measureSent (s : State) : State :=
  let s1 := { s with cv.txq := s.cv.txq.tail }
  match s1.cv.txq with
  | [] => s1
  | n :: _ => emit (.measure (measureBytes n)) s1

/-- STATUS_FRAME (08 R153, R154). -/
def execStatusFrame (b : Byte) (s : State) : Host.Outcome State Fault Refusal :=
  .next (command (byteWhere ByteResult.isStatus b false) s)

/-- REPLY_FRAME (08 R153, R158, R159). -/
def execReplyFrame (b : Byte) (s : State) : Host.Outcome State Fault Refusal :=
  .next (command (byteWhere ByteResult.isReply b false) s)

/-- BAD_FRAME (08 R152, R153). -/
def execBadFrame (b : Byte) (framing : Bool) (s : State) : Host.Outcome State Fault Refusal :=
  .next (command (byteWhere ByteResult.isBad b framing) s)

/-- FRAME_BYTE_GAP (08 R152). -/
def execFrameByteGap (s : State) : Host.Outcome State Fault Refusal :=
  .next (command gapTest s)

/-- INSTRUMENT_SILENCE (08 R154). -/
def execInstrumentSilence (s : State) : Host.Outcome State Fault Refusal :=
  .next (command instrumentSilence s)

/-- TRIGGER_TIMEOUT (08 R160). -/
def execTriggerTimeout (s : State) : Host.Outcome State Fault Refusal :=
  .next (command triggerTimeouts s)

/-- MEASURE_SENT (08 R155). -/
def execMeasureSent (s : State) : Host.Outcome State Fault Refusal :=
  .next (command measureSent s)

/-- DRIFT_SET (08 R162): the test of the fail run. -/
def execDriftSet (s : State) : Host.Outcome State Fault Refusal :=
  .next (command driftSetTest s)

/-- DRIFT_CLEAR (08 R162): the test of the pass run. -/
def execDriftClear (s : State) : Host.Outcome State Fault Refusal :=
  .next (command driftClearTest s)

/-- LINK_BYTE (08 R152): a byte of the link, taken at the receiver's position. -/
def execLinkByte (b : Byte) (framing : Bool) (s : State) : Host.Outcome State Fault Refusal :=
  .next (command (takeByte b framing) s)

end Sys2Proof.Machine
end

