-- ==== Sys2Proof/Machine/PortEvents.lean ====
section
/-! DEFINITION. Sys2Proof/Machine/PortEvents.lean: the ends of transfers and the port's own events (09, 10). -/

namespace Sys2Proof.Machine

/-- The transfer is a counts write. -/
def Transfer.isCounts (t : Transfer) : Bool :=
  match t.kind with
  | .countsWrite _ => true
  | .headerWrite _ | .recordWrite | .headerRead | .linkRead | .bodyRead | .progress | .profileCopy | .reportWrite => false

/-- The transfer is a record write. -/
def Transfer.isRecord (t : Transfer) : Bool := t.kind == .recordWrite

/-- CHAIN_POLL (09 R174). -/
def execChainPoll (lines : Lines) (s : State) : Host.Outcome State Fault Refusal :=
  .next (commandAt lines chainPoll s)

/-- TICKET_READ_DONE (09 R171, R172). -/
def execTicketReadDone (ws : List Word) (lines : Lines) (s : State) : Host.Outcome State Fault Refusal :=
  .next (commandAt lines (transferDone Transfer.isTicketRead ws) s)

/-- HEADER_WRITE_DONE (09 R167, R168, R172). -/
def execHeaderWriteDone (s : State) : Host.Outcome State Fault Refusal :=
  .next (command (transferDone Transfer.isHeaderWrite []) s)

/-- PROFILE_COPY_DONE (04 R75). -/
def execProfileCopyDone (ws : List Word) (s : State) : Host.Outcome State Fault Refusal :=
  .next (command (transferDone Transfer.isCopy ws) s)

/-- RECORD_WRITE_DONE (01 R19). -/
def execRecordWriteDone (s : State) : Host.Outcome State Fault Refusal :=
  .next (command (transferDone Transfer.isRecord []) s)

/-- COUNTS_WRITE_DONE (01 R20, R22). -/
def execCountsWriteDone (lines : Lines) (s : State) : Host.Outcome State Fault Refusal :=
  .next (commandAt lines (transferDone Transfer.isCounts []) s)

/-- BURST_END (10 R185). -/
def execBurstEnd (ws : List Word) (lines : Lines) (s : State) : Host.Outcome State Fault Refusal :=
  .next (commandAt lines (burstEnd ws) s)

/-- BUS_ERROR (10 R186). -/
def execBusError (moved : Nat) (lines : Lines) (s : State) : Host.Outcome State Fault Refusal :=
  .next (commandAt lines (busError moved) s)

/-- PROGRESS_TIMER (10 R187). -/
def execProgressTimer (s : State) : Host.Outcome State Fault Refusal :=
  .next (command progressTimer s)

/-- PROGRESS_WRITE_DONE (10 R187, R188). -/
def execProgressWriteDone (s : State) : Host.Outcome State Fault Refusal :=
  .next (command (transferDone Transfer.isProgress []) s)

/-- SOFT_RESET_COMPLETE (10 R190). -/
def execSoftResetComplete (s : State) : Host.Outcome State Fault Refusal :=
  .next (command softComplete s)

end Sys2Proof.Machine
end

