-- ==== Sys2Proof/Machine/Dispatch.lean ====
section
/-! DEFINITION. Sys2Proof/Machine/Dispatch.lean: the meaning of every command, one arm per constructor. -/

namespace Sys2Proof.Machine

/-- A command's effect on everything but the queue. -/
def exec (i : Instr) (s : State) : Host.Outcome State Fault Refusal :=
  match i with
  | .run lines => Sys2Proof.Machine.execRun lines s
  | .stop => Sys2Proof.Machine.execStop s
  | .clearTrip lines => Sys2Proof.Machine.execClearTrip lines s
  | .goChain => Sys2Proof.Machine.execGoChain s
  | .haltChain => Sys2Proof.Machine.execHaltChain s
  | .softReset => Sys2Proof.Machine.execSoftReset s
  | .chainheadWrite v => Sys2Proof.Machine.execChainheadWrite v s
  | .progbaseWrite v => Sys2Proof.Machine.execProgbaseWrite v s
  | .noticeWrite v => Sys2Proof.Machine.execNoticeWrite v s
  | .noticemaskWrite v => Sys2Proof.Machine.execNoticemaskWrite v s
  | .portcfgWrite v => Sys2Proof.Machine.execPortcfgWrite v s
  | .registerWrite offset bytes v lines => Sys2Proof.Machine.execRegisterWrite offset bytes v lines s
  | .powerGoodLow moved => Sys2Proof.Machine.execPowerGoodLow moved s
  | .powerGoodRise => Sys2Proof.Machine.execPowerGoodRise s
  | .mainsOkLoss => Sys2Proof.Machine.execMainsOkLoss s
  | .mainsOkReturn => Sys2Proof.Machine.execMainsOkReturn s
  | .configure ws => Sys2Proof.Machine.execConfigure ws s
  | .setHeat ws => Sys2Proof.Machine.execSetHeat ws s
  | .setTension ws => Sys2Proof.Machine.execSetTension ws s
  | .setSpeed ws => Sys2Proof.Machine.execSetSpeed ws s
  | .loadProfile ws => Sys2Proof.Machine.execLoadProfile ws s
  | .segment ws lines => Sys2Proof.Machine.execSegment ws lines s
  | .endSegment ws => Sys2Proof.Machine.execEndSegment ws s
  | .stopTicket ws => Sys2Proof.Machine.execStopTicket ws s
  | .report ws => Sys2Proof.Machine.execReport ws s
  | .reportWriteDone => Sys2Proof.Machine.execReportWriteDone s
  | .encoderPulse e forward lines => Sys2Proof.Machine.execEncoderPulse e forward lines s
  | .splicePulse => Sys2Proof.Machine.execSplicePulse s
  | .markRead code checkOk position => Sys2Proof.Machine.execMarkRead code checkOk position s
  | .lockAcquired => Sys2Proof.Machine.execLockAcquired s
  | .lockLost => Sys2Proof.Machine.execLockLost s
  | .bandStart lines => Sys2Proof.Machine.execBandStart lines s
  | .rowArrived ws lines => Sys2Proof.Machine.execRowArrived ws lines s
  | .heatSample channels => Sys2Proof.Machine.execHeatSample channels s
  | .zoneRecovery z => Sys2Proof.Machine.execZoneRecovery z s
  | .drumSettled => Sys2Proof.Machine.execDrumSettled s
  | .rampStep => Sys2Proof.Machine.execRampStep s
  | .tensionSample cells lines => Sys2Proof.Machine.execTensionSample cells lines s
  | .webFault w => Sys2Proof.Machine.execWebFault w s
  | .lineRunning lines => Sys2Proof.Machine.execLineRunning lines s
  | .speedZero lines => Sys2Proof.Machine.execSpeedZero lines s
  | .stretchUpdate => Sys2Proof.Machine.execStretchUpdate s
  | .nipSwitchChange openSw closedSw lines => Sys2Proof.Machine.execNipSwitchChange openSw closedSw lines s
  | .nipTravelTimeout => Sys2Proof.Machine.execNipTravelTimeout s
  | .nipHoldExpiry => Sys2Proof.Machine.execNipHoldExpiry s
  | .encoderLoss e => Sys2Proof.Machine.execEncoderLoss e s
  | .statusFrame b => Sys2Proof.Machine.execStatusFrame b s
  | .replyFrame b => Sys2Proof.Machine.execReplyFrame b s
  | .badFrame b framing => Sys2Proof.Machine.execBadFrame b framing s
  | .frameByteGap => Sys2Proof.Machine.execFrameByteGap s
  | .instrumentSilence => Sys2Proof.Machine.execInstrumentSilence s
  | .triggerTimeout => Sys2Proof.Machine.execTriggerTimeout s
  | .measureSent => Sys2Proof.Machine.execMeasureSent s
  | .driftSet => Sys2Proof.Machine.execDriftSet s
  | .driftClear => Sys2Proof.Machine.execDriftClear s
  | .chainPoll lines => Sys2Proof.Machine.execChainPoll lines s
  | .ticketReadDone ws lines => Sys2Proof.Machine.execTicketReadDone ws lines s
  | .headerWriteDone => Sys2Proof.Machine.execHeaderWriteDone s
  | .profileCopyDone ws => Sys2Proof.Machine.execProfileCopyDone ws s
  | .recordWriteDone => Sys2Proof.Machine.execRecordWriteDone s
  | .countsWriteDone lines => Sys2Proof.Machine.execCountsWriteDone lines s
  | .burstEnd ws lines => Sys2Proof.Machine.execBurstEnd ws lines s
  | .busError moved lines => Sys2Proof.Machine.execBusError moved lines s
  | .progressTimer => Sys2Proof.Machine.execProgressTimer s
  | .progressWriteDone => Sys2Proof.Machine.execProgressWriteDone s
  | .softResetComplete => Sys2Proof.Machine.execSoftResetComplete s
  | .linkByte b framing => Sys2Proof.Machine.execLinkByte b framing s

end Sys2Proof.Machine
end

