-- ==== Sys2Proof/Safety.lean ====
section
/-! DEFINITION. Sys2Proof/Safety.lean: the laws of the SL460 as predicates on a state, and the words the statements use for what a
command leaves alone. The part has no fault, so a safe run is one in which these laws hold. -/

namespace Sys2Proof.Machine

/-! ## What a command leaves unchanged -/

/-- The blocks of the part other than the port. -/
inductive Block where
  | tr | re | ps | bt | hc | dc | mr | cv
  deriving DecidableEq, Repr

/-- A block is the same in two states. -/
def SameBlock (b : Block) (s t : State) : Prop :=
  match b with
  | .tr => t.tr = s.tr
  | .re => t.re = s.re
  | .ps => t.ps = s.ps
  | .bt => t.bt = s.bt
  | .hc => t.hc = s.hc
  | .dc => t.dc = s.dc
  | .mr => t.mr = s.mr
  | .cv => t.cv = s.cv

/-- The registers other than NOTICE are the same. -/
def SameRegisters (s t : State) : Prop :=
  t.smp.chainHead = s.smp.chainHead ∧ t.smp.progBase = s.smp.progBase ∧ t.smp.noticeMask = s.smp.noticeMask ∧
  t.smp.burstLimit = s.smp.burstLimit ∧ t.smp.pollPeriod = s.smp.pollPeriod

/-- The ticket reads that are queued; progress block writes share client 3's queue with them. -/
def State.ticketReads (s : State) : List Transfer := s.smp.reads.filter Transfer.isTicketRead

/-- Nothing but progress block writes and the arbiter's grant has moved at the port. -/
def SameTransfers (s t : State) : Prop :=
  t.smp.writes = s.smp.writes ∧ t.smp.copies = s.smp.copies ∧ t.ticketReads = s.ticketReads

/-- Exactly these causes have been raised. -/
def Raised (ns : List Notice) (s t : State) : Prop :=
  t.smp.notice = ns.foldl (fun w n => w ||| (1#10 <<< n.bit)) s.smp.notice

/-- What holds outside the blocks a command acts on: the model's own fields, the pins and the settings, the registers, the
soft-reset condition, the causes raised, and every block not in the list. -/
def Frame (changed : List Block) (ns : List Notice) (s t : State) : Prop :=
  t.pins = s.pins ∧ t.cfg = s.cfg ∧ t.now = s.now ∧ t.freeCount = s.freeCount ∧ t.pending = s.pending ∧
  SameRegisters s t ∧ t.smp.soft = s.smp.soft ∧ Raised ns s t ∧ ∀ b, b ∉ changed → SameBlock b s t

/-- `t` is `u`, but for the causes raised, progress block writes and the arbiter's moves. -/
def Becomes (u : State) (ns : List Notice) (t : State) : Prop := Frame [] ns u t ∧ SameTransfers u t ∧ t.out = u.out

/-- LINECTL commands act: the part is powered and no soft reset is in progress. -/
def State.commandable (s : State) : Prop := s.pins.powerGood = true ∧ s.smp.soft = .off

/-! ## Laws -/

/-- The heater law (05 R95) with what carries it (05 R101): a TRIPPED drum heats nothing; the drum is TRIPPED in POWER_STOP and
POWER_HELD and while mains is lost. -/
def HeaterLaw (s : State) : Prop :=
  (s.hc.drum = .tripped → ∀ z ∈ s.hc.zones.toList, z.duty = 0) ∧
  (s.dc.line = .powerStop ∨ s.dc.line = .powerHeld → s.hc.drum = .tripped) ∧
  (s.pins.powerGood = true → s.pins.mainsOk = false → s.hc.drum = .tripped)

/-- The nip law (06 R122): the valve is commanded closed only in STARTING, RUNNING or DRAINING, and then the nip is CLOSING or
CLOSED. -/
def NipLaw (s : State) : Prop :=
  s.dc.valve = .closing →
    (s.dc.nip = .closing ∨ s.dc.nip = .closed) ∧
    (s.dc.line = .starting ∨ s.dc.line = .running ∨ s.dc.line = .draining)

/-- The first trim law (04 R81): every slot's current trim lies in −256..255. -/
def TrimLaw (s : State) : Prop := ∀ p ∈ s.ps.slots.toList, -256 ≤ p.tau ∧ p.tau ≤ 255

/-- The capacities of the part (00): 96 band records, 4 splices, 32 row slots, 4 triggers. -/
def CapacityLaw (s : State) : Prop :=
  s.bt.track.length ≤ 96 ∧ s.bt.splices.length ≤ 4 ∧ s.re.slots.length ≤ 32 ∧ s.cv.list.length ≤ 4

/-- The compensation law (03 R66): every band's g lies in 768..1280. -/
def CompensationLaw (s : State) : Prop := ∀ b ∈ s.bt.track, 768 ≤ b.g ∧ b.g ≤ 1280

/-- The port law (10 R185, R187): while no burst is granted no client waits, and while PROGBASE names no block every progress block write
that is queued has its words, so that none is pending. -/
def PortLaw (s : State) : Prop :=
  (s.smp.grant = none → ∀ c, s.leftOf c = 0) ∧
  (s.smp.progBase = 0 ∨ 4294967295 < s.smp.progBase.toNat + 127 → ∀ x ∈ s.smp.reads, x.kind = .progress → x.words ≠ [])

/-! ## Situations the statements speak of -/

/-- The TAKEN write of a non-segment ticket is the transfer that ends with the burst in progress, with `rest` queued behind it: the
ticket is due to be handed to its block (09 R172, step 5). -/
def Handing (t : Ticket) (rest : List Transfer) (s : State) : Prop :=
  s.commandable ∧ t.phase = .taken ∧ s.tr.ticket = some t ∧ rest.any (Transfer.isRepeatedTaken t.addr) = false ∧
  s.smp.grant = some { client := .write, words := 1, dropped := false } ∧
  s.smp.writes = headerTransfer t.addr
    { state := .taken, status := .ok, detail := 0, notify := t.notify, role := .take t.kind, repeating := false } :: rest

/-- The final-state write of a ticket (09 R167, R173). -/
def finalWrite (t : Ticket) (st : TicketState) (status : Status) (detail : Nat) : Transfer :=
  headerTransfer t.addr
    { state := st, status := status, detail := detail, notify := t.notify, role := .close, repeating := false }

/-- The command completed the TAKEN write of ticket `t` and finished it: TR holds the ticket with its final state decided, its
final-state write is queued behind `rest`, nothing else moved at the port, and the bus carried the TAKEN word. -/
def Finishes (t : Ticket) (rest : List Transfer) (st : TicketState) (status : Status) (detail : Nat) (s u : State) : Prop :=
  u.tr.ticket = some { t with phase := .final } ∧ u.smp.writes = rest ++ [finalWrite t st status detail] ∧
  u.smp.copies = s.smp.copies ∧ u.ticketReads = s.ticketReads ∧
  u.out = [.busWrite (t.addr + 8)
    (headerWord { state := .taken, status := .ok, detail := 0, notify := t.notify, role := .take t.kind, repeating := false })]

/-- A field index of a clamped ticket: 0 when every field from 1 to `n` lies in its range, else the first that does not. -/
def FirstOut (n : Nat) (inRange : Nat → Prop) (d : Nat) : Prop :=
  (d = 0 ∧ ∀ i, 1 ≤ i → i ≤ n → inRange i) ∨ (1 ≤ d ∧ d ≤ n ∧ ¬inRange d ∧ ∀ i, 1 ≤ i → i < d → inRange i)

/-- The last burst of the body read `x` of ticket `t` ends and delivers `ws`, with `more` queued behind it; no halt is pending. -/
def BodyArrives (t : Ticket) (x : Transfer) (more : List Transfer) (g : Grant) (ws : List Word) (s : State) : Prop :=
  s.commandable ∧ s.tr.ticket = some t ∧ t.phase = .checking ∧ s.tr.haltReq = false ∧ s.smp.reads = x :: more ∧
  x.kind = .bodyRead ∧ s.smp.grant = some g ∧ g.client = .read ∧ g.dropped = false ∧ x.left ≤ min ws.length g.words

/-- No segment is TAKEN and RE holds nothing. -/
def State.rasterIdle (s : State) : Prop := s.re.raster = .idle ∧ s.re.seg = none ∧ s.re.band = none ∧ s.re.ending = .none

/-- A segment is TAKEN with at least one band in the track: RE holds its context, `e` is the tally entry of its handle, and TR is HOLDING
with no ticket of its own and no halt pending. -/
def SegmentHeld (g : Segment) (e : Tally) (s : State) : Prop :=
  s.re.seg = some g ∧ s.bt.tallies.find? (fun y => y.id = g.tally) = some e ∧ 0 < e.inTrack ∧ s.tr.reader = .holding ∧
  s.tr.ticket = none ∧ s.tr.haltReq = false

/-- The PRINTED report of a segment that has bands in the track (02 R50, 09 R174b): RE is IDLE with nothing held, the tally entry has
its cause, the track is `track`, the ticket is written PRINTED with that cause's status, and TR waits for that write to read on. -/
def PrintedReport (g : Segment) (cause : EndCause) (track : List Band) (s t : State) : Prop :=
  t.re = { s.re with raster := .idle, seg := none, ending := .none, band := none, slots := [], fetchOn := false,
                     fullWait := false, autoRetry := false } ∧
  t.bt = { s.bt with track := track, tallies := s.bt.tallies.map (fun y =>
    if y.id = g.tally then { y with printed := true, cause := cause } else y) } ∧
  t.tr.reader = .reading ∧ t.tr.ticket = none ∧ t.tr.awaitSeg = none ∧ t.tr.haltReq = false ∧ t.tr.pos = s.tr.pos ∧
  t.tr.step = s.tr.step ∧ t.ticketReads = [] ∧ t.smp.copies = s.smp.copies ∧
  t.smp.writes = s.smp.writes ++ [headerTransfer g.addr
    { state := .printed, notify := false, detail := 0, role := .segment true, repeating := false,
      status := match cause with
        | .ok => .ok
        | .short => .short
        | .abortedTrip => .abortedTrip
        | .startRefused => .startRefused
        | .reset => .reset }]

/-- Soft reset reaches the blocks with command `c`, seen from `u`, the state `s` with the levels `l` that come with it (10 R190, stage 2):
SOFT_RESET finds the line at rest, or the stop that soft reset began or met comes to speed 0, at SPEED_ZERO or at the sample that brings
the reference to 0 (06 R112, R137). -/
def ReachesBlocks (c : Instr) (l : Lines) (s u : State) : Prop :=
  s.pins.powerGood = true ∧
  ((c = .softReset ∧ u = s ∧ s.smp.soft = .off ∧ (s.dc.line = .stopped ∨ s.dc.line = .tripped ∨ s.dc.line = .powerHeld)) ∨
   (u = sampleLines l s ∧ s.smp.soft = .stopping ∧ ((s.dc.line = .stopping ∧ s.dc.stopKind = .fast) ∨ s.dc.line = .powerStop) ∧
     ((c = .speedZero l ∧ s.dc.ref = 0) ∨ ∃ cells, c = .tensionSample cells l ∧ s.dc.ref ≤ s.cfg.stopDecel * 5)))

/-- The final-state write of a SEGMENT ticket by its entry's end cause (01 R22, 02 R50). -/
def segmentFinal (e : Tally) : Transfer :=
  headerTransfer e.addr
    { state := if e.cause = .ok ∨ e.cause = .short then .done else .failed,
      status := match e.cause with
        | .ok => .ok
        | .short => .short
        | .abortedTrip => .abortedTrip
        | .startRefused => .startRefused
        | .reset => .reset,
      detail := 0, notify := e.notify, role := .segment false, repeating := false }

/-- The mark error counter and its copy after a segment's finalisation (07 R149): copied and cleared in AUTO mode. -/
def State.counted (s : State) : Marks :=
  if s.cfg.counterMode = .auto then { s.mr with counterCopy := s.mr.errors, errors := 0 } else s.mr

/-- The bus writes of the first `n` words that transfer `x` has still to move, in ascending order (10 R185). -/
def Transfer.written (x : Transfer) (n : Nat) : List Output :=
  (List.range n).map (fun i => .busWrite (x.addr + 4 * (x.moved + i)) (x.words.getD (x.moved + i) 0))

/-- The track once firing has stopped at once (02 R49, 01 R8): the band in PRINTING gets TRUNCATED and is TRAVELLING. -/
def State.cutTrack (s : State) : List Band :=
  match s.re.band with
  | some c => s.bt.track.map (fun b =>
      if b.number = c.number then
        { b with flags := b.flags ||| 0x004#12, state := if b.state = .printing then .travelling else b.state }
      else b)
  | none => s.bt.track

/-- A fast-stop cause taken now begins a fast stop (06 R119). -/
def State.stoppable (s : State) : Prop :=
  s.dc.line = .starting ∨ s.dc.line = .running ∨ s.dc.line = .draining ∨ (s.dc.line = .stopping ∧ s.dc.stopKind = .normal)

/-- What a fast stop leaves with no segment TAKEN (06 R119): pause requested, STOPPING FAST, a CLOSED or CLOSING nip commanded open,
and the bands ON_DRUM exposed where the nip was CLOSED (05 R107). -/
def State.fastStopped (s : State) : State :=
  let move := s.dc.nip = .closed ∨ s.dc.nip = .closing
  { s with
    tr.pauseReq := true,
    dc.line := .stopping, dc.stopKind := .fast,
    dc.nip := if move then .opening else s.dc.nip,
    dc.valve := if move then .opening else s.dc.valve,
    dc.nipTimer := if move then some s.cfg.nipTravel else s.dc.nipTimer,
    dc.nipHold := if s.dc.line = .stopping then s.dc.nipHold else 0,
    dc.webs := if s.dc.line = .stopping then s.dc.webs else s.dc.webs.map (fun w => { w with run := 0 }),
    bt.track := if s.dc.nip = .closed then
        s.bt.track.map (fun b => if b.state = .onDrum then { b with flags := b.flags ||| 0x008#12 } else b)
      else s.bt.track }

/-- LINE, where a fast stop changes the line state. -/
def State.stopNotice (s : State) : List Notice := if s.dc.line = .stopping then [] else [.line]

/-- The last burst of the read at the head of client 3's queue ends and delivers `ws`, with `more` queued behind it; the reader waits
for no write, no soft reset is in progress and no ticket is at TR. -/
def ReadEnds (x : Transfer) (more : List Transfer) (g : Grant) (ws : List Word) (s : State) : Prop :=
  s.commandable ∧ s.tr.ticket = none ∧ s.smp.reads = x :: more ∧ s.smp.grant = some g ∧ g.client = .read ∧ g.dropped = false ∧
  x.left ≤ min ws.length g.words

/-- The burst in progress is the last one of write transfer `x`, with `rest` behind it in client 2's queue (10 R185). -/
def LastWriteBurst (x : Transfer) (rest : List Transfer) (s : State) : Prop :=
  s.smp.writes = x :: rest ∧ x.isWrite = true ∧
  ∃ g, s.smp.grant = some g ∧ g.client = .write ∧ g.dropped = false ∧ x.left ≤ g.words

/-- The last burst of the write at the head of client 2's queue ends, with `rest` queued behind it, and no soft reset is in progress. -/
def WriteEnds (x : Transfer) (rest : List Transfer) (s : State) : Prop := s.commandable ∧ LastWriteBurst x rest s

/-- The receiver is not past the 5 ms a frame allows between two bytes (08 R152). -/
def State.onTime (s : State) : Prop := s.cv.rx = .hunting ∨ s.cv.rxGap ≤ 5

/-- No retirement starts as CV resolves the bands with these numbers (01 R12, R17): one is in progress, or the head of the track is
not FINISHED and is not made so, for want of its trailing-passed marker or of its resolution. -/
def State.noneStarts (bands : List Nat) (s : State) : Prop :=
  s.bt.retiring ≠ none ∨
    ∀ b ∈ s.bt.track.head?, b.state ≠ .finished ∧ (b.number ∈ bands → b.state = .awaiting → b.trailing = false)

/-- The retirement of the FINISHED head record `b` starts (01 R17, R19): it gets its verdict, which its tally entry `e` counts, and its
record write is asked for, or, where the result area is full, the record is counted dropped and the counts write is asked for; `rest` is
the track behind it. -/
def RetirementStarts (b : Band) (rest : List Band) (e : Tally) (u t : State) : Prop :=
  let v := b.verdictOf
  let counted : Tally := { e with
    good := if v = .good then e.good + 1 else e.good, suspect := if v = .suspect then e.suspect + 1 else e.suspect,
    reject := if v = .reject then e.reject + 1 else e.reject, void := if v = .void then e.void + 1 else e.void }
  let full : Tally := { counted with dropped := e.dropped + 1, stale := false }
  let put : Tally → List Tally := fun n => u.bt.tallies.map (fun y => if y = e then n else y)
  let track := { b with verdict := some v } :: rest
  (e.written < e.capacity →
    t.bt = { u.bt with track := track, retiring := some .record, tallies := put { counted with stale := true } } ∧
    t.smp.writes = u.smp.writes ++ [writeOf .recordWrite (e.area + e.written * 64) (recordWords { b with verdict := some v })]) ∧
  (e.capacity ≤ e.written →
    t.bt = { u.bt with track := track, retiring := some .counts, tallies := put full } ∧
    t.smp.writes = u.smp.writes ++ [writeOf (.countsWrite .retirement) (e.addr + 132) (countsWords full)])

/-- The low 20 bits of LINESTAT, and of word 1 of the progress block: the line, drum, reader, nip and lock states, each coded by its
position in its set as the introduction lists it, and the bits between them 0 (10 R181, 11.4). -/
def CodesStates (s : State) (w : Word) : Prop :=
  ([.stopped, .starting, .running, .draining, .stopping, .tripped, .powerStop, .powerHeld] : List LineState)[fieldAt w 0 3]?
    = some s.dc.line ∧
  ([.cold, .heating, .atTemp, .deviation, .tripped] : List DrumState)[fieldAt w 4 3]? = some s.hc.drum ∧
  ([.idle, .reading, .waiting, .executing, .holding, .paused, .stalled] : List ReaderState)[fieldAt w 8 3]? = some s.tr.reader ∧
  ([.opened, .closing, .closed, .opening, .fault] : List NipState)[fieldAt w 12 3]? = some s.dc.nip ∧
  ([.search, .locked, .lost] : List LockState)[fieldAt w 16 2]? = some s.mr.lock ∧
  fieldAt w 3 1 = 0 ∧ fieldAt w 7 1 = 0 ∧ fieldAt w 11 1 = 0 ∧ fieldAt w 15 1 = 0 ∧ fieldAt w 18 2 = 0

end Sys2Proof.Machine
end

