-- ==== Sys2Proof/Certificates/Slice0/Obligations.lean ====
section
/-! DEFINITION. Sys2Proof/Certificates/Slice0/Obligations.lean: the statements for the provers. In each, `Becomes u ns t` says that the
next state is `u` with the causes `ns` raised and nothing else changed but progress block writes and the arbiter's grant, and
`Frame` the same of all but the listed blocks. -/

open Sys2Proof Sys2Proof.Machine

/-! ## The machine as a whole -/

/-- One step takes the command at the front of the queue and runs exec on it with the queue's rest. On an empty queue a millisecond
passes (log entry 1), and nothing happens at all while POWER_GOOD is low (log entry 40). The millisecond advances, each exactly while it
runs: the poll timer; the one-second timer, in STARTING, RUNNING, DRAINING, STOPPING and POWER_STOP (R187); the nip travel timer, which
runs down (R123); the nip-hold timer, in RUNNING with RE IDLE, no band up to the drum and the limit not 0, which otherwise is at 0
(R125); the three encoder silence timers, at 50,000 nm/ms and above (R135); the instrument silence timer (R154); the byte gap, within a
frame (R152). Nothing else changes (R174 for the poll timer). -/
def Obligations.StepRunsFrontCommand : Prop :=
  (∀ (c : Instr) (rest : List Instr) (s : State), step { s with pending := c :: rest } = exec c { s with pending := rest }) ∧
  (∀ s : State, s.pending = [] → step s = .next (tick s)) ∧
  (∀ s : State, s.pending = [] → s.pins.powerGood = false → step s = .next { s with out := [] }) ∧
  (∀ s : State, s.pending = [] → s.pins.powerGood = true →
    let up : Bool → Nat → Nat := fun runs n => if runs then n + 1 else n
    let hold := s.dc.line = .running ∧ s.re.raster = .idle ∧ s.cfg.nipHoldLimit ≠ 0 ∧
      ∀ b ∈ s.bt.track, b.state ≠ .printing ∧ b.state ≠ .travelling ∧ b.state ≠ .onDrum
    let moving := s.dc.line = .starting ∨ s.dc.line = .running ∨ s.dc.line = .draining ∨ s.dc.line = .stopping ∨ s.dc.line = .powerStop
    let fast : Bool := decide (50000 ≤ s.dc.ref)
    step s = .next { s with
      out := [], now := s.now + 1, tr.pollElapsed := up s.tr.pollRunning s.tr.pollElapsed,
      smp.progTimer := up (decide moving) s.smp.progTimer, dc.nipTimer := s.dc.nipTimer.map (fun n => n - 1),
      dc.nipHold := if hold then s.dc.nipHold + 1 else 0,
      dc.silence := ⟨up fast s.dc.silence.paper, up fast s.dc.silence.infeed, up fast s.dc.silence.drum⟩,
      cv.silence := up s.cv.silenceOn s.cv.silence, cv.rxGap := up (decide (s.cv.rx ≠ .hunting)) s.cv.rxGap })

/-- Every command of the table answers a next state from every state, and none touches the queue of waiting commands. -/
def Obligations.EveryCommandAnswersNext : Prop :=
  ∀ (c : Instr) (s : State), ∃ t, exec c s = .next t ∧ t.pending = s.pending

/-! ## Registers and LINECTL -/

/-- A raise sets its bit and no other, whatever the bits and the mask hold, and does nothing else to NOTICE; a write to NOTICE clears
the bits written 1 and leaves the others, whatever the mask (R183). The interrupt line is asserted exactly while the part is powered and
some cause is set and not masked; power-up reset leaves NOTICE 0 (but for POWER where mains is lost), every cause masked and the line
deasserted; soft reset keeps the mask and every bit (R184). -/
def Obligations.NoticeAndInterrupt : Prop :=
  (∀ (n m : Notice) (s : State),
    (raise n s).smp.notice.getLsbD m.bit = (decide (m = n) || s.smp.notice.getLsbD m.bit)) ∧
  (∀ s : State, s.interrupt = true ↔
    s.pins.powerGood = true ∧ ∃ n : Notice, s.smp.notice.getLsbD n.bit = true ∧ s.smp.noticeMask.getLsbD n.bit = false) ∧
  (∀ s : State, s.pins.powerGood = false →
    ∃ t, exec .powerGoodRise s = .next t ∧ t.smp.noticeMask = 0x3FF#10 ∧ t.interrupt = false ∧
      (s.pins.mainsOk = true → t.smp.notice = 0) ∧ (s.pins.mainsOk = false → t.smp.notice = 0x200#10)) ∧
  (∀ (c : Instr) (s : State), c = .softReset ∨ c = .softResetComplete →
    ∃ t, exec c s = .next t ∧ t.smp.noticeMask = s.smp.noticeMask ∧
      ∀ n : Notice, s.smp.notice.getLsbD n.bit = true → t.smp.notice.getLsbD n.bit = true) ∧
  (∀ (v : Word) (s : State), s.pins.powerGood = true →
    ∃ t, exec (.noticeWrite v) s = .next t ∧
      (∀ n : Notice, t.smp.notice.getLsbD n.bit = (s.smp.notice.getLsbD n.bit && !v.getLsbD n.bit)) ∧
      Becomes { s with out := [], smp.notice := t.smp.notice } [] t)

/-- Writes to CHAINHEAD (stored with bits 3..0 cleared only while TR is IDLE), NOTICEMASK, PORTCFG (both fields clamped) and
PROGBASE (stored with bits 3..0 cleared; a usable value leaves a progress block write pending or in progress) (R181, R184, R187). That
a value which names no block leaves no progress block write pending is the model's reading, log entry 35. -/
def Obligations.RegisterWrites : Prop :=
  ∀ (v : Word) (s : State), s.pins.powerGood = true →
    (s.tr.reader = .idle →
      ∃ t, exec (.chainheadWrite v) s = .next t ∧ Becomes { s with out := [], smp.chainHead := v &&& 0xFFFFFFF0 } [] t) ∧
    (s.tr.reader ≠ .idle → ∃ t, exec (.chainheadWrite v) s = .next t ∧ Becomes { s with out := [] } [] t) ∧
    (∃ t, exec (.noticemaskWrite v) s = .next t ∧ Becomes { s with out := [], smp.noticeMask := v.setWidth 10 } [] t) ∧
    (∃ t, exec (.portcfgWrite v) s = .next t ∧
      Becomes { s with out := [], smp.burstLimit := max 1 (min (v.toNat % 32) 16),
                       smp.pollPeriod := max 1 (min (v.toNat / 256 % 256) 255) } [] t) ∧
    (∃ t, exec (.progbaseWrite v) s = .next t ∧ Becomes { s with out := [], smp.progBase := v &&& 0xFFFFFFF0 } [] t ∧
      ((v &&& 0xFFFFFFF0) ≠ 0 ∧ (v &&& 0xFFFFFFF0).toNat + 127 ≤ 0xFFFFFFFF → ∃ x ∈ t.smp.reads, x.kind = .progress) ∧
      ((v &&& 0xFFFFFFF0) = 0 ∨ 0xFFFFFFFF < (v &&& 0xFFFFFFF0).toNat + 127 →
        ∀ x ∈ t.smp.reads, x.kind = .progress → x.words ≠ []))

/-- The register window. Reads: LINECTL and offset 1Ch read 0, CHAINHEAD and PROGBASE their values, NOTICE and NOTICEMASK their ten bits,
PORTCFG its two fields while they hold clamped values, and LINESTAT each state by its position in its set, the start-refused cause and
the soft-reset-in-progress condition, with 0 in every bit not named (R181). Writes: less than a whole word, LINESTAT and offset 1Ch are
ignored; a whole word to a register is that register's command; a LINECTL value is the command of its bits, with SOFT_RESET over all
others, STOP over RUN and HALT_CHAIN over GO_CHAIN; a value without a command bit does nothing; STOP and HALT_CHAIN in one value both
act, whatever RUN and GO_CHAIN hold (R181, R182). CLEAR_TRIP and RUN in one value clear a TRIPPED line and start it: that CLEAR_TRIP acts
first is log entry 26, and that the input lines come with the write is log entry 31. -/
def Obligations.RegisterWindow : Prop :=
  ∀ (v : Word) (l : Lines) (s : State), s.pins.powerGood = true →
    let u := sampleLines l s
    -- bits 0 to 5 of the value
    let bits : List Bool → Prop := fun b => ∀ i : Fin 6, b[i.val]? = some (v.getLsbD i.val)
    (let r := s.readRegister
     r 0x00 = 0 ∧ r 0x08 = s.smp.chainHead ∧ r 0x0C = s.smp.progBase ∧ r 0x1C = 0 ∧
     fieldAt (r 0x10) 0 10 = s.smp.notice.toNat ∧ fieldAt (r 0x10) 10 22 = 0 ∧ fieldAt (r 0x14) 0 10 = s.smp.noticeMask.toNat ∧
     fieldAt (r 0x14) 10 22 = 0 ∧ (s.smp.burstLimit ≤ 16 → s.smp.pollPeriod ≤ 255 →
       fieldAt (r 0x18) 0 5 = s.smp.burstLimit ∧ fieldAt (r 0x18) 5 3 = 0 ∧ fieldAt (r 0x18) 8 8 = s.smp.pollPeriod ∧
       fieldAt (r 0x18) 16 16 = 0) ∧
     CodesStates s (r 0x04) ∧
     ([.none, .drumNotReady, .tripped, .nipNotOpen, .sensor, .power] : List StartCause)[fieldAt (r 0x04) 20 3]? = some s.dc.startCause ∧
     fieldAt (r 0x04) 23 1 = 0 ∧ (r 0x04).getLsbD 24 = decide (s.smp.soft ≠ .off) ∧ fieldAt (r 0x04) 25 7 = 0) ∧
    (∀ offset bytes, bytes ≠ 4 ∨ offset = 0x04 ∨ offset = 0x1C →
      ∃ t, exec (.registerWrite offset bytes v l) s = .next t ∧ Becomes { u with out := [] } [] t) ∧
    exec (.registerWrite 0x08 4 v l) s = exec (.chainheadWrite v) u ∧
    exec (.registerWrite 0x0C 4 v l) s = exec (.progbaseWrite v) u ∧
    exec (.registerWrite 0x10 4 v l) s = exec (.noticeWrite v) u ∧
    exec (.registerWrite 0x14 4 v l) s = exec (.noticemaskWrite v) u ∧
    exec (.registerWrite 0x18 4 v l) s = exec (.portcfgWrite v) u ∧
    (∃ t, exec (.registerWrite 0x14 4 v l) s = .next t ∧ Becomes { u with out := [], smp.noticeMask := v.setWidth 10 } [] t) ∧
    (v.getLsbD 5 = true → exec (.registerWrite 0x00 4 v l) s = exec .softReset u) ∧
    (v.getLsbD 5 = false → v.getLsbD 4 = true → v.getLsbD 2 = false → v.getLsbD 1 = false → v.getLsbD 0 = false →
      exec (.registerWrite 0x00 4 v l) s = exec .haltChain u) ∧
    (bits [false, false, false, true, false, false] → exec (.registerWrite 0x00 4 v l) s = exec .goChain u) ∧
    (bits [false, false, true, false, false, false] → exec (.registerWrite 0x00 4 v l) s = exec (.clearTrip l) s) ∧
    (v.getLsbD 5 = false → v.getLsbD 4 = false → v.getLsbD 3 = false → v.getLsbD 2 = false → v.getLsbD 1 = true →
      exec (.registerWrite 0x00 4 v l) s = exec .stop u) ∧
    (bits [true, false, false, false, false, false] → exec (.registerWrite 0x00 4 v l) s = exec (.run l) s) ∧
    (bits [false, false, false, false, false, false] →
      ∃ t, exec (.registerWrite 0x00 4 v l) s = .next t ∧ Becomes { u with out := [] } [] t) ∧
    (v.getLsbD 5 = false → v.getLsbD 4 = true → v.getLsbD 2 = false → v.getLsbD 1 = true → s.smp.soft = .off →
      s.dc.line = .running → s.rasterIdle → s.bt.track ≠ [] → s.tr.reader = .reading →
      ∃ t, exec (.registerWrite 0x00 4 v l) s = .next t ∧
        Becomes { u with out := [], dc.line := .draining, dc.nipHold := 0, tr.haltReq := true } [.line] t) ∧
    (bits [true, false, true, false, false, false] → s.smp.soft = .off → s.dc.line = .tripped → s.hc.drum = .atTemp →
      s.dc.nip = .opened → (∀ w ∈ s.dc.webs.toList, w.inRange = true) → l.broken = ⟨false, false, false⟩ →
      s.tr.reader ≠ .paused → s.tr.ticket = none → s.re.seg = none →
      ∃ t, exec (.registerWrite 0x00 4 v l) s = .next t ∧
        Becomes { u with out := [], dc.line := .starting, dc.startCause := .none, dc.nipHold := 0, tr.pauseReq := false,
                         dc.webs := s.dc.webs.map (fun w => { w with integral := 0, run := 0 }) } [.line] t)

/-- RUN in STOPPED with the permission test passed (drum AT_TEMP, nip OPEN, every cell in range, no broken line) starts the line: the
cause becomes NONE, the line STARTING, every integral and deviation run 0. Otherwise the refusals come in the order of the tests with
their causes; DRAINING returns to RUNNING (here with no segment TAKEN); STARTING, RUNNING and STOPPING are left as they are (R114,
R115). That the broken-line flags come with the command, as they stand at the test, is log entry 31. -/
def Obligations.RunCommand : Prop :=
  ∀ (l : Lines) (s : State), s.commandable →
    let u := sampleLines l s
    (s.dc.line = .stopped → s.hc.drum = .atTemp → s.dc.nip = .opened → (∀ w ∈ s.dc.webs.toList, w.inRange = true) →
      l.broken = ⟨false, false, false⟩ →
      ∃ t, exec (.run l) s = .next t ∧
        Becomes { u with out := [], dc.line := .starting, dc.startCause := .none, dc.nipHold := 0,
                         dc.webs := s.dc.webs.map (fun w => { w with integral := 0, run := 0 }) } [.line] t) ∧
    (∀ c : StartCause,
      (s.dc.line = .stopped ∧ s.hc.drum ≠ .atTemp ∧ c = .drumNotReady) ∨
      (s.dc.line = .stopped ∧ s.hc.drum = .atTemp ∧ s.dc.nip ≠ .opened ∧ c = .nipNotOpen) ∨
      (s.dc.line = .stopped ∧ s.hc.drum = .atTemp ∧ s.dc.nip = .opened ∧ c = .sensor ∧
        ((∃ w ∈ s.dc.webs.toList, w.inRange = false) ∨ l.broken ≠ ⟨false, false, false⟩)) ∨
      (s.dc.line = .tripped ∧ c = .tripped) ∨
      ((s.dc.line = .powerStop ∨ s.dc.line = .powerHeld) ∧ c = .power) →
      ∃ t, exec (.run l) s = .next t ∧ Becomes { u with out := [], dc.startCause := c } [.line] t) ∧
    (s.dc.line = .draining → s.rasterIdle →
      ∃ t, exec (.run l) s = .next t ∧ Becomes { u with out := [], dc.line := .running, dc.nipHold := 0 } [.line] t) ∧
    (s.dc.line = .starting ∨ s.dc.line = .running ∨ s.dc.line = .stopping →
      ∃ t, exec (.run l) s = .next t ∧ Becomes { u with out := [] } [] t)

/-- A stop request from LINECTL or from the nip-hold timer: RUNNING drains while the track holds a band; with the track empty it goes on
to a normal stop that commands a CLOSED nip open; STARTING makes a normal stop, which commands a CLOSED or CLOSING nip open; the other
line states do not change (R116, R117, R122, R125). The entry to DRAINING reports a segment that is PRIMING or BETWEEN, here with a band
in the track, PRINTED with SHORT at once; one in PRINTING has the end pending DRAIN unless an END is already pending (R48, R50). That
PRINTED SHORT has DETAIL 0 is log entry 32; that TR is READING while the PRINTED write is outstanding is log entry 61; that a line
stopped in STARTING with the reference at 0 (as right after RUN) stays STOPPING until the next test is log entry 47. -/
def Obligations.StopRequests : Prop :=
  ∀ s : State,
    (s.commandable → s.dc.line = .running → s.rasterIdle → s.bt.track ≠ [] →
      ∃ t, exec .stop s = .next t ∧ Becomes { s with out := [], dc.line := .draining, dc.nipHold := 0 } [.line] t) ∧
    (s.commandable → s.dc.line = .running → s.rasterIdle → s.bt.track = [] → s.dc.nip = .closed →
      ∃ t, exec .stop s = .next t ∧
        Becomes { s with out := [], dc.line := .stopping, dc.stopKind := .normal, dc.nip := .opening, dc.valve := .opening,
                         dc.nipTimer := some s.cfg.nipTravel, dc.nipHold := 0,
                         dc.webs := s.dc.webs.map (fun w => { w with run := 0 }) } [.line] t) ∧
    (s.commandable → s.dc.line = .starting →
      let move := s.dc.nip = .closed ∨ s.dc.nip = .closing
      ∃ t, exec .stop s = .next t ∧
        Becomes { s with out := [], dc.line := .stopping, dc.stopKind := .normal, dc.nipHold := 0,
                         dc.nip := if move then .opening else s.dc.nip, dc.valve := if move then .opening else s.dc.valve,
                         dc.nipTimer := if move then some s.cfg.nipTravel else s.dc.nipTimer,
                         dc.webs := s.dc.webs.map (fun w => { w with run := 0 }),
                         bt.track := if s.dc.nip = .closed then s.bt.track.map (fun b =>
                             if b.state = .onDrum then { b with flags := b.flags ||| 0x008#12 } else b)
                           else s.bt.track } [.line] t) ∧
    (s.commandable → s.dc.line ≠ .running → s.dc.line ≠ .starting →
      ∃ t, exec .stop s = .next t ∧ Becomes { s with out := [] } [] t) ∧
    (∀ (g : Segment) (e : Tally), s.commandable → s.dc.line = .running → s.bt.track ≠ [] →
      s.re.raster = .priming ∨ s.re.raster = .between → SegmentHeld g e s →
      ∃ t, exec .stop s = .next t ∧ Frame [.tr, .re, .bt, .dc] [.line] s t ∧ PrintedReport g .short s.bt.track s t ∧
        t.tr.pauseReq = s.tr.pauseReq ∧ t.dc = { s.dc with line := .draining, nipHold := 0 } ∧ t.out = []) ∧
    (s.commandable → s.dc.line = .running → s.bt.track ≠ [] → s.re.raster = .printing →
      ∃ t, exec .stop s = .next t ∧
        Becomes { s with out := [], dc.line := .draining, dc.nipHold := 0,
                         re.ending := if s.re.ending = .none then .drain else s.re.ending } [.line] t) ∧
    (s.pins.powerGood = true → s.dc.line = .running → s.rasterIdle → s.bt.track ≠ [] →
      (∀ b ∈ s.bt.track, b.state ≠ .printing ∧ b.state ≠ .travelling ∧ b.state ≠ .onDrum) → s.cfg.nipHoldLimit ≠ 0 →
      s.cfg.nipHoldLimit * 1000 ≤ s.dc.nipHold →
      ∃ t, exec .nipHoldExpiry s = .next t ∧
        Becomes { s with out := [], dc.line := .draining, dc.nipHold := 0 } [.line] t)

/-- CLEAR_TRIP with no ticket at TR, no segment TAKEN and TR not PAUSED: it takes a TRIPPED line to STOPPED and clears the pause request;
it takes a nip in FAULT with the open switch alone asserted to OPEN; and it clears a drum whose readings permit it, which becomes HEATING
with settle count 0 if a zone is enabled and COLD otherwise, its REGULATE zones entered again (R120, R123, R103, R177). That the count is
0 at COLD too is log entry 54; that the input lines come with the command is log entry 31. -/
def Obligations.ClearTripCommand : Prop :=
  ∀ (l : Lines) (s : State), s.commandable → s.tr.reader ≠ .paused → s.tr.ticket = none → s.re.seg = none →
    let u := sampleLines l s
    (s.dc.line = .tripped → s.hc.drum ≠ .tripped → s.dc.nip ≠ .fault →
      ∃ t, exec (.clearTrip l) s = .next t ∧
        Becomes { u with out := [], dc.line := .stopped, dc.nipHold := 0, tr.pauseReq := false,
                         dc.webs := s.dc.webs.map (fun w => { w with run := 0 }) } [.line] t) ∧
    (s.dc.line = .stopped → s.hc.drum ≠ .tripped → s.dc.nip = .fault → s.pins.nipOpenSw = true → s.pins.nipClosedSw = false →
      ∃ t, exec (.clearTrip l) s = .next t ∧ Becomes { u with out := [], dc.nip := .opened, tr.pauseReq := false } [] t) ∧
    (s.dc.line = .stopped → s.hc.drum = .tripped → s.dc.nip ≠ .fault → s.pins.mainsOk = true →
      (∀ z ∈ s.hc.zones.toList, ∀ r, z.reading = some r →
        r ≤ 2450 ∧ (z.enable = true → 1 ≤ z.target → r ≤ z.target + 150)) →
      ∃ t, exec (.clearTrip l) s = .next t ∧
        Becomes { u with out := [], tr.pauseReq := false,
                         hc.drum := if ∃ z ∈ s.hc.zones.toList, z.enable = true ∧ 1 ≤ z.target then .heating else .cold,
                         hc.settle := 0,
                         hc.zones := s.hc.zones.map (fun z =>
                           match z.state, z.reading with
                           | .regulate, some r => { z with eff := min r 2300, integral := 0, validRun := 0 }
                           | _, _ => z) } [.drum] t)

/-- GO_CHAIN from IDLE with CHAINHEAD not 0 and no segment TAKEN sets the position there at step HEADER and reads that header at once,
or, where a write TR waits for is outstanding, when that has ended (R168, R170); with CHAINHEAD 0 TR stays IDLE. From STALLED the walk
resumes: a read at the position at its step, or HOLDING with a segment TAKEN (R178). In the other reader states it has no effect.
HALT_CHAIN is cleared in IDLE; it takes WAITING, PAUSED, and STALLED with no segment TAKEN to IDLE at once; it is set in READING,
EXECUTING, HOLDING, and STALLED with a segment TAKEN (R170). That a look's repeated read leaves TR WAITING and is abandoned by the halt
is log entry 51; that the walk begun in IDLE waits for a header write of the walk before it is log entry 36, and that TR is READING in
that time log entry 61; that neither it nor a walk resumed from STALLED waits for the PRINTED or final-state write of a segment reported
in that IDLE or STALLED is log entry 62; that PAUSED leads to IDLE with a segment TAKEN too is log entry 24. -/
def Obligations.ChainCommands : Prop :=
  ∀ s : State, s.commandable →
    (s.tr.reader = .idle → s.smp.chainHead ≠ 0 → s.re.raster = .idle → s.tr.ticket = none → s.tr.awaitSeg = none →
      s.tr.haltReq = false → s.ticketReads = [] →
      ∃ t, exec .goChain s = .next t ∧ Frame [.tr] [] s t ∧ t.out = [] ∧ t.tr.reader = .reading ∧
        t.tr.pos = s.smp.chainHead.toNat ∧ t.tr.step = .header ∧ t.tr.ticket = none ∧ t.tr.haltReq = false ∧
        t.tr.pauseReq = s.tr.pauseReq ∧ t.smp.copies = s.smp.copies ∧ t.smp.writes.map Transfer.words = s.smp.writes.map Transfer.words ∧
        ((∀ x ∈ s.smp.writes, x.awaited = false) →
          t.smp.writes = s.smp.writes ∧ t.ticketReads = [readOf .headerRead s.smp.chainHead.toNat 4]) ∧
        ((∃ x ∈ s.smp.writes, x.awaited = true) → t.ticketReads = [])) ∧
    (s.tr.reader = .idle → s.smp.chainHead = 0 → ∃ t, exec .goChain s = .next t ∧ Becomes { s with out := [] } [] t) ∧
    (s.tr.reader = .stalled → s.re.raster = .idle → s.tr.ticket = none → s.tr.awaitSeg = none → s.tr.haltReq = false →
      (∀ x ∈ s.smp.writes, x.awaited = false) → s.ticketReads = [] →
      ∃ t, exec .goChain s = .next t ∧ Frame [.tr] [] s t ∧ t.tr = { s.tr with reader := .reading } ∧ t.out = [] ∧
        t.smp.writes = s.smp.writes ∧ t.smp.copies = s.smp.copies ∧
        t.ticketReads = [if s.tr.step = .header then readOf .headerRead s.tr.pos 4 else readOf .linkRead s.tr.pos 1]) ∧
    (s.tr.reader = .stalled → s.re.raster ≠ .idle →
      ∃ t, exec .goChain s = .next t ∧ Becomes { s with out := [], tr.reader := .holding } [] t) ∧
    (s.tr.reader ≠ .idle → s.tr.reader ≠ .stalled → ∃ t, exec .goChain s = .next t ∧ Becomes { s with out := [] } [] t) ∧
    (s.tr.reader = .idle →
      ∃ t, exec .haltChain s = .next t ∧ Becomes { s with out := [], tr.haltReq := false } [] t) ∧
    (s.tr.reader = .waiting ∨ s.tr.reader = .paused →
      ∃ t, exec .haltChain s = .next t ∧ Frame [.tr] [] s t ∧ t.out = [] ∧ t.ticketReads = [] ∧ t.smp.writes = s.smp.writes ∧
        t.smp.copies = s.smp.copies ∧ t.tr = { s.tr with reader := .idle, haltReq := false, awaitSeg := none }) ∧
    (s.tr.reader = .stalled → s.re.raster = .idle →
      ∃ t, exec .haltChain s = .next t ∧
        Becomes { s with out := [], tr.reader := .idle, tr.haltReq := false, tr.awaitSeg := none } [] t) ∧
    (s.tr.reader = .reading ∨ s.tr.reader = .executing ∨ s.tr.reader = .holding ∨ (s.tr.reader = .stalled ∧ s.re.raster ≠ .idle) →
      ∃ t, exec .haltChain s = .next t ∧ Becomes { s with out := [], tr.haltReq := true } [] t)

/-! ## Soft reset and the power inputs -/

/-- SOFT_RESET on a moving line (here with no segment TAKEN and the nip CLOSED) sets the soft-reset-in-progress condition and begins a
fast stop: nip commanded open, bands ON_DRUM exposed, STOPPING FAST, TR's pause requested. In stage 2 the end of the last entry's counts
write makes its final-state write and empties the splice list, with reader and lock state as they were (R25, here with no ticket at TR);
the end of a REPORT's snapshot write makes the ticket's FAILED RESET, again with both as they were (R180). With no snapshot write in
flight, the end of a header write changes neither while another is still to come, and the end of the last one takes TR to IDLE, position
and step kept, and MR to SEARCH, raising LOCK in edge mode BOTH where that is a change (R180, R151). When every write has ended,
SOFT_RESET_COMPLETE clears the condition and raises LINE; before that it does nothing. While the condition stands SOFT_RESET is ignored
(R190, R137, R182). That TR and MR wait for the end of the last header write is log entry 64, that the step is kept log entry 36; that
TICKET comes as a header write completes is log entry 12, that FAILED RESET has DETAIL 0 log entry 32, and that the input lines come with
COUNTS_WRITE_DONE log entry 31. That every progress block write must have ended is log entry 49; that a line stopped in STARTING with the
reference at 0 (as right after RUN) stays STOPPING FAST until the next test is log entry 47. -/
def Obligations.SoftResetStages : Prop :=
  ∀ s : State,
    (s.commandable → s.dc.line = .starting ∨ s.dc.line = .running ∨ s.dc.line = .draining → s.rasterIdle → s.dc.nip = .closed →
      ∃ t, exec .softReset s = .next t ∧
        Becomes { s with out := [], smp.soft := .stopping, tr.pauseReq := true, dc.line := .stopping, dc.stopKind := .fast,
                         dc.nip := .opening, dc.valve := .opening, dc.nipTimer := some s.cfg.nipTravel, dc.nipHold := 0,
                         dc.webs := s.dc.webs.map (fun w => { w with run := 0 }),
                         bt.track := s.bt.track.map (fun b =>
                           if b.state = .onDrum then { b with flags := b.flags ||| 0x008#12 } else b) } [.line] t) ∧
    -- stage 2, a segment's last write by BT, a REPORT's snapshot write, and the header writes that follow
    (∀ (e : Tally) (x : Transfer) (rest : List Transfer) (l : Lines), s.pins.powerGood = true → s.smp.soft = .finalising →
      s.bt.tallies = [e] → LastWriteBurst x rest s → x.kind = .countsWrite (.finalise e.id) → s.tr.ticket = none →
      s.tr.awaitSeg = none → (∀ y ∈ rest, y.isRepeatedTaken e.addr = false) →
      ∃ t, exec (.countsWriteDone l) s = .next t ∧
        Becomes { sampleLines l s with out := t.out, smp.writes := rest ++ [segmentFinal e], smp.soft := .closing, mr := s.counted,
                                       bt.tallies := [], bt.splices := [], bt.overflow := false } [] t) ∧
    (∀ (k : Ticket) (x : Transfer) (more : List Transfer) (g : Grant), s.pins.powerGood = true → s.smp.soft = .closing →
      s.tr.ticket = some k → k.phase = .handed → s.smp.copies = x :: more → x.kind = .reportWrite →
      (∀ y ∈ more, y.kind ≠ .reportWrite) → s.smp.grant = some g → g.client = .copy → g.dropped = false → x.left ≤ g.words →
      (∀ y ∈ s.smp.writes, y.isRepeatedTaken k.addr = false) →
      ∃ t, exec .reportWriteDone s = .next t ∧
        Becomes { s with out := t.out, smp.copies := more, smp.writes := s.smp.writes ++ [finalWrite k .failed .reset 0],
                         tr.ticket := some { k with phase := .final } } [] t) ∧
    (∀ (addr : Nat) (h : HeaderWrite) (rest : List Transfer), s.pins.powerGood = true → s.smp.soft = .closing →
      LastWriteBurst (headerTransfer addr h) rest s → s.tr.ticket = none ∨ h.role = .close →
      (∀ x ∈ s.smp.copies, x.kind ≠ .reportWrite) →
      let done := { s with out := [.busWrite (addr + 8) (headerWord h)], smp.writes := rest, tr.ticket := none }
      let ticket : List Notice :=
        if (h.state = .done ∨ h.state = .failed ∨ h.state = .skipped) ∧ h.notify = true then [.ticket] else []
      let lock : List Notice := if s.cfg.lockEdge = .both ∧ s.mr.lock ≠ .search then [.lock] else []
      ((∃ y ∈ rest, y.isHeaderWrite = true) → ∃ t, exec .headerWriteDone s = .next t ∧ Becomes done ticket t) ∧
      ((∀ y ∈ rest, y.isHeaderWrite = false) →
        ∃ t, exec .headerWriteDone s = .next t ∧
          Becomes { done with
            smp.soft := .settling,
            tr := { s.tr with ticket := none, reader := .idle, haltReq := false, pauseReq := false, awaitSeg := none,
                              pollRunning := false, pollElapsed := 0 },
            mr := { s.mr with lock := .search, found := 0, miss := 0, ccur := 0, errors := 0, lastRead := none } }
            (ticket ++ lock) t)) ∧
    (s.pins.powerGood = true → s.smp.soft = .settling → s.smp.writes = [] → s.tr.ticket = none →
      (∀ x ∈ s.smp.copies, x.kind ≠ .reportWrite) → (∀ x ∈ s.smp.reads, x.kind ≠ .progress) →
      ∃ t, exec .softResetComplete s = .next t ∧ Becomes { s with out := [], smp.soft := .off } [.line] t) ∧
    (s.pins.powerGood = true → s.smp.soft ≠ .settling ∨ s.smp.writes ≠ [] ∨ s.tr.ticket ≠ none ∨
        (∃ x ∈ s.smp.copies, x.kind = .reportWrite) ∨ (∃ x ∈ s.smp.reads, x.kind = .progress) →
      ∃ t, exec .softResetComplete s = .next t ∧ Becomes { s with out := [] } [] t) ∧
    (s.pins.powerGood = true → s.smp.soft ≠ .off →
      ∃ t, exec .softReset s = .next t ∧ Becomes { s with out := [] } [] t)

/-- Soft reset reaches the blocks: SOFT_RESET finds the line at rest (STOPPED, TRIPPED or POWER_HELD), or the stop of stage 1 has come to
speed 0 at SPEED_ZERO or at the tension sample that brings the reference to 0 (R112, R137, R190). Here no segment is TAKEN, the open
switch alone is asserted and the nip is not in FAULT. With an empty track, no tally, no ticket at TR and no header write in flight every
block gets its soft-reset values in the same step, the line STOPPED or, with mains lost, POWER_HELD, and LINE is raised where that is a
change (R53, R85, R110, R137, R151, R166, R180, R190). A ticket handed to its block is written FAILED RESET, and until that write has
ended TR is not IDLE and MR keeps its values (log entry 64); a header write in flight, or a REPORT's snapshot write, is waited for before
both (R180). A retirement in progress is waited for, and nothing is removed before
(here with the nip not CLOSED, as at rest); otherwise every record leaves, a tally with bands has them counted discarded, and its
finalisation with RESET begins with its counts write (R25, here with one tally). That FAILED RESET has DETAIL 0 is log entry 32; that no
finalisation begins while a header write is in flight is log entry 33; that the sample makes the test for speed 0 itself is log entry 17;
that the input lines come with SPEED_ZERO and the sample is log entry 31. -/
def Obligations.SoftResetAtRest : Prop :=
  ∀ (c : Instr) (l : Lines) (s u : State), ReachesBlocks c l s u → s.pins.nipOpenSw = true → s.pins.nipClosedSw = false →
    s.dc.nip ≠ .fault → s.rasterIdle →
    -- the sample that brings the reference to 0 goes on with its later stages
    let sample := ∃ cells, c = .tensionSample cells l
    (∀ e : Tally, s.bt.tallies = [e] → e.closing = false → s.bt.retiring = none → (∃ b ∈ s.bt.track, b.tally = e.id) →
      (∀ x ∈ s.smp.writes, x.isHeaderWrite = false) →
      let n := (s.bt.track.filter (fun b => b.tally = e.id)).length
      let e' : Tally := { e with discarded := e.discarded + n, inTrack := e.inTrack - n, cause := .reset, stale := false,
                                 closing := true }
      ∃ t, exec c s = .next t ∧ t.smp.soft = .finalising ∧ t.bt = { s.bt with track := [], tallies := [e'] } ∧
        t.smp.writes = s.smp.writes ++ [writeOf (.countsWrite (.finalise e.id)) (e.addr + 132) (countsWords e')] ∧
        t.tr.reader = s.tr.reader ∧ t.mr = s.mr ∧ (¬sample → t.out = [])) ∧
    (s.bt.retiring ≠ none → s.dc.nip ≠ .closed →
      ∃ t, exec c s = .next t ∧ t.smp.soft = .retiring ∧ t.bt = s.bt ∧ t.smp.writes = s.smp.writes ∧
        t.tr.reader = s.tr.reader ∧ t.mr = s.mr ∧ (¬sample → t.out = [])) ∧
    (s.bt.retiring = none → (∃ x ∈ s.smp.writes, x.isHeaderWrite = true) →
      ∃ t, exec c s = .next t ∧ t.smp.soft = .writing ∧ t.bt.track = [] ∧ t.smp.writes = s.smp.writes ∧
        t.tr.reader = s.tr.reader ∧ t.mr = s.mr ∧ (¬sample → t.out = [])) ∧
    (s.bt.track = [] → s.bt.tallies = [] → s.bt.retiring = none → (∀ x ∈ s.smp.writes, x.isHeaderWrite = false) →
      (∃ x ∈ s.smp.copies, x.kind = .reportWrite) →
      ∃ t, exec c s = .next t ∧ t.smp.soft = .closing ∧ t.tr.reader = s.tr.reader ∧ t.mr = s.mr ∧ t.smp.writes = s.smp.writes) ∧
    (∀ k : Ticket, s.bt.track = [] → s.bt.tallies = [] → s.bt.retiring = none → s.tr.ticket = some k → k.phase = .handed →
      (∀ x ∈ s.smp.writes, x.isHeaderWrite = false) → (∀ x ∈ s.smp.copies, x.kind ≠ .reportWrite) →
      ∃ t, exec c s = .next t ∧ t.smp.soft = .closing ∧
        t.smp.writes = s.smp.writes ++ [finalWrite k .failed .reset 0] ∧
        t.tr = { s.tr with ticket := some { k with phase := .final }, awaitSeg := none } ∧ t.mr = s.mr) ∧
    (s.bt.track = [] → s.bt.tallies = [] → s.bt.retiring = none → s.tr.ticket = none →
    (∀ x ∈ s.smp.writes, x.isHeaderWrite = false) → (∀ x ∈ s.smp.copies, x.kind ≠ .reportWrite) →
    ∃ t, exec c s = .next t ∧ t.smp.soft = .settling ∧ SameRegisters s t ∧ t.pins = u.pins ∧ t.cfg = s.cfg ∧
      t.now = s.now ∧ t.pending = s.pending ∧
      t.tr = { s.tr with reader := .idle, haltReq := false, pauseReq := false, awaitSeg := none, pollRunning := false,
                         pollElapsed := 0 } ∧
      t.re = { s.re with slots := [], fetchOn := false, fullWait := false, autoRetry := false } ∧
      t.ps = { s.ps with staging := none } ∧
      t.bt = { s.bt with splices := [], overflow := false } ∧
      t.mr = { s.mr with lock := .search, found := 0, miss := 0, ccur := 0, errors := 0, lastRead := none } ∧
      t.cv = { s.cv with list := [], txq := s.cv.txq.take 1, seq := 1, drift := false, failRun := 0, passRun := 0, late := 0,
                         bad := 0 } ∧
      (s.hc.retain = true → t.hc = s.hc) ∧
      (s.hc.retain = false → (t.hc.drum = if s.hc.drum = .tripped then .tripped else .cold) ∧
        ∀ z ∈ t.hc.zones.toList, z.target = 0 ∧ z.enable = false ∧ z.state = .off ∧ z.duty = 0 ∧ z.integral = 0 ∧ z.eff = 0 ∧
          z.validRun = 0) ∧
      t.dc.line = (if s.pins.mainsOk then .stopped else .powerHeld) ∧
      (t.dc.line ≠ s.dc.line → t.smp.notice.getLsbD Notice.line.bit = true) ∧ t.dc.ref = 0 ∧ t.dc.startCause = .none ∧ t.dc.setpoint = 200 ∧ t.dc.accel = 100 ∧ t.dc.stretch = 0 ∧
      t.dc.storedIn = s.bt.pos.infeed.nm ∧ t.dc.storedDr = s.bt.pos.drum.nm ∧ t.dc.nip = .opened ∧ t.dc.valve = .opening ∧
      t.dc.devLimit = 60 ∧ t.dc.faultTime = 400 ∧ t.dc.silence = ⟨0, 0, 0⟩ ∧
      t.dc.webs.toList.map WebLoop.tset = [300, 200, 150] ∧
      ∀ w ∈ t.dc.webs.toList, w.kp = 32 ∧ w.ki = 4 ∧ w.zero = 0 ∧ w.scale = 1024 ∧ w.integral = 0 ∧ w.demand = 0 ∧
        w.run = 0 ∧ (¬sample → w.tension = 0) ∧ w.peak = none)

/-- POWER_GOOD low holds the part in power-up reset: every register reads 0, the interrupt line is deasserted, no transfer is queued or
granted, every heater output is 0 and the valve is commanded open; of a write burst in progress just the words that come with the command
have reached memory (log entry 38), and nothing else goes out. Its rise gives every block its power-up values, with the drum TRIPPED, the
line POWER_HELD and POWER raised where MAINS_OK is deasserted, and the nip as its switches show it (R189, R101, R136). Values and pin
levels the manual does not give are those of log entries 2 and 5 to 9, and the stopped fetcher's place is that of log entry 45. While
POWER_GOOD is low every other command is without effect, but that MAINS_OK and the nip switches are followed as pins (log entry 40). -/
def Obligations.PowerGood : Prop :=
  (∀ (moved : Nat) (s : State), ∃ t, exec (.powerGoodLow moved) s = .next t ∧
    t.pins = { s.pins with powerGood := false } ∧ t.pending = s.pending ∧
    (∀ offset, t.readRegister offset = 0) ∧ t.interrupt = false ∧ t.smp.grant = none ∧ t.smp.writes = [] ∧ t.smp.reads = [] ∧
    t.smp.copies = [] ∧ (∀ z ∈ t.hc.zones.toList, z.duty = 0) ∧ t.dc.valve = .opening ∧
    (s.smp.grant = none → t.out = []) ∧
    ∀ (x : Transfer) (rest : List Transfer) (g : Grant), s.smp.grant = some g → g.client = .write → g.dropped = false →
      s.smp.writes = x :: rest → x.isWrite = true → x.moved + g.words ≤ x.words.length →
      t.out = (List.range (min moved g.words)).map (fun i => .busWrite (x.addr + 4 * (x.moved + i)) (x.words.getD (x.moved + i) 0))) ∧
  (∀ s : State, s.pins.powerGood = false →
    ∃ t, exec .powerGoodRise s = .next t ∧
      t = { State.reset with
        pins := { s.pins with powerGood := true }, now := s.now, freeCount := s.freeCount, pending := s.pending,
        smp.notice := if s.pins.mainsOk then 0 else 0x200#10,
        hc.drum := if s.pins.mainsOk then .cold else .tripped,
        dc.line := if s.pins.mainsOk then .stopped else .powerHeld,
        dc.nip := if s.pins.nipOpenSw && !s.pins.nipClosedSw then .opened else .opening,
        dc.nipTimer := if s.pins.nipOpenSw && !s.pins.nipClosedSw then none else some 1500 }) ∧
  (∀ (c : Instr) (s : State), s.pins.powerGood = false → (∀ n, c ≠ .powerGoodLow n) → c ≠ .powerGoodRise →
    exec c s = .next { s with
      out := [],
      pins := match c with
        | .mainsOkLoss => { s.pins with mainsOk := false }
        | .mainsOkReturn => { s.pins with mainsOk := true }
        | .nipSwitchChange o k _ => { s.pins with nipOpenSw := o, nipClosedSw := k }
        | _ => s.pins })

/-- Loss of MAINS_OK raises POWER, trips the drum with every duty and integral 0, and puts the line in POWER_STOP with TR's pause
requested and a CLOSED or CLOSING nip commanded open; a line whose reference is 0 is in POWER_HELD at once; POWER_STOP and POWER_HELD
stand. A segment that is TAKEN, here with a band in the track, is reported PRINTED with ABORTED_TRIP, its band in PRINTING truncated
(R49, R50). Its return raises POWER and takes a POWER_HELD line with no ticket at TR to TRIPPED; no other line state and no drum state
changes (R121, R101, R189). That PRINTED ABORTED_TRIP has DETAIL 0 is log entry 32; that POWER_STOP ends at once with the reference at 0
in STARTING and STOPPING too is log entry 47; that TR is READING while the PRINTED write is outstanding is log entry 61. -/
def Obligations.MainsOk : Prop :=
  ∀ s : State, s.pins.powerGood = true →
    (∃ t, exec .mainsOkLoss s = .next t ∧ t.pins = { s.pins with mainsOk := false } ∧ SameRegisters s t ∧
      t.pending = s.pending ∧ t.ps.slots = s.ps.slots ∧ t.hc.drum = .tripped ∧
      (∀ z ∈ t.hc.zones.toList, z.duty = 0 ∧ z.integral = 0) ∧ t.smp.notice.getLsbD 9 = true ∧
      (s.dc.line ≠ .powerStop → s.dc.line ≠ .powerHeld → s.dc.ref ≠ 0 →
        t.dc.line = .powerStop ∧ t.tr.pauseReq = true ∧
        (s.dc.nip = .closed ∨ s.dc.nip = .closing → t.dc.nip = .opening ∧ t.dc.valve = .opening)) ∧
      (s.dc.line ≠ .powerStop → s.dc.line ≠ .powerHeld → s.dc.ref = 0 → t.dc.line = .powerHeld) ∧
      (s.dc.line = .powerStop ∨ s.dc.line = .powerHeld → t.dc = s.dc) ∧
      (∀ (g : Segment) (e : Tally), s.dc.line ≠ .powerStop → s.dc.line ≠ .powerHeld → s.dc.ref ≠ 0 →
        SegmentHeld g e s → PrintedReport g .abortedTrip { s with bt.track := s.cutTrack }.fastStopped.bt.track s t)) ∧
    (s.dc.line = .powerHeld → s.tr.ticket = none →
      ∃ t, exec .mainsOkReturn s = .next t ∧
        Becomes { s with out := [], pins.mainsOk := true, dc.line := .tripped, dc.nipHold := 0,
                         dc.webs := s.dc.webs.map (fun w => { w with run := 0 }) } [.power, .line] t) ∧
    (s.dc.line ≠ .powerHeld →
      ∃ t, exec .mainsOkReturn s = .next t ∧ Becomes { s with out := [], pins.mainsOk := true } [.power] t)

/-! ## Tickets -/

/-- SET_SPEED and SET_TENSION, once their TAKEN write completes: DC takes the clamped values at once in every line state; a
SET_TENSION keeps each integral and sets each deviation run to 0; the ticket is DONE OK with DETAIL the index of the first field
outside its range, or 0 (R113, R131, R172, R173). Hand-off at the completion of the TAKEN write is log entry 20. -/
def Obligations.SpeedAndTensionTickets : Prop :=
  (∀ ws : List Word,
    FirstOut 2 (fun i => if i = 1 then 50 ≤ natAt ws 0 ∧ natAt ws 0 ≤ 1000 else 10 ≤ natAt ws 1 ∧ natAt ws 1 ≤ 2000)
      (firstClamped speedFields ws) ∧
    FirstOut 17 (fun i =>
        let v := natAt ws (i - 1)
        if i ≤ 3 then 20 ≤ v ∧ v ≤ 2000 else if i ≤ 9 then v ≤ 255 else if i ≤ 12 then v ≤ 65535
        else if i ≤ 15 then 1 ≤ v ∧ v ≤ 8191 else if i = 16 then 5 ≤ v ∧ v ≤ 500 else 50 ≤ v ∧ v ≤ 2000)
      (firstClamped tensionFields ws)) ∧
  ∀ (t : Ticket) (rest : List Transfer) (s : State), Handing t rest s →
    (t.kind = .setSpeed →
      ∃ u, exec (.setSpeed []) s = .next u ∧ Frame [.tr, .dc] [] s u ∧
        Finishes t rest .done .ok (firstClamped speedFields t.body) s u ∧ u.tr.reader = s.tr.reader ∧
        u.dc = { s.dc with setpoint := max 50 (min (natAt t.body 0) 1000), accel := max 10 (min (natAt t.body 1) 2000) }) ∧
    (t.kind = .setTension →
      ∃ u, exec (.setTension []) s = .next u ∧ Frame [.tr, .dc] [] s u ∧
        Finishes t rest .done .ok (firstClamped tensionFields t.body) s u ∧ u.tr.reader = s.tr.reader ∧
        u.dc = { s.dc with webs := u.dc.webs, devLimit := max 5 (min (natAt t.body 15) 500),
                           faultTime := max 50 (min (natAt t.body 16) 2000) } ∧
        ∀ (w : WebId) (i : Nat), (w = .paper ∧ i = 0) ∨ (w = .fabric ∧ i = 1) ∨ (w = .tissue ∧ i = 2) →
          webOf u.dc.webs w = { webOf s.dc.webs w with
            tset := max 20 (min (natAt t.body i) 2000), kp := min (natAt t.body (3 + i)) 255,
            ki := min (natAt t.body (6 + i)) 255, zero := min (natAt t.body (9 + i)) 65535,
            scale := max 1 (min (natAt t.body (12 + i)) 8191), run := 0 })

/-- SET_HEAT, once its TAKEN write completes: the shared parameters are replaced, clamped; every zone gets its new target and enable bit
and is settled by the table of R90; the drum follows R91; the ticket is DONE OK with DETAIL the index of the first field outside its
range, or 0 (R89, R90, R91). That the settle count is kept where the drum becomes COLD is log entry 54. -/
def Obligations.HeatTicket : Prop :=
  (∀ ws : List Word, FirstOut 13 (fun i =>
      let v := natAt ws (i - 1)
      if i ≤ 8 then v ≤ 2300 else if i = 9 then True else if i = 10 then 1200 ≤ v ∧ v ≤ 1900
      else if i = 11 then 1 ≤ v ∧ v ≤ 100 else v ≤ 255)
    (firstClamped heatFields ws)) ∧
  ∀ (t : Ticket) (rest : List Transfer) (s : State), Handing t rest s → t.kind = .setHeat →
    let on : Zone → Prop := fun z => z.enable = true ∧ 1 ≤ z.target
    ∃ u, exec (.setHeat []) s = .next u ∧
      Frame [.tr, .hc] (if u.hc.drum = s.hc.drum then [] else [.drum]) s u ∧
      Finishes t rest .done .ok (firstClamped heatFields t.body) s u ∧
      u.hc.ton = max 1200 (min (natAt t.body 9) 1900) ∧ u.hc.ramp = max 1 (min (natAt t.body 10) 100) ∧
      u.hc.kp = min (natAt t.body 11) 255 ∧ u.hc.ki = min (natAt t.body 12) 255 ∧
      u.hc.retain = (wordAt t.body 13).getLsbD 0 ∧
      (∀ i : Fin 8,
        let b := s.hc.zones.get i
        let n : Zone := { b with target := min (natAt t.body i.val) 2300, enable := (wordAt t.body 8).getLsbD i.val }
        let z := u.hc.zones.get i
        (¬on n → z = { n with state := .off, duty := 0, integral := 0, eff := 0, validRun := 0 }) ∧
        (on n → ¬on b → (∀ r, b.reading = some r → z = { n with state := .regulate, eff := min r 2300, integral := 0, validRun := 0 }) ∧
          (b.reading = none → z = { n with state := .lost, validRun := 0 })) ∧
        (on n → on b → z = n)) ∧
      (let change := ∃ i : Fin 8, on (u.hc.zones.get i) ∧
        (¬on (s.hc.zones.get i) ∨ (u.hc.zones.get i).target > (s.hc.zones.get i).target + 30 ∨
          (s.hc.zones.get i).target > (u.hc.zones.get i).target + 30)
       (s.hc.drum = .tripped → u.hc.drum = .tripped ∧ u.hc.settle = s.hc.settle) ∧
       (s.hc.drum ≠ .tripped → (∀ z ∈ u.hc.zones.toList, ¬on z) → u.hc.drum = .cold ∧ u.hc.settle = s.hc.settle) ∧
       (s.hc.drum ≠ .tripped → (∃ z ∈ u.hc.zones.toList, on z) → s.hc.drum = .cold ∨ change →
         u.hc.drum = .heating ∧ u.hc.settle = 0) ∧
       (s.hc.drum ≠ .tripped → (∃ z ∈ u.hc.zones.toList, on z) → s.hc.drum ≠ .cold → ¬change →
         u.hc.drum = s.hc.drum ∧ u.hc.settle = s.hc.settle))

/-- CONFIGURE, once its TAKEN write completes: with the line STOPPED or TRIPPED and the track empty every field takes its new value
at that one moment and the ticket is DONE OK; otherwise no setting changes and it is FAILED BUSY (R175). C_cur is clamped to the new
window (R146). The body's words are those of 11.2: a scale is a word of whole nanometres and the low half of the next as its fraction. -/
def Obligations.ConfigureTicket : Prop :=
  ∀ (t : Ticket) (rest : List Transfer) (s : State), Handing t rest s → t.kind = .configure →
    (((s.dc.line = .stopped ∨ s.dc.line = .tripped) ∧ s.bt.track = []) →
      ∃ u, exec (.configure []) s = .next u ∧ Finishes t rest .done .ok 0 s u ∧
        Frame [.tr, .mr] [] s { u with cfg := s.cfg } ∧
        (let v := natAt t.body
         let scale : Nat → Nat := fun i => v i * 65536 + v (i + 1) % 65536
         u.cfg = { scale := ⟨scale 0, scale 2, scale 4⟩, dpm := v 6, dpn := v 7, w := v 8, dxi := v 9, fn := v 10, pnom := v 11,
                   leadRows := v 12, nipCloseSpeed := v 13, nipTravel := v 14, nipHoldLimit := v 15, stopDecel := v 16,
                   markWindow := v 17,
                   counterSource := if v 18 = 0 then .missed else if v 18 = 1 then .mismatch else .both,
                   counterMode := if v 19 = 0 then .manual else .auto, triggerTimeout := v 20, encoderTimeout := v 21,
                   lockEdge := if v 22 = 0 then .onset else .both, driftEdge := if v 23 = 0 then .onset else .both }) ∧
        u.mr = { s.mr with ccur := max (-(u.cfg.markWindow * 1000 : Int)) (min s.mr.ccur (u.cfg.markWindow * 1000)) }) ∧
    (¬((s.dc.line = .stopped ∨ s.dc.line = .tripped) ∧ s.bt.track = []) →
      ∃ u, exec (.configure []) s = .next u ∧ Finishes t rest .failed .busy 0 s u ∧ Frame [.tr] [] s u)

/-- LOAD_PROFILE written TAKEN: the staging slot is COPYING with no words, and the 64-word read is asked for. REPORT written TAKEN: the
snapshot of the state at that moment is to be written at the result address, the peak records are clear, and in MANUAL mode the mark
error counter is 0; when the last burst of its write ends it is DONE OK (R73, R74, R176). The snapshot's 64 words by 11.6: the track
count, depth, drift, overflow and list lengths, the oldest and newest band, the splice positions, the trigger entries, each zone's I and
duty, the lock state and the instrument status, the bands in each state, the serials of the outstanding triggers, the drift runs, each
slot's τ, the peak-to-peaks, the counters, and zeros beyond word 43. -/
def Obligations.LoadAndReportTickets : Prop :=
  ∀ (t : Ticket) (rest : List Transfer) (s : State),
    (Handing t rest s → t.kind = .loadProfile →
      ∃ u, exec (.loadProfile []) s = .next u ∧ Frame [.tr, .ps] [] s u ∧
        u.tr = { s.tr with ticket := some { t with phase := .handed } } ∧
        u.ps = { s.ps with staging := some { target := Fin.ofNat 8 (natAt t.body 0), words := [] } } ∧
        u.smp.writes = rest ∧ u.smp.copies = s.smp.copies ++
          [{ kind := .profileCopy, addr := natAt t.body 1 / 16 * 16, moved := 0, left := 64, words := [] }]) ∧
    (Handing t rest s → t.kind = .report →
      ∃ u, exec (.report []) s = .next u ∧ Frame [.tr, .dc, .mr] [] s u ∧
        u.tr = { s.tr with ticket := some { t with phase := .handed } } ∧
        u.dc = { s.dc with webs := s.dc.webs.map (fun w => { w with peak := none }) } ∧
        u.mr = { s.mr with errors := if s.cfg.counterMode = .manual then 0 else s.mr.errors } ∧
        u.smp.writes = rest ∧ u.smp.copies = s.smp.copies ++ [writeOf .reportWrite (natAt t.body 0 / 16 * 16) (snapshotWords s)]) ∧
    (let w := wordAt (snapshotWords s)
     let n := BitVec.ofNat 32
     let count : BandState → Nat := fun st => (s.bt.track.filter (fun b => b.state = st)).length % 256
     (snapshotWords s).length = 64 ∧ fieldAt (w 0) 0 8 = s.bt.track.length % 256 ∧ fieldAt (w 0) 8 8 = s.re.depth % 256 ∧
     ([.search, .locked, .lost] : List LockState)[fieldAt (w 0) 16 2]? = some s.mr.lock ∧ fieldAt (w 0) 18 2 = 0 ∧
     ([.ready, .notReady, .cal] : List InstrumentStatus)[fieldAt (w 0) 20 2]? = some s.cv.status ∧ fieldAt (w 0) 22 2 = 0 ∧
     (∀ i < 4, some (fieldAt (w 3) (8 * i) 8) = (([.printing, .travelling, .onDrum, .pastDrum] : List BandState)[i]?).map count) ∧
     (∀ i < 3, some (fieldAt (w 4) (8 * i) 8) = (([.awaiting, .clearing, .finished] : List BandState)[i]?).map count) ∧
     fieldAt (w 4) 24 8 = 0 ∧ (∀ i < 4, fieldAt (w 13) (8 * i) 8 = ((s.cv.list[i]?.map Trigger.seq).getD 0) % 256) ∧
     (∀ i : Fin 8, fieldAt (w (26 + i.val / 2)) (16 * (i.val % 2)) 16 = (s.hc.zones.get i).duty % 65536 ∧
       fieldAt (w (40 + i.val / 2)) (16 * (i.val % 2)) 16 = (BitVec.ofInt 16 (s.ps.slots.get i).tau).toNat) ∧
     fieldAt (w 39) 16 8 = s.cv.failRun % 256 ∧ fieldAt (w 39) 24 8 = s.cv.passRun % 256 ∧
     (w 0).getLsbD 24 = s.cv.drift ∧ (w 0).getLsbD 25 = s.bt.overflow ∧ fieldAt (w 0) 26 3 = min 4 s.bt.splices.length ∧
     fieldAt (w 0) 29 3 = min 4 s.cv.list.length ∧ w 1 = n ((s.bt.track.head?.map Band.number).getD 0) ∧
     w 2 = n ((s.bt.track.getLast?.map Band.number).getD 0) ∧
     (∀ i < 4, w (5 + 2 * i) = n (s.bt.splices.getD i 0 % 4294967296) ∧ w (6 + 2 * i) = n (s.bt.splices.getD i 0 / 4294967296) ∧
       w (14 + i) = n ((s.cv.list[i]?.map Trigger.band).getD 0)) ∧
     (∀ i : Fin 8, w (18 + i.val) = n (s.hc.zones.get i).integral) ∧
     (∀ i < 3, ∀ x, s.dc.webs.toList[i]? = some x → w (30 + i) = BitVec.ofInt 32 ((x.peak.map (fun p => p.hi - p.lo)).getD 0)) ∧
     w 33 = n s.re.lowWater ∧ w 34 = n s.re.underruns ∧ w 35 = n s.re.gaps ∧ w 36 = n s.cv.late ∧ w 37 = n s.cv.bad ∧
     w 38 = n s.mr.strays ∧ fieldAt (w 39) 0 16 = s.mr.errors % 65536 ∧ ∀ i, 44 ≤ i → w i = 0) ∧
    (∀ (x : Transfer) (more : List Transfer) (g : Grant),
      s.pins.powerGood = true → s.smp.soft = .off → s.tr.ticket = some t → s.smp.copies = x :: more → x.kind = .reportWrite →
      s.smp.grant = some g → g.client = .copy → g.dropped = false → x.left ≤ g.words →
      (∀ y ∈ s.smp.writes, y.isRepeatedTaken t.addr = false) →
      ∃ u, exec .reportWriteDone s = .next u ∧ Frame [.tr] [] s u ∧
        u.tr = { s.tr with ticket := some { t with phase := .final } } ∧ u.smp.copies = more ∧
        u.smp.writes = s.smp.writes ++ [finalWrite t .done .ok 0])

/-- SEGMENT, when its body read completes and every check passes (here with the line not RUNNING): it is written TAKEN and at the same
moment its tally entry opens with all counts 0, the context is loaded with no band created and no end pending, RE is PRIMING and its
fetcher asks for band 0's first 32 rows, and TR is HOLDING with the link to read next (R21, R29, R33, R172). With AUTO_START in STOPPED
it asks for a line start: accepted, the line is STARTING; refused with DRUM_NOT_READY while the drum is HEATING, it stays PRIMING to ask
again; refused otherwise, RE is IDLE and the tally's finalisation with START_REFUSED begins with its counts write (R51). That a SEGMENT
is taken as its TAKEN write is made is log entry 20; the tally's cause before any report is log entry 50; that the broken-line flags come
with the command is log entry 31; that TR is READING from a START_REFUSED report until its final-state write ends is log entry 61. -/
def Obligations.SegmentTicket : Prop :=
  ∀ (t : Ticket) (x : Transfer) (more : List Transfer) (g : Grant) (ws : List Word) (l : Lines) (s : State), BodyArrives t x more g ws s →
    t.kind = .segment → s.tr.reader = .reading → takeCheck { t with body := x.words ++ ws.take g.words } s = none →
    s.dc.line ≠ .running → s.re.raster = .idle → s.re.slots = [] → 0 ∉ voidsOf (x.words ++ ws.take g.words) →
    let body := x.words ++ ws.take g.words
    let auto := (wordAt body 9).getLsbD 0 = true ∧ s.dc.line = .stopped
    let ready := s.hc.drum = .atTemp ∧ s.dc.nip = .opened ∧ (∀ w ∈ s.dc.webs.toList, w.inRange = true) ∧
      l.broken = ⟨false, false, false⟩
    let taken : Transfer := headerTransfer t.addr
      { state := .taken, status := .ok, detail := 0, notify := t.notify, role := .take .segment, repeating := false }
    (auto → ready →
      ∃ u, exec (.segment ws l) s = .next u ∧ Frame [.tr, .re, .bt, .dc] [.line] (sampleLines l s) u ∧ u.dc.line = .starting ∧
        u.dc.startCause = .none ∧ u.re.raster = .priming ∧ u.re.autoRetry = false ∧ u.tr.reader = .holding ∧
        u.smp.writes = s.smp.writes ++ [taken]) ∧
    (auto → s.hc.drum = .heating →
      ∃ u, exec (.segment ws l) s = .next u ∧ Frame [.tr, .re, .bt, .dc] [.line] (sampleLines l s) u ∧ u.dc.line = .stopped ∧
        u.dc.startCause = .drumNotReady ∧ u.re.raster = .priming ∧ u.re.autoRetry = true ∧ u.tr.reader = .holding ∧
        u.smp.writes = s.smp.writes ++ [taken]) ∧
    (auto → ¬ready → s.hc.drum ≠ .heating → s.tr.haltReq = false → (∀ y ∈ s.bt.tallies, y.id ≠ s.bt.nextTally) →
      ∃ u e, exec (.segment ws l) s = .next u ∧ Frame [.tr, .re, .bt, .dc] [.line] (sampleLines l s) u ∧ u.dc.line = .stopped ∧
        u.dc.startCause = (if s.hc.drum ≠ .atTemp then .drumNotReady else if s.dc.nip ≠ .opened then .nipNotOpen else .sensor) ∧
        u.re.raster = .idle ∧ u.re.seg = none ∧ u.re.slots = [] ∧ u.tr.reader = .reading ∧
        u.bt.tallies = s.bt.tallies ++ [e] ∧ e.cause = .startRefused ∧ e.printed = false ∧ e.closing = true ∧
        u.smp.writes = s.smp.writes ++ [taken, writeOf (.countsWrite (.finalise s.bt.nextTally)) (t.addr + 132)
          [0, 0, 0, 0, 0, 0, 0, 0]]) ∧
    (¬auto →
    ∃ u, exec (.segment ws l) s = .next u ∧ Frame [.tr, .re, .bt, .dc] [] (sampleLines l s) u ∧ u.out = [] ∧
      u.tr = { s.tr with ticket := none, reader := .holding, step := .link } ∧ u.dc = { s.dc with nipHold := 0 } ∧
      u.bt = { s.bt with nextTally := s.bt.nextTally + 1, tallies := s.bt.tallies ++
        [{ id := s.bt.nextTally, addr := t.addr, notify := t.notify || (wordAt body 9).getLsbD 2, area := natAt body 10 / 16 * 16,
           capacity := natAt body 11, created := 0, inTrack := 0, good := 0, suspect := 0, reject := 0, void := 0, written := 0,
           dropped := 0, discarded := 0, printed := false, cause := .ok, stale := true, closing := false }] } ∧
      u.re.raster = .priming ∧ u.re.ending = .none ∧ u.re.band = none ∧ u.re.serial = t.serial ∧ u.re.printEnd = s.re.printEnd ∧
      u.re.seg = some { tally := s.bt.nextTally, addr := t.addr, base := natAt body 0 / 16 * 16, stride := natAt body 1,
                        width := natAt body 2, rows := natAt body 3, bandRows := natAt body 4, count := natAt body 5,
                        first := natAt body 6, slot := Fin.ofNat 8 (natAt body 7), patch := natAt body 8,
                        autoStart := (wordAt body 9).getLsbD 0, testMark := (wordAt body 9).getLsbD 1, voids := voidsOf body, created := 0 } ∧
      u.re.slots = (List.range 32).map (fun i =>
        { band := 0, row := i, repeatRow := (natAt body 6 + i) % natAt body 3, words := [], complete := false }) ∧
      u.smp.copies = s.smp.copies ∧ u.ticketReads = more.filter Transfer.isTicketRead ∧
      u.smp.writes = s.smp.writes ++ [taken])

/-- END_SEGMENT, once its TAKEN write completes: SKIPPED NO_SEGMENT while no segment is TAKEN; NOW in PRINTING truncates and blanks the
band and discards every row; AT_BOUNDARY in PRINTING keeps the current band's rows alone; an end already pending NOW stands; in PRIMING
or BETWEEN the segment is reported PRINTED at once and, here having no band in the track, finalised with its counts write (R46, R47, R50,
R21). That SKIPPED NO_SEGMENT has DETAIL 0 is log entry 32; that TR, HOLDING with a halt pending, is EXECUTING until this ticket's
final-state write has ended is log entry 55. -/
def Obligations.EndSegmentTicket : Prop :=
  ∀ (t : Ticket) (rest : List Transfer) (s : State), Handing t rest s → t.kind = .endSegment →
    (s.re.raster = .idle →
      ∃ u, exec (.endSegment []) s = .next u ∧ Finishes t rest .skipped .noSegment 0 s u ∧ Frame [.tr] [] s u) ∧
    (∀ c : BandContext, s.re.raster = .printing → s.re.band = some c → natAt t.body 0 = 1 → s.re.ending ≠ .now →
      ∃ u, exec (.endSegment []) s = .next u ∧ Finishes t rest .done .ok 0 s u ∧ Frame [.tr, .re, .bt] [] s u ∧
        u.re = { s.re with ending := .now, fetchOn := false, slots := [], band := some { c with blank := true } } ∧
        u.bt = { s.bt with track := s.bt.track.map (fun b =>
          if b.number = c.number then { b with flags := b.flags ||| 0x004#12 } else b) }) ∧
    (∀ c : BandContext, s.re.raster = .printing → s.re.band = some c → natAt t.body 0 = 0 →
      s.re.ending = .none ∨ s.re.ending = .drain →
      ∃ u, exec (.endSegment []) s = .next u ∧ Finishes t rest .done .ok 0 s u ∧ Frame [.tr, .re] [] s u ∧
        u.re.ending = .atBoundary ∧ u.re.raster = .printing ∧ u.re.band = s.re.band ∧ u.re.seg = s.re.seg ∧
        u.re.slots.filter RowSlot.complete = s.re.slots.filter (fun y => y.complete && decide (y.band ≤ c.index)) ∧
        ∀ y ∈ u.re.slots, y.band ≤ c.index) ∧
    (s.re.raster = .printing → s.re.ending = .now ∨ (s.re.ending = .atBoundary ∧ natAt t.body 0 = 0) →
      ∃ u, exec (.endSegment []) s = .next u ∧ Finishes t rest .done .ok 0 s u ∧ Frame [.tr] [] s u) ∧
    (∀ (g : Segment) (e : Tally), s.re.raster = .priming ∨ s.re.raster = .between → s.tr.reader = .holding → s.re.seg = some g →
      s.bt.tallies.find? (fun y => y.id = g.tally) = some e → e.inTrack = 0 → e.closing = false → e.stale = true →
      ∃ u, exec (.endSegment []) s = .next u ∧ Frame [.tr, .re, .bt] [] s u ∧ u.re.raster = .idle ∧ u.re.seg = none ∧
        u.re.slots = [] ∧ u.re.ending = .none ∧ u.tr.reader = .executing ∧ u.tr.ticket = some { t with phase := .final } ∧
        (∃ e' ∈ u.bt.tallies, e'.id = g.tally ∧ e'.printed = true ∧ e'.closing = true ∧
          e'.cause = if g.count = 0 ∨ g.created = g.count then .ok else .short) ∧
        u.smp.writes = rest ++ [writeOf (.countsWrite (.finalise g.tally)) (e.addr + 132) (countsWords e),
                                finalWrite t .done .ok 0])

/-- STOP as a ticket, once its TAKEN write completes, settled by the line state: STOPPED gives DONE OK; TRIPPED, POWER_STOP and
POWER_HELD give FAILED ABORTED_TRIP; DRAINING and STOPPING leave it TAKEN; RUNNING (here with no segment TAKEN and a band in the track)
drains and leaves it TAKEN; STARTING with the nip OPEN makes a normal stop and leaves it TAKEN (R116, R118). That FAILED ABORTED_TRIP has
DETAIL 0 is log entry 32; that STARTING with the reference at 0 (as right after RUN) goes to STOPPING until the next test, with the
ticket still TAKEN, is log entry 47. -/
def Obligations.StopTicket : Prop :=
  ∀ (t : Ticket) (rest : List Transfer) (s : State), Handing t rest s → t.kind = .stop →
    (s.dc.line = .stopped →
      ∃ u, exec (.stopTicket []) s = .next u ∧ Finishes t rest .done .ok 0 s u ∧ Frame [.tr] [] s u) ∧
    (s.dc.line = .tripped ∨ s.dc.line = .powerStop ∨ s.dc.line = .powerHeld →
      ∃ u, exec (.stopTicket []) s = .next u ∧ Finishes t rest .failed .abortedTrip 0 s u ∧ Frame [.tr] [] s u) ∧
    (s.dc.line = .draining ∨ s.dc.line = .stopping →
      ∃ u, exec (.stopTicket []) s = .next u ∧ Frame [.tr] [] s u ∧ u.smp.writes = rest ∧
        u.tr = { s.tr with ticket := some { t with phase := .handed } }) ∧
    (s.dc.line = .running → s.rasterIdle → s.bt.track ≠ [] →
      ∃ u, exec (.stopTicket []) s = .next u ∧ Frame [.tr, .dc] [.line] s u ∧ u.smp.writes = rest ∧
        u.tr = { s.tr with ticket := some { t with phase := .handed } } ∧
        u.dc = { s.dc with line := .draining, nipHold := 0 }) ∧
    (s.dc.line = .starting → s.dc.nip = .opened →
      ∃ u, exec (.stopTicket []) s = .next u ∧ Frame [.tr, .dc] [.line] s u ∧ u.smp.writes = rest ∧
        u.tr = { s.tr with ticket := some { t with phase := .handed } } ∧
        u.dc = { s.dc with line := .stopping, stopKind := .normal, nipHold := 0,
                           webs := s.dc.webs.map (fun w => { w with run := 0 }) })

/-! ## Paper, bands and marks -/

/-- A pulse restarts its encoder's silence timer. A forward pulse adds the encoder's scale to its position and fraction remainder
together and leaves the other positions; a reverse pulse leaves every position. No pulse changes heat, profiles, settings or the rest of
the drive (R6, R135). A forward paper pulse brings, here to the one band of the track, its mark resolved, with RE idle: at its midpoint
at the nip ON_DRUM, with SPLICE where a stored splice lies in its drum span or overflow is set (R9, R15); at the drum exit PAST_DRUM with
the dose check of a PRINTED band (R10, R108); at the patch CLEARING for a VOID band, AWAITING with a trigger and its MEASURE frame where
CV can send one, and otherwise UNMEASURED and CLEARING (R11, R157); at the trailing edge the marker for an AWAITING band, and for a
CLEARING one FINISHED and its retirement: verdict, its count, and the record write, or a dropped record and the counts write where the
result area is full (R13, R17, R19). Splice entries whose nip position + W P has reached leave (R16), here from an empty track. That the
input lines come with the pulse is log entry 31; that a counts write carries the totals of the moment it is asked for is log entry 57. -/
def Obligations.EncoderPositions : Prop :=
  ∀ (e : EncoderId) (l : Lines) (s : State), s.pins.powerGood = true →
    (∃ t, exec (.encoderPulse e false l) s = .next t ∧
      Becomes { sampleLines l s with out := [], dc.silence := encPut s.dc.silence e 0 } [] t) ∧
    (∃ t, exec (.encoderPulse e true l) s = .next t ∧ t.pins = (sampleLines l s).pins ∧ SameRegisters s t ∧
      t.hc = s.hc ∧ t.ps = s.ps ∧ t.cfg = s.cfg ∧ t.now = s.now ∧ t.pending = s.pending ∧
      t.dc = { s.dc with silence := encPut s.dc.silence e 0 } ∧
      (encOf t.bt.pos e).nm * 65536 + (encOf t.bt.pos e).frac =
        (encOf s.bt.pos e).nm * 65536 + (encOf s.bt.pos e).frac + encOf s.cfg.scale e ∧
      (encOf t.bt.pos e).frac < 65536 ∧ ∀ o, o ≠ e → encOf t.bt.pos o = encOf s.bt.pos o) ∧
    (e ≠ .paper → ∃ t, exec (.encoderPulse e true l) s = .next t ∧
      Becomes { sampleLines l s with out := [], dc.silence := encPut s.dc.silence e 0, bt.pos := t.bt.pos } [] t) ∧
    (let pos := s.bt.pos.paper.advance s.cfg.scale.paper
     let u : State := { sampleLines l s with out := [], dc.silence := encPut s.dc.silence .paper 0, bt.pos := { s.bt.pos with paper := pos } }
     let mm : Nat → Int := fun d => d * 1000000
     s.rasterIdle → s.smp.soft = .off → s.bt.retiring = none →
     (∀ (b : Band) (c : Int), s.bt.track = [b] → b.c = some c → (∀ x ∈ s.bt.splices.head?, (pos.nm : Int) < x + mm s.cfg.w) →
       let nip : Int := b.l0 + (b.len / 2 : Nat) + mm s.cfg.dpn + c
       let patch : Int := b.l0 + b.po + mm s.cfg.dpn + mm s.cfg.w + mm s.cfg.dxi + c
       let trail : Int := b.l0 + b.len + mm s.cfg.dpn + mm s.cfg.w + mm s.cfg.dxi + c
       (b.state = .travelling → nip ≤ pos.nm → pos.nm < nip + mm s.cfg.w →
         let hit := s.bt.overflow = true ∨
           ∃ x ∈ s.bt.splices, (b.l0 : Int) + mm s.cfg.dpn + c ≤ x ∧ (x : Int) ≤ b.l0 + b.len + mm s.cfg.dpn + c
         ∃ t, exec (.encoderPulse .paper true l) s = .next t ∧
           Becomes { u with bt.track := [{ b with state := .onDrum, flags := if hit then b.flags ||| 0x080#12 else b.flags }] } [] t) ∧
       (b.state = .onDrum → nip + mm s.cfg.w ≤ pos.nm → pos.nm < patch →
         let dose : (Int → Prop) → Prop := fun p => b.kind = .printed ∧
           ∃ i : Fin 8, b.zones.get i = true ∧ b.lostZones.get i = false ∧ p (b.doses.get i * 100)
         let low := dose (fun x => x < (b.dpred : Int) * (100 - b.doseTol))
         let high := dose (fun x => (b.dpred : Int) * (100 + b.doseTol) < x)
         ∃ t, exec (.encoderPulse .paper true l) s = .next t ∧
           Becomes { u with bt.track := [{ b with
             state := .pastDrum, flags := b.flags ||| (if low then 0x020#12 else 0) ||| (if high then 0x040#12 else 0) }] } [] t) ∧
       (b.state = .pastDrum → patch ≤ pos.nm → pos.nm < trail →
         (b.kind = .void →
           ∃ t, exec (.encoderPulse .paper true l) s = .next t ∧ Becomes { u with bt.track := [{ b with state := .clearing }] } [] t) ∧
         (b.kind = .printed → s.cv.status = .ready → s.cv.list.length < 4 →
           ∃ t, exec (.encoderPulse .paper true l) s = .next t ∧
             Becomes { u with
               bt.track := [{ b with state := .awaiting }],
               cv.list := s.cv.list ++ [{ seq := s.cv.seq, band := b.number, deadline := s.now + s.cfg.triggerTimeout }],
               cv.seq := if s.cv.seq = 255 then 1 else s.cv.seq + 1, cv.txq := s.cv.txq ++ [s.cv.seq],
               out := if s.cv.txq = [] then [.measure (measureBytes s.cv.seq)] else [] } [] t) ∧
         (b.kind = .printed → s.cv.status ≠ .ready ∨ 4 ≤ s.cv.list.length →
           ∃ t, exec (.encoderPulse .paper true l) s = .next t ∧
             Becomes { u with bt.track := [{ b with state := .clearing, flags := b.flags ||| 0x400#12 }] } [] t)) ∧
       (b.state = .awaiting → trail ≤ pos.nm →
         ∃ t, exec (.encoderPulse .paper true l) s = .next t ∧ Becomes { u with bt.track := [{ b with trailing := true }] } [] t) ∧
       (∀ y : Tally, b.state = .clearing → trail ≤ pos.nm → s.bt.tallies = [y] → y.id = b.tally →
         let v := b.verdictOf
         let b' : Band := { b with state := .finished, verdict := some v }
         let counted : Tally := { y with
           good := if v = .good then y.good + 1 else y.good, suspect := if v = .suspect then y.suspect + 1 else y.suspect,
           reject := if v = .reject then y.reject + 1 else y.reject, void := if v = .void then y.void + 1 else y.void }
         let full : Tally := { counted with dropped := y.dropped + 1, stale := false }
         (y.written < y.capacity →
           ∃ t, exec (.encoderPulse .paper true l) s = .next t ∧ Frame [.bt] [] u t ∧
             t.bt = { u.bt with track := [b'], retiring := some .record, tallies := [{ counted with stale := true }] } ∧
             t.smp.writes = s.smp.writes ++ [writeOf .recordWrite (y.area + y.written * 64) (recordWords b')]) ∧
         (y.capacity ≤ y.written →
           ∃ t, exec (.encoderPulse .paper true l) s = .next t ∧ Frame [.bt] [] u t ∧
             t.bt = { u.bt with track := [b'], retiring := some .counts, tallies := [full] } ∧
             t.smp.writes = s.smp.writes ++ [writeOf (.countsWrite .retirement) (y.addr + 132) (countsWords full)]))) ∧
     (∀ (x : Nat) (rest : List Nat), s.bt.track = [] → s.bt.splices = x :: rest → x + s.cfg.w * 1000000 ≤ pos.nm →
       (∀ y ∈ rest.head?, pos.nm < y + s.cfg.w * 1000000) →
       ∃ t, exec (.encoderPulse .paper true l) s = .next t ∧
         Becomes { u with freeCount := s.freeCount + 1, bt.splices := rest,
                          bt.overflow := if rest.length < 4 then false else s.bt.overflow } [] t))

/-- A paper pulse that brings row events to a band that is alone in the track with its mark window open. One event of a PRINTED band, its
last or not: with a complete row and all head links ready the row is converted and sent and counts fired; with a link not ready it is
consumed, counts lost and sets HEAD_MISS; with depth 0 it is an underrun: lost, UNDERRUN set and raised, blanking set, the counter up by
1, and exactly the band's rows dropped from the buffer; under blanking it counts lost and consumes nothing; a row consumed at a depth of
2 or less counts for low water (R39, R40, R41). A VOID row is sent blank, counts nothing and flags nothing (R44). Two events that one
pulse reaches in a PRINTED band are taken in turn, the second as the first has left the buffer and the blanking: under blanking, and with
depth 0, 1 or more (R39). The last row event of a band, PRINTED or VOID, does the same and makes it TRAVELLING and RE BETWEEN (R42), or,
where an end is pending or the segment is complete, reports the segment PRINTED (R42, R45, R46, R48, R50). A completed segment with a
drain pending is OK by log entry 14; a VOID band under an END NOW keeps its counts by log entry 30; that the lines come with the pulse is
log entry 31; that the PRINTED status has DETAIL 0 is log entry 32; that TR is READING while the PRINTED write is outstanding is log
entry 61. -/
def Obligations.RowEvents : Prop :=
  ∀ (l : Lines) (g : Segment) (c : BandContext) (b : Band) (s : State), s.pins.powerGood = true →
    s.re.raster = .printing → s.re.seg = some g → s.re.band = some c → s.bt.track = [b] → b.number = c.number → b.c = none →
    b.state = .printing → s.bt.splices = [] →
    s.dc.line = .running ∨ s.dc.line = .draining →
    let pos := s.bt.pos.paper.advance s.cfg.scale.paper
    let ready := l.head.present ≠ 0 ∧ l.head.present &&& ~~~l.head.ready = 0
    let u : State := { sampleLines l s with dc.silence := encPut s.dc.silence .paper 0, bt.pos := { s.bt.pos with paper := pos }, out := [] }
    let prof := (s.ps.slots.get g.slot).prof
    let blank : BandContext → Output := fun c => .headRow (List.replicate g.width ⟨0, 0, 0, 0⟩) (markPart g c)
    let full : BandContext → RowSlot → Output := fun c x => .headRow (rowLevels prof b.g x.repeatRow 0 x.words) (markPart g c)
    let clip : Nat → RowSlot → Nat := fun n x => min 65535 (n + rowClips prof x.words)
    let row := s.re.slots.headD { band := 0, row := 0, repeatRow := 0, words := [], complete := false }
    let c1 : BandContext := { c with next := c.next + 1 }
    let under := c.kind = .printed ∧ c.blank = false ∧ s.re.depth = 0
    let used := c.kind = .printed ∧ c.blank = false ∧ s.re.depth ≠ 0
    let after : Band :=
      if c.kind = .void then b
      else if c.blank = true then { b with lost := b.lost + 1 }
      else if s.re.depth = 0 then { b with lost := b.lost + 1, flags := b.flags ||| 0x001#12 }
      else if ready then { b with fired := b.fired + 1, clip := clip b.clip row }
      else { b with lost := b.lost + 1, flags := b.flags ||| 0x002#12 }
    let sent : List Output := if ¬ready ∨ under then [] else if used then [full c row] else [blank c]
    let ns : List Notice := if under then [.underrun] else []
    let counts : State → Raster := fun t => { s.re with
      fullWait := false, slots := t.re.slots, fetchBand := t.re.fetchBand, fetchRow := t.re.fetchRow,
      lowWater := if used ∧ s.re.depth ≤ 2 then min 4294967295 (s.re.lowWater + 1) else s.re.lowWater,
      underruns := if under then min 4294967295 (s.re.underruns + 1) else s.re.underruns }
    let buffer : State → Prop := fun t =>
      (c.kind = .void ∨ c.blank = true → t.re.slots = s.re.slots) ∧
      (used → ∃ more, t.re.slots = s.re.slots.tail ++ more ∧ ∀ x ∈ more, x.complete = false) ∧
      (under → ∃ more, t.re.slots = s.re.slots.filter (fun x => x.band ≠ c.index) ++ more ∧
        ∀ x ∈ more, x.complete = false ∧ c.index < x.band)
    let still : State → Prop := fun t =>
      c.kind = .void ∨ c.blank = true → t.re.fetchBand = s.re.fetchBand ∧ t.re.fetchRow = s.re.fetchRow
    c.l0 + c.next * c.p ≤ pos.nm → pos.nm ≤ b.l0 + s.cfg.dpm * 1000000 + s.halfWindow →
    (c.next + 1 < g.bandRows → pos.nm < c.l0 + (c.next + 1) * c.p →
      ∃ t, exec (.encoderPulse .paper true l) s = .next t ∧ Frame [.re, .bt] ns u t ∧ SameTransfers s t ∧ t.out = sent ∧
        t.bt = { u.bt with track := [after] } ∧ buffer t ∧ still t ∧
        t.re = { counts t with band := some { c1 with blank := c.blank || decide under } }) ∧
    (c.kind = .printed → c.next + 2 < g.bandRows → c.l0 + (c.next + 1) * c.p ≤ pos.nm → pos.nm < c.l0 + (c.next + 2) * c.p →
      let two : Band → List Output → List Notice → Bool → Nat → Prop := fun b' sent ns dark low =>
        ∃ t, exec (.encoderPulse .paper true l) s = .next t ∧ Frame [.re, .bt] ns u t ∧ SameTransfers s t ∧ t.out = sent ∧
          t.bt = { u.bt with track := [b'] } ∧ t.re.raster = .printing ∧ t.re.seg = some g ∧ t.re.ending = s.re.ending ∧
          t.re.band = some { c with next := c.next + 2, blank := dark } ∧
          t.re.lowWater = (if low = 0 then s.re.lowWater else min 4294967295 (s.re.lowWater + low)) ∧
          t.re.underruns = if ns = [] then s.re.underruns else min 4294967295 (s.re.underruns + 1)
      (c.blank = true → two { b with lost := b.lost + 2 } (if ready then [blank c, blank c1] else []) [] true 0) ∧
      (c.blank = false → s.re.depth = 0 →
        two { b with lost := b.lost + 2, flags := b.flags ||| 0x001#12 } (if ready then [blank c1] else []) [.underrun] true 0) ∧
      (c.blank = false → s.re.depth = 1 →
        (ready →
          two { b with fired := b.fired + 1, clip := clip b.clip row, lost := b.lost + 1, flags := b.flags ||| 0x001#12 }
            [full c row] [.underrun] true 1) ∧
        (¬ready → two { b with lost := b.lost + 2, flags := b.flags ||| 0x003#12 } [] [.underrun] true 1)) ∧
      (∀ (x y : RowSlot) (more : List RowSlot), c.blank = false → s.re.slots = x :: y :: more → x.complete = true → y.complete = true →
        (ready → two { b with fired := b.fired + 2, clip := clip (clip b.clip x) y } [full c x, full c1 y] [] false (4 - s.re.depth)) ∧
        (¬ready → two { b with lost := b.lost + 2, flags := b.flags ||| 0x002#12 } [] [] false (4 - s.re.depth)))) ∧
    (c.next + 1 = g.bandRows → s.re.ending = .none → g.count = 0 ∨ g.created < g.count → pos.nm < s.re.printEnd →
      ∃ t, exec (.encoderPulse .paper true l) s = .next t ∧ Frame [.tr, .re, .bt] ns u t ∧ t.out = sent ∧
        t.bt = { u.bt with track := [{ after with state := .travelling }] } ∧ buffer t ∧ still t ∧
        t.re = { counts t with raster := .between, band := none } ∧ t.tr.pollRunning = true) ∧
    (∀ e : Tally, c.next + 1 = g.bandRows → s.re.ending ≠ .none ∨ (g.count ≠ 0 ∧ g.created = g.count) → SegmentHeld g e s →
      let cause : EndCause := if g.count ≠ 0 ∧ g.created = g.count then .ok else if s.re.ending = .drain then .short
        else if g.count = 0 then .ok else .short
      ∃ t, exec (.encoderPulse .paper true l) s = .next t ∧ Frame [.tr, .re, .bt] ns u t ∧ t.out = sent ∧ still t ∧
        PrintedReport g cause [{ after with state := .travelling }] { u with re := counts t } t)

/-- A splice pulse at P has the nip position P + F_n. It is appended while fewer than 4 are stored and otherwise lost with overflow
set; in both cases every record whose drum span holds that position gets SPLICE, a span with c unresolved being taken with c = 0 and
widened at both ends by the mark window (R14, R15). -/
def Obligations.SplicePulse : Prop :=
  ∀ s : State, s.pins.powerGood = true →
    let nip : Nat := s.bt.pos.paper.nm + s.cfg.fn * 1000000
    let h : Int := s.cfg.markWindow * 1000
    let hit : Band → Prop := fun b =>
      (b.l0 : Int) + s.cfg.dpn * 1000000 + b.c.getD (-h) ≤ nip ∧ (nip : Int) ≤ b.l0 + b.len + s.cfg.dpn * 1000000 + b.c.getD h
    ∃ t, exec .splicePulse s = .next t ∧
      Becomes { s with out := [], bt.track := t.bt.track, bt.splices := t.bt.splices, bt.overflow := t.bt.overflow } [] t ∧
      (s.bt.splices.length < 4 → t.bt.splices = s.bt.splices ++ [nip] ∧ t.bt.overflow = s.bt.overflow) ∧
      (4 ≤ s.bt.splices.length → t.bt.splices = s.bt.splices ∧ t.bt.overflow = true) ∧
      t.bt.track.length = s.bt.track.length ∧
      ∀ (i : Nat) (b : Band), s.bt.track[i]? = some b →
        (hit b → t.bt.track[i]? = some { b with flags := b.flags ||| 0x080#12 }) ∧ (¬hit b → t.bt.track[i]? = some b)

/-- A read with every mark resolved, or before the expected window, or inside it and a repeat of the last mark, is a stray: one more
stray, one more mark error unless the source is MISSED, COUNTER raised by the error that makes 65,535, and nothing else (R140, R144,
R148). A read past the window end makes the expected mark MISSED and is judged again against the next one: it is a stray where no other
is unresolved, and with two bands it can be the second's mark, FOUND after one miss (R140, R143). A read inside the window of the one
unresolved band, no repeat, with check OK and that band's code is FOUND: c is the error clamped to ±h; the third in SEARCH or LOST makes
LOCKED, with LOCK in edge mode BOTH; while LOCKED C_cur becomes the error (R141, R145, R146, R147). With another code, or check BAD, it
is a MISMATCH: flag, c = C_cur, an error unless the source is MISSED (R142, R148). A paper pulse that passes the window end of the one
band, unresolved and TRAVELLING, is MISSED: flag, c = C_cur, an error unless the source is MISMATCH (R143, R148). A fourth miss in LOCKED
goes to LOST and raises LOCK (R145, R147). The runs are held at 3 and 4 by log entry 22. That the input lines come with the command is
log entry 31. -/
def Obligations.MarkReads : Prop :=
  ∀ s : State, s.pins.powerGood = true → s.mr.errors ≤ 65535 →
    let h : Int := s.cfg.markWindow * 1000
    let wide : Nat := (if s.mr.lock = .search then 4 else 1) * (s.cfg.markWindow * 1000)
    let x : Band → Nat := fun b => b.l0 + s.cfg.dpm * 1000000
    let lose := s.mr.lock = .locked ∧ 3 ≤ s.mr.miss
    let missed : Marks := { s.mr with lock := if lose then .lost else s.mr.lock, found := 0,
                                      miss := if lose then 0 else min 4 (s.mr.miss + 1) }
    let errs : CounterSource → Nat := fun no =>
      if s.cfg.counterSource = no then s.mr.errors else min 65535 (s.mr.errors + 1)
    let notes : CounterSource → List Notice := fun no => if s.cfg.counterSource ≠ no ∧ s.mr.errors = 65534 then [.counter] else []
    (∀ (code : Byte) (ok : Bool) (position : Nat),
      let again := ok = true ∧ ∃ r ∈ s.mr.lastRead,
        code.toNat = r.number % 256 ∧ r.x ≤ position + wide ∧ position ≤ r.x + wide
      ((∀ b ∈ s.bt.track, b.c ≠ none) ∨ (∃ b ∈ s.bt.track.find? (fun r => r.c.isNone), position + wide < x b) ∨
          (again ∧ ∃ b ∈ s.bt.track.find? (fun r => r.c.isNone), x b ≤ position + wide ∧ position ≤ x b + wide) →
        ∃ t, exec (.markRead code ok position) s = .next t ∧
          Becomes { s with out := [], mr.strays := min 4294967295 (s.mr.strays + 1), mr.errors := errs .missed } (notes .missed) t) ∧
      (∀ b : Band, s.bt.track.find? (fun r => r.c.isNone) = some b → (∀ r ∈ s.bt.track, r.c = none → r.number = b.number) →
        x b + wide < position →
        let n := (if s.cfg.counterSource = .mismatch then 0 else 1) + if s.cfg.counterSource = .missed then 0 else 1
        ∃ t, exec (.markRead code ok position) s = .next t ∧
          Frame [.bt, .mr] ((if lose then [.lock] else []) ++
            if s.mr.errors < 65535 ∧ 65535 ≤ s.mr.errors + n then [.counter] else []) s t ∧ SameTransfers s t ∧
          t.bt = { s.bt with track := s.bt.track.map (fun r =>
            if r.c = none then { r with c := some s.mr.ccur, flags := r.flags ||| 0x100#12 } else r) } ∧
          t.mr = { missed with strays := min 4294967295 (s.mr.strays + 1), errors := min 65535 (s.mr.errors + n) }) ∧
      (∀ b r : Band, s.bt.track = [b, r] → b.c = none → r.c = none → b.number ≠ r.number → x b + wide < position →
        x r ≤ position + wide → position ≤ x r + wide → ok = true → code.toNat = r.number % 256 → ¬again →
        let e : Int := max (-h) (min (position - x r) h)
        ∃ t, exec (.markRead code ok position) s = .next t ∧
          Frame [.bt, .mr] ((if lose then [.lock] else []) ++ notes .mismatch) s t ∧ SameTransfers s t ∧
          t.bt = { s.bt with track := [{ b with c := some s.mr.ccur, flags := b.flags ||| 0x100#12 }, { r with c := some e }] } ∧
          t.mr = { missed with found := 1, miss := 0, errors := errs .mismatch,
                               ccur := if s.mr.lock = .locked ∧ ¬lose then e else s.mr.ccur,
                               lastRead := some ⟨r.number, x r⟩ }) ∧
      (∀ b : Band, s.bt.track.find? (fun r => r.c.isNone) = some b → (∀ r ∈ s.bt.track, r.c = none → r.number = b.number) →
        x b ≤ position + wide → position ≤ x b + wide → ¬again →
        (ok = true → code.toNat = b.number % 256 →
          let e : Int := max (-h) (min (position - x b) h)
          let lock := s.mr.lock ≠ .locked ∧ 2 ≤ s.mr.found
          ∃ t, exec (.markRead code ok position) s = .next t ∧
            Frame [.bt, .mr] (if lock ∧ s.cfg.lockEdge = .both then [.lock] else []) s t ∧ SameTransfers s t ∧
            t.bt = { s.bt with track := s.bt.track.map (fun r => if r.c = none then { r with c := some e } else r) } ∧
            t.mr = { s.mr with lock := if lock then .locked else s.mr.lock, found := if lock then 0 else min 3 (s.mr.found + 1),
                               miss := 0, ccur := if lock ∨ s.mr.lock = .locked then e else s.mr.ccur,
                               lastRead := some ⟨b.number, x b⟩ }) ∧
        (ok = false ∨ code.toNat ≠ b.number % 256 →
          ∃ t, exec (.markRead code ok position) s = .next t ∧
            Frame [.bt, .mr] ((if lose then [.lock] else []) ++ notes .missed) s t ∧ SameTransfers s t ∧
            t.bt = { s.bt with track := s.bt.track.map (fun r =>
              if r.c = none then { r with c := some s.mr.ccur, flags := r.flags ||| 0x200#12 } else r) } ∧
            t.mr = { missed with errors := errs .missed, lastRead := some ⟨b.number, x b⟩ }))) ∧
    (∀ (l : Lines) (b : Band), s.rasterIdle → s.bt.track = [b] → b.c = none → b.state = .travelling → s.bt.splices = [] →
      let pos := s.bt.pos.paper.advance s.cfg.scale.paper
      x b + wide < pos.nm → (pos.nm : Int) < b.l0 + (b.len / 2 : Nat) + s.cfg.dpn * 1000000 + s.mr.ccur →
      ∃ t, exec (.encoderPulse .paper true l) s = .next t ∧
        Becomes { sampleLines l s with
          out := [], dc.silence := encPut s.dc.silence .paper 0, bt.pos := { s.bt.pos with paper := pos },
          bt.track := [{ b with c := some s.mr.ccur, flags := b.flags ||| 0x100#12 }],
          mr := { missed with errors := errs .mismatch } } ((if lose then [.lock] else []) ++ notes .mismatch) t)

/-- LOCK_ACQUIRED: a found run of 3 in SEARCH or LOST (here with every mark resolved) makes LOCKED with both runs 0, and raises LOCK
in edge mode BOTH alone. LOCK_LOST: a miss run of 4 in LOCKED makes LOST with both runs 0 and raises LOCK in either mode. DRIFT_SET at
a fail run of 3 sets drift and raises DRIFT; DRIFT_CLEAR at a pass run of 16 clears it and raises DRIFT in edge mode BOTH alone; both
drift runs become 0. None acts below its run (R145, R147, R162, R163). That these are the guarded tests of the events that reach the
runs is log entry 17. -/
def Obligations.LockAndDriftChanges : Prop :=
  ∀ s : State, s.pins.powerGood = true →
    (s.mr.lock ≠ .locked → s.mr.found = 3 → (∀ b ∈ s.bt.track, b.c ≠ none) →
      ∃ t, exec .lockAcquired s = .next t ∧
        Becomes { s with out := [], mr.lock := .locked, mr.found := 0, mr.miss := 0 }
          (if s.cfg.lockEdge = .both then [.lock] else []) t) ∧
    (s.mr.lock = .locked ∨ s.mr.found < 3 →
      ∃ t, exec .lockAcquired s = .next t ∧ Becomes { s with out := [] } [] t) ∧
    (s.mr.lock = .locked → s.mr.miss = 4 →
      ∃ t, exec .lockLost s = .next t ∧ Becomes { s with out := [], mr.lock := .lost, mr.found := 0, mr.miss := 0 } [.lock] t) ∧
    (s.mr.lock ≠ .locked ∨ s.mr.miss < 4 →
      ∃ t, exec .lockLost s = .next t ∧ Becomes { s with out := [] } [] t) ∧
    (s.cv.drift = false → s.cv.failRun = 3 →
      ∃ t, exec .driftSet s = .next t ∧
        Becomes { s with out := [], cv.drift := true, cv.failRun := 0, cv.passRun := 0 } [.drift] t) ∧
    (s.cv.drift = true ∨ s.cv.failRun < 3 → ∃ t, exec .driftSet s = .next t ∧ Becomes { s with out := [] } [] t) ∧
    (s.cv.drift = true → s.cv.passRun = 16 →
      ∃ t, exec .driftClear s = .next t ∧
        Becomes { s with out := [], cv.drift := false, cv.failRun := 0, cv.passRun := 0 }
          (if s.cfg.driftEdge = .both then [.drift] else []) t) ∧
    (s.cv.drift = false ∨ s.cv.passRun < 16 → ∃ t, exec .driftClear s = .next t ∧ Becomes { s with out := [] } [] t)

/-- BAND_START with every condition of R36 met: the record is appended at the tail with the counter's number, L0 = P, the row pitch of
R37 and its starting values; the counter, the tally, bands created, print end and last band started follow; RE is PRINTING with row 1
next and the poll timer stops. Row 0 comes at once: of a PRINTED band its first row is consumed, and sent and counted fired, or, with a
head link not ready, counted lost with HEAD_MISS; a VOID band, which needs no row, sends a blank one and counts nothing (R39, R40, R44).
A full track counts one gap per wait and changes nothing else; with a condition of R36 unmet nothing starts (R4, R5, R36, R37, R38). That
the lines come with the command is log entry 31. -/
def Obligations.BandStart : Prop :=
  ∀ (l : Lines) (g : Segment) (s : State), s.pins.powerGood = true → s.re.seg = some g →
    let u := sampleLines l s
    let may := (s.re.raster = .priming ∨ s.re.raster = .between) ∧ s.re.ending = .none ∧ (g.count = 0 ∨ g.created < g.count) ∧
      s.dc.line = .running ∧ s.re.printEnd ≤ s.bt.pos.paper.nm ∧ (g.created ∈ g.voids ∨ s.cfg.leadRows ≤ s.re.depth)
    let p := s.cfg.pnom * (10000 + s.dc.stretch) / 10000
    (may → s.bt.track.length < 96 → s.bt.nextNumber ≤ 4294967295 → 2 ≤ g.bandRows → 2 ≤ s.cfg.leadRows →
      (∀ b ∈ s.bt.track, b.number < s.bt.nextNumber) →
      let ready := l.head.present ≠ 0 ∧ l.head.present &&& ~~~l.head.ready = 0
      let kind : BandKind := if g.created ∈ g.voids then .void else .printed
      let row := s.re.slots.headD { band := 0, row := 0, repeatRow := 0, words := [], complete := false }
      let prof := (s.ps.slots.get g.slot).prof
      ∃ t b, exec (.bandStart l) s = .next t ∧ Frame [.tr, .re, .bt] [] u t ∧
        t.bt.track = s.bt.track ++ [b] ∧ t.bt.nextNumber = s.bt.nextNumber + 1 ∧ b.number = s.bt.nextNumber ∧ b.tally = g.tally ∧
        b.index = g.created ∧ b.kind = kind ∧ b.slot = g.slot ∧ b.p = p ∧ b.l0 = s.bt.pos.paper.nm ∧ b.len = g.bandRows * p ∧
        b.s = s.dc.stretch ∧ b.firstRow = (g.first + g.created * g.bandRows) % g.rows ∧ b.po = g.patch * 1000000 ∧
        b.state = .printing ∧
        b.flags = (if kind = .printed ∧ ¬ready then 0x002#12 else 0) ∧ b.fired = (if kind = .printed ∧ ready then 1 else 0) ∧
        b.lost = (if kind = .printed ∧ ¬ready then 1 else 0) ∧
        b.clip = (if kind = .printed ∧ ready then min 65535 (rowClips prof row.words) else 0) ∧ b.samples = 0 ∧ b.c = none ∧ b.meas = none ∧
        b.trailing = false ∧ b.verdict = none ∧ t.re.raster = .printing ∧ t.re.seg = some { g with created := g.created + 1 } ∧
        t.re.printEnd = b.l0 + b.len ∧ t.re.lastStarted = b.number ∧ t.re.fullWait = false ∧ t.tr.pollRunning = false ∧
        (let c : BandContext := { number := b.number, index := b.index, kind := kind, l0 := b.l0, p := p, next := 0, blank := false }
         t.re.band = some { c with next := 1 } ∧
         t.out = if ready then [.headRow (if kind = .void then List.replicate g.width ⟨0, 0, 0, 0⟩
             else rowLevels prof b.g row.repeatRow 0 row.words) (markPart g c)] else []) ∧
        (kind = .void → t.re.slots = s.re.slots) ∧
        (kind = .printed → ∃ more, t.re.slots = s.re.slots.tail ++ more ∧ ∀ x ∈ more, x.complete = false) ∧
        t.bt.tallies = s.bt.tallies.map (fun e =>
          if e.id = g.tally then { e with created := e.created + 1, inTrack := e.inTrack + 1, stale := true } else e)) ∧
    (may → 96 ≤ s.bt.track.length ∨ 4294967295 < s.bt.nextNumber →
      ∃ t, exec (.bandStart l) s = .next t ∧
        Becomes { u with out := [], re.fullWait := true,
                         re.gaps := if s.re.fullWait then s.re.gaps else min 4294967295 (s.re.gaps + 1) } [] t) ∧
    (¬may → ∃ t, exec (.bandStart l) s = .next t ∧
      Becomes { u with out := [], re.fullWait := false } [] t)

/-- ROW_ARRIVED: the last words of the oldest row that is not complete arrive and its slot is complete; with the line not RUNNING no
band starts from it (R33). That the input lines come with the command is log entry 31. -/
def Obligations.RowArrived : Prop :=
  ∀ (ws : List Word) (g : Segment) (x : RowSlot) (done rest : List RowSlot) (n : Nat) (l : Lines) (s : State), s.pins.powerGood = true →
    s.smp.grant = some { client := .row, words := n, dropped := false } → s.re.seg = some g → s.re.slots = done ++ x :: rest →
    (∀ y ∈ done, y.complete = true) → x.complete = false → x.words.length < g.width →
    g.width ≤ x.words.length + min ws.length n → s.dc.line ≠ .running →
    let u := sampleLines l s
    ∃ t, exec (.rowArrived ws l) s = .next t ∧
      Becomes { u with out := [], re.fullWait := false,
                       re.slots := done ++ { x with words := x.words ++ ws.take n, complete := true } :: rest } [] t

/-! ## Calender heat and dose -/

/-- A heat sample's readings and zone states, in every state: a channel value in 0..2600 without fault is the reading, any other is
none; a REGULATE zone without a reading goes LOST with duty and I 0 and valid run 0, its effective setpoint held; a LOST zone counts
valid readings and at the 20th returns to REGULATE from its reading; OFF zones and targets stay (R87, R96, R97). -/
def Obligations.HeatReadings : Prop :=
  ∀ (ch : Oct Channel) (s : State), s.pins.powerGood = true →
    ∃ t, exec (.heatSample ch) s = .next t ∧ ∀ i : Fin 8,
      let c := ch.get i
      let b := s.hc.zones.get i
      let z := t.hc.zones.get i
      (c.fault = false → c.value.toNat ≤ 2600 → z.reading = some c.value.toNat) ∧
      (c.fault = true ∨ 2600 < c.value.toNat → z.reading = none) ∧ z.target = b.target ∧ z.enable = b.enable ∧
      (b.state = .off → z.state = .off ∧ z.eff = b.eff ∧ z.validRun = b.validRun) ∧
      (b.state = .regulate → z.reading = none → z.state = .lost ∧ z.eff = b.eff ∧ z.duty = 0 ∧ z.integral = 0 ∧ z.validRun = 0) ∧
      (b.state = .regulate → z.reading ≠ none → z.state = .regulate ∧ z.eff = b.eff ∧ z.validRun = b.validRun) ∧
      (b.state = .lost → z.reading = none → z.state = .lost ∧ z.eff = b.eff ∧ z.validRun = 0) ∧
      (b.state = .lost → b.validRun < 19 → z.reading ≠ none → z.state = .lost ∧ z.eff = b.eff ∧ z.validRun = b.validRun + 1) ∧
      (b.state = .lost → 19 ≤ b.validRun → ∀ r, z.reading = some r → z.state = .regulate ∧ z.eff = min r 2300 ∧ z.validRun = 0)

/-- The over-temperature tests, in every state: the drum becomes TRIPPED exactly when it was not and, after the sample's readings, a
REGULATE zone exceeds its effective setpoint + 150 or any reading exceeds 2450; every duty and I is then 0, and a line that can make a
fast stop is STOPPING FAST with TR's pause requested, any other line being left alone (R100, R119). That a line stopped in STARTING with
the reference at 0 (as right after RUN) stays STOPPING FAST until the next test is log entry 47. -/
def Obligations.HeatTrip : Prop :=
  ∀ (ch : Oct Channel) (s : State), s.pins.powerGood = true →
    ∃ t, exec (.heatSample ch) s = .next t ∧
      let hot := ∃ z ∈ t.hc.zones.toList, ∃ r, z.reading = some r ∧ ((z.state = .regulate ∧ z.eff + 150 < r) ∨ 2450 < r)
      (s.hc.drum ≠ .tripped → (t.hc.drum = .tripped ↔ hot)) ∧ (s.hc.drum = .tripped → t.hc.drum = .tripped) ∧
      (t.hc.drum = .tripped → ∀ z ∈ t.hc.zones.toList, z.duty = 0 ∧ (s.hc.drum ≠ .tripped → z.integral = 0)) ∧
      (s.hc.drum ≠ .tripped → hot → s.stoppable → t.dc.line = .stopping ∧ t.dc.stopKind = .fast ∧ t.tr.pauseReq = true) ∧
      (s.hc.drum = .tripped ∨ ¬hot ∨ ¬s.stoppable → t.dc = s.dc ∧ t.tr = s.tr ∧ t.re = s.re)

/-- The regulation stage for a sample that finds no trip: each REGULATE zone's I moves by Ki × e within 0..256,000, except where the
last duty stood at the limit that e pushes it to, and its duty is floor(Kp × e / 16) + floor(I / 256) within 0..1000; other zones have
duty 0 (R94). -/
def Obligations.HeatRegulation : Prop :=
  ∀ (ch : Oct Channel) (s : State), s.pins.powerGood = true →
    ∃ t, exec (.heatSample ch) s = .next t ∧ (t.hc.drum ≠ .tripped → ∀ i : Fin 8,
      let b := s.hc.zones.get i
      let z := t.hc.zones.get i
      (z.state ≠ .regulate → z.duty = 0) ∧
      (∀ r, z.reading = some r → z.state = .regulate →
        let e : Int := z.eff - r
        let before : Nat := if b.state = .regulate then b.integral else 0
        ((b.duty = 1000 ∧ 0 < e) ∨ (b.duty = 0 ∧ e < 0) → z.integral = before) ∧
        (¬((b.duty = 1000 ∧ 0 < e) ∨ (b.duty = 0 ∧ e < 0)) →
          (z.integral : Int) = max 0 (min (before + s.hc.ki * e) 256000)) ∧
        (z.duty : Int) = max 0 (min (Int.fdiv (s.hc.kp * e) 16 + z.integral / 256) 1000)))

/-- The dose law and the drum's judgement at a sample that finds no trip, or that finds the drum TRIPPED already: with the nip CLOSED
every band ON_DRUM gets one more sample, 5 × max(0, T − Ton) from each enabled REGULATE zone, and from each enabled LOST zone the mask
bit and ZONE_LOST; no other band and, with the nip elsewhere, none changes (R102, R105, R106). COLD and TRIPPED keep their settle count;
HEATING and DEVIATION count a sample at which every enabled zone is in REGULATE within 30 of its target and become AT_TEMP at 200;
AT_TEMP becomes DEVIATION when an enabled zone is LOST or more than 80 off (R98, R99). -/
def Obligations.DoseAndSettling : Prop :=
  ∀ (ch : Oct Channel) (s : State), s.pins.powerGood = true →
    ∃ t, exec (.heatSample ch) s = .next t ∧ (s.hc.drum = .tripped ∨ t.hc.drum ≠ .tripped →
      let on : Zone → Prop := fun z => z.enable = true ∧ 1 ≤ z.target
      let near : Nat → Zone → Prop := fun d z => ∃ r, z.reading = some r ∧ r ≤ z.target + d ∧ z.target ≤ r + d
      Frame [.hc, .bt] (if t.hc.drum = s.hc.drum then [] else [.drum]) s t ∧ SameTransfers s t ∧
      t.bt = { s.bt with track := s.bt.track.map (fun b =>
        if s.dc.nip = .closed ∧ b.state = .onDrum then
          { b with
            samples := min 4294967295 (b.samples + 1),
            doses := Oct.ofFn (fun i =>
              let z := t.hc.zones.get i
              match z.reading with
              | some r => if on z ∧ z.state = .regulate then min 4294967295 (b.doses.get i + 5 * (r - s.hc.ton))
                else min 4294967295 (b.doses.get i)
              | none => min 4294967295 (b.doses.get i)),
            lostZones := Oct.ofFn (fun i =>
              b.lostZones.get i || decide (on (t.hc.zones.get i) ∧ (t.hc.zones.get i).state = .lost)),
            flags := if ∃ z ∈ t.hc.zones.toList, on z ∧ z.state = .lost then b.flags ||| 0x010#12 else b.flags }
        else b) } ∧
      (s.hc.drum = .cold ∨ s.hc.drum = .tripped → t.hc.drum = s.hc.drum ∧ t.hc.settle = s.hc.settle) ∧
      (s.hc.drum = .heating ∨ s.hc.drum = .deviation →
        ((∀ z ∈ t.hc.zones.toList, on z → z.state = .regulate ∧ near 30 z) →
          t.hc.settle = min 200 (s.hc.settle + 1) ∧ t.hc.drum = if 199 ≤ s.hc.settle then .atTemp else s.hc.drum) ∧
        (¬(∀ z ∈ t.hc.zones.toList, on z → z.state = .regulate ∧ near 30 z) → t.hc.settle = 0 ∧ t.hc.drum = s.hc.drum)) ∧
      (s.hc.drum = .atTemp →
        ((∃ z ∈ t.hc.zones.toList, on z ∧ (z.state = .lost ∨ (z.reading ≠ none ∧ ¬near 80 z))) →
          t.hc.drum = .deviation ∧ t.hc.settle = 0) ∧
        (¬(∃ z ∈ t.hc.zones.toList, on z ∧ (z.state = .lost ∨ (z.reading ≠ none ∧ ¬near 80 z))) →
          t.hc.drum = .atTemp ∧ t.hc.settle = s.hc.settle)))

/-- RAMP_STEP moves the effective setpoint of every zone in REGULATE toward its target by at most the ramp rate and never past it;
zones OFF or LOST are not stepped, and none is while the drum is TRIPPED (R92). -/
def Obligations.RampStep : Prop :=
  ∀ s : State, s.pins.powerGood = true →
    ∃ t, exec .rampStep s = .next t ∧ Becomes { s with out := [], hc.zones := t.hc.zones } [] t ∧
      (s.hc.drum = .tripped → t.hc.zones = s.hc.zones) ∧
      (s.hc.drum ≠ .tripped → ∀ i : Fin 8,
        let z := s.hc.zones.get i
        (z.state ≠ .regulate → t.hc.zones.get i = z) ∧
        (z.state = .regulate → z.eff < z.target → t.hc.zones.get i = { z with eff := min z.target (z.eff + s.hc.ramp) }) ∧
        (z.state = .regulate → z.target < z.eff →
          ∃ e : Nat, (e : Int) = max (z.target : Int) (z.eff - s.hc.ramp) ∧ t.hc.zones.get i = { z with eff := e }) ∧
        (z.state = .regulate → z.eff = z.target → t.hc.zones.get i = z))

/-- ZONE_RECOVERY enters a LOST zone whose valid run stands at 20 into REGULATE from its reading, and DRUM_SETTLED makes a HEATING or
DEVIATION drum with settle count 200 AT_TEMP; neither acts otherwise (R97, R98). The sample that brings the count there makes the
same change itself (log entry 17). -/
def Obligations.DrumAndZones : Prop :=
  ∀ s : State, s.pins.powerGood = true →
    (∀ (i : Fin 8) (r : Nat), (s.hc.zones.get i).state = .lost → (s.hc.zones.get i).reading = some r →
      20 ≤ (s.hc.zones.get i).validRun →
      ∃ t, exec (.zoneRecovery i) s = .next t ∧
        Becomes { s with out := [], hc.zones := s.hc.zones.set i { s.hc.zones.get i with
                           state := .regulate, eff := min r 2300, integral := 0, validRun := 0 } } [] t) ∧
    (∀ i : Fin 8, (s.hc.zones.get i).state ≠ .lost ∨ (s.hc.zones.get i).validRun < 20 →
      ∃ t, exec (.zoneRecovery i) s = .next t ∧ Becomes { s with out := [] } [] t) ∧
    (s.hc.drum = .heating ∨ s.hc.drum = .deviation → s.hc.settle = 200 →
      ∃ t, exec .drumSettled s = .next t ∧ Becomes { s with out := [], hc.drum := .atTemp } [.drum] t) ∧
    (s.hc.drum = .cold ∨ s.hc.drum = .atTemp ∨ s.hc.drum = .tripped ∨ s.hc.settle < 200 →
      ∃ t, exec .drumSettled s = .next t ∧ Becomes { s with out := [] } [] t)

/-! ## Line drive, tension and nip -/

/-- The speed reference at a tension sample, in every state, by the table of R112, and what goes out on the drive link: the reference,
and demands of 0 while the loops are off (R112, R126). That the input lines come with the sample and are kept is log entry 31. -/
def Obligations.TensionReference : Prop :=
  ∀ (cells : Webs LoadCell) (l : Lines) (s : State), s.pins.powerGood = true →
    ∃ t d, exec (.tensionSample cells l) s = .next t ∧ t.out.getLast? = some (.drive t.dc.ref d) ∧
      (t.dc.line.moving = false → d = ⟨0, 0, 0⟩) ∧ t.pins = (sampleLines l s).pins ∧
      (s.dc.line = .stopped ∨ s.dc.line = .tripped ∨ s.dc.line = .powerHeld → t.dc.ref = 0) ∧
      (s.dc.line = .starting ∨ s.dc.line = .running ∨ s.dc.line = .draining →
        (s.dc.ref ≤ s.dc.setpoint * 1000 → t.dc.ref = min (s.dc.setpoint * 1000) (s.dc.ref + s.dc.accel * 5)) ∧
        (s.dc.setpoint * 1000 < s.dc.ref → (t.dc.ref : Int) = max (s.dc.setpoint * 1000) (s.dc.ref - s.dc.accel * 5))) ∧
      (s.dc.line = .stopping → s.dc.stopKind = .normal → s.dc.nip ≠ .opened → t.dc.ref = s.dc.ref) ∧
      (s.dc.line = .stopping → s.dc.stopKind = .normal → s.dc.nip = .opened →
        (t.dc.ref : Int) = max 0 (s.dc.ref - s.dc.accel * 5)) ∧
      ((s.dc.line = .stopping ∧ s.dc.stopKind = .fast) ∨ s.dc.line = .powerStop →
        (t.dc.ref : Int) = max 0 (s.dc.ref - s.cfg.stopDecel * 5))

/-- The loops at a tension sample in RUNNING or DRAINING with every reading in range and no run reaching the fault time: each web's
tension, integral, demand, peak record and deviation run by R127, R128, R132 and R129 (the FABRIC limit doubled while a splice is in
path), and nothing outside DC changes (R126). That the input lines come with the command is log entry 31. -/
def Obligations.TensionLoops : Prop :=
  ∀ (cells : Webs LoadCell) (l : Lines) (s : State), s.pins.powerGood = true →
    s.dc.line = .running ∨ s.dc.line = .draining →
    (∀ c ∈ cells.toList, c.fault = false ∧ c.count ≠ 0 ∧ c.count ≠ 0xFFFF) →
    (∀ w ∈ s.dc.webs.toList, (w.run + 1) * 5 < s.dc.faultTime) →
    ∃ t, exec (.tensionSample cells l) s = .next t ∧ Frame [.dc] [] (sampleLines l s) t ∧ SameTransfers s t ∧
      t.dc.line = s.dc.line ∧ t.dc.nip = s.dc.nip ∧ t.dc.valve = s.dc.valve ∧ t.dc.stretch = s.dc.stretch ∧
      ∀ id : WebId,
        let w := webOf s.dc.webs id
        let tension : Int := Int.fdiv (((webOf cells id).count.toNat - w.zero) * w.scale) 1024
        let e : Int := w.tset - tension
        let i : Int := max (-500000) (min (w.integral + w.ki * e) 500000)
        let limit : Nat := if id = .fabric ∧ s.bt.splices ≠ [] then 2 * s.dc.devLimit else s.dc.devLimit
        webOf t.dc.webs id = { w with
          tension := tension, inRange := true, integral := i,
          demand := max (-1000) (min (Int.fdiv (w.kp * e) 64 + Int.fdiv i 1024) 1000),
          run := if limit < e.natAbs then w.run + 1 else 0,
          peak := some (match w.peak with
            | none => ⟨tension, tension⟩
            | some p => ⟨max p.hi tension, min p.lo tension⟩) }

/-- A load cell out of range at a tension sample, with no segment TAKEN. In STARTING, RUNNING, DRAINING and STOPPING NORMAL, where the
sample does not itself bring speed 0, TENSION is raised and the line makes a fast stop at once. In STOPPED, TRIPPED and POWER_HELD, and
in STOPPING FAST and POWER_STOP short of speed 0, nothing is raised and the line stays. In every case the web's tension is kept and its
range state shows it (R119, R127, R130). That LINE is not raised where STOPPING NORMAL becomes FAST is log entry 29; that the input lines
come with the command is log entry 31; that a line stopped in STARTING with the reference at 0 (as right after RUN) stays STOPPING FAST
until the next test is log entry 47. -/
def Obligations.SensorFault : Prop :=
  ∀ (cells : Webs LoadCell) (l : Lines) (id : WebId) (s : State), s.pins.powerGood = true →
    (webOf cells id).fault = true ∨ (webOf cells id).count = 0 ∨ (webOf cells id).count = 0xFFFF →
    (s.dc.line = .starting ∨ s.dc.line = .running ∨ s.dc.line = .draining ∨
        (s.dc.line = .stopping ∧ s.dc.stopKind = .normal ∧ s.dc.ref ≠ 0 ∧ (s.dc.nip ≠ .opened ∨ s.dc.accel * 5 < s.dc.ref)) →
      s.rasterIdle →
      ∃ t, exec (.tensionSample cells l) s = .next t ∧ Frame [.tr, .bt, .dc] (.tension :: s.stopNotice) (sampleLines l s) t ∧
        SameTransfers s t ∧ t.bt = s.fastStopped.bt ∧ t.tr = s.fastStopped.tr ∧ t.dc.line = .stopping ∧ t.dc.stopKind = .fast ∧
        (s.dc.line ≠ .starting ∨ s.dc.nip ≠ .opened →
          t.dc.nip = s.fastStopped.dc.nip ∧ t.dc.valve = s.fastStopped.dc.valve) ∧
        (s.dc.nip = .opened → t.dc.nip = .opened ∨ t.dc.nip = .opening) ∧ (webOf t.dc.webs id).inRange = false ∧
        (webOf t.dc.webs id).tension = (webOf s.dc.webs id).tension ∧ (webOf t.dc.webs id).run = 0) ∧
    (s.dc.line = .stopped ∨ s.dc.line = .tripped ∨ s.dc.line = .powerHeld ∨
        (((s.dc.line = .stopping ∧ s.dc.stopKind = .fast) ∨ s.dc.line = .powerStop) ∧ s.cfg.stopDecel * 5 < s.dc.ref) →
      ∃ t, exec (.tensionSample cells l) s = .next t ∧ Frame [.dc] [] (sampleLines l s) t ∧ SameTransfers s t ∧
        t.dc.line = s.dc.line ∧ t.dc.stopKind = s.dc.stopKind ∧ t.dc.nip = s.dc.nip ∧ (webOf t.dc.webs id).inRange = false ∧
        (webOf t.dc.webs id).tension = (webOf s.dc.webs id).tension)

/-- The fast-stop causes that are commands of their own: a web whose run has reached the fault time in RUNNING or DRAINING (raising
TENSION), an encoder silent for the encoder timeout at 50,000 µm/s or above, and a nip move whose travel timer has run out, which also
puts the nip in FAULT with the valve open. Each begins a fast stop where the line can make one; each does nothing where its limit is not
reached (R119, R123, R124, R129, R135). With a segment TAKEN that has a band in the track, firing stops at once: the band in PRINTING is
truncated and TRAVELLING and the segment is reported PRINTED with ABORTED_TRIP (R49, R50, here by a web fault). That a timer row acts
only at its limit is log entry 18; that WEB_FAULT is the guarded test of what the sample has done is log entry 17; that PRINTED
ABORTED_TRIP has DETAIL 0 is log entry 32; that TR is READING while the PRINTED write is outstanding is log entry 61; that LINE is not
raised where STOPPING NORMAL becomes FAST is log entry 29; that a line stopped in STARTING with the reference at 0 (as right after RUN)
stays STOPPING FAST until the next test is log entry 47. -/
def Obligations.FastStopCauses : Prop :=
  ∀ s : State, s.pins.powerGood = true →
    (∀ (w : WebId) (g : Segment) (e : Tally), s.dc.line = .running ∨ s.dc.line = .draining →
      s.dc.faultTime ≤ (webOf s.dc.webs w).run * 5 → SegmentHeld g e s →
      ∃ t, exec (.webFault w) s = .next t ∧ Frame [.tr, .re, .bt, .dc] [.tension, .line] s t ∧ t.out = [] ∧
        PrintedReport g .abortedTrip { s with bt.track := s.cutTrack }.fastStopped.bt.track s t ∧ t.tr.pauseReq = true ∧
        t.dc = s.fastStopped.dc) ∧
    (s.rasterIdle →
    (∀ w : WebId, s.dc.line = .running ∨ s.dc.line = .draining → s.dc.faultTime ≤ (webOf s.dc.webs w).run * 5 →
      ∃ t, exec (.webFault w) s = .next t ∧ Becomes { s.fastStopped with out := [] } (.tension :: s.stopNotice) t) ∧
    (∀ w : WebId, ¬(s.dc.line = .running ∨ s.dc.line = .draining) ∨ (webOf s.dc.webs w).run * 5 < s.dc.faultTime →
      ∃ t, exec (.webFault w) s = .next t ∧ Becomes { s with out := [] } [] t) ∧
    (∀ e : EncoderId, 50000 ≤ s.dc.ref → s.cfg.encoderTimeout ≤ encOf s.dc.silence e → s.stoppable →
      ∃ t, exec (.encoderLoss e) s = .next t ∧ Becomes { s.fastStopped with out := [] } s.stopNotice t) ∧
    (∀ e : EncoderId, s.dc.ref < 50000 ∨ encOf s.dc.silence e < s.cfg.encoderTimeout ∨ ¬s.stoppable →
      ∃ t, exec (.encoderLoss e) s = .next t ∧ Becomes { s with out := [] } [] t) ∧
    (s.dc.nipTimer = some 0 → s.dc.nip = .closing ∨ s.dc.nip = .opening →
      let f : State := { s with out := [], dc.nip := .fault, dc.nipTimer := none, dc.valve := .opening }
      (s.stoppable → ∃ t, exec .nipTravelTimeout s = .next t ∧ Becomes f.fastStopped s.stopNotice t) ∧
      (¬s.stoppable → ∃ t, exec .nipTravelTimeout s = .next t ∧ Becomes f [] t)) ∧
    (s.dc.nipTimer ≠ some 0 → ∃ t, exec .nipTravelTimeout s = .next t ∧ Becomes { s with out := [] } [] t))

/-- LINE_RUNNING: STARTING with the nip CLOSED and the reference at the setpoint enters RUNNING. SPEED_ZERO: the reference at 0 ends a
stop with every web's integral, demand and run 0: STOPPING NORMAL (nip OPEN) in STOPPED, STOPPING FAST in TRIPPED, POWER_STOP in TRIPPED
or, with mains lost, in POWER_HELD. Here no segment is TAKEN and no ticket is at TR. Neither acts otherwise: SPEED_ZERO not with a
reference above 0, and not at 0 in a line state that ends no stop (R112, R115, R117, R119, R121). That the tension sample makes the same
changes itself is log entry 17. That the input lines come with the command is log entry 31. -/
def Obligations.LineRunningAndSpeedZero : Prop :=
  ∀ (l : Lines) (s : State), s.commandable → s.rasterIdle → s.tr.ticket = none →
    let u := sampleLines l s
    (s.dc.line = .starting → s.dc.nip = .closed → s.dc.ref = s.dc.setpoint * 1000 →
      ∃ t, exec (.lineRunning l) s = .next t ∧ Becomes { u with out := [], dc.line := .running, dc.nipHold := 0 } [.line] t) ∧
    (s.dc.line ≠ .starting ∨ s.dc.nip ≠ .closed ∨ s.dc.ref ≠ s.dc.setpoint * 1000 →
      ∃ t, exec (.lineRunning l) s = .next t ∧ Becomes { u with out := [] } [] t) ∧
    (∀ n : LineState, s.dc.ref = 0 →
      (s.dc.line = .stopping ∧ s.dc.stopKind = .normal ∧ s.dc.nip = .opened ∧ n = .stopped) ∨
      (s.dc.line = .stopping ∧ s.dc.stopKind = .fast ∧ n = .tripped) ∨
      (s.dc.line = .powerStop ∧ s.pins.mainsOk = true ∧ n = .tripped) ∨
      (s.dc.line = .powerStop ∧ s.pins.mainsOk = false ∧ n = .powerHeld) →
      ∃ t, exec (.speedZero l) s = .next t ∧
        Becomes { u with out := [], dc.line := n, dc.nipHold := 0,
                         dc.webs := s.dc.webs.map (fun w => { w with integral := 0, demand := 0, run := 0 }) } [.line] t) ∧
    (s.dc.ref ≠ 0 ∨ s.dc.line = .stopped ∨ s.dc.line = .tripped ∨ s.dc.line = .powerHeld ∨ s.dc.line = .starting ∨
        s.dc.line = .running ∨ s.dc.line = .draining ∨ (s.dc.line = .stopping ∧ s.dc.stopKind = .normal ∧ s.dc.nip ≠ .opened) →
      ∃ t, exec (.speedZero l) s = .next t ∧ Becomes { u with out := [] } [] t)

/-- STRETCH_UPDATE stores the present positions and, where the fabric infeed has moved, closes an eighth of the gap to
floor((d_dr − d_in) × 10000 / d_in), floored, within 0..500 (R134). -/
def Obligations.StretchUpdate : Prop :=
  ∀ s : State, s.pins.powerGood = true →
    ∃ t, exec .stretchUpdate s = .next t ∧
      Becomes { s with out := [], dc.stretch := t.dc.stretch, dc.storedIn := s.bt.pos.infeed.nm,
                       dc.storedDr := s.bt.pos.drum.nm } [] t ∧
      let dIn : Int := s.bt.pos.infeed.nm - s.dc.storedIn
      let dDr : Int := s.bt.pos.drum.nm - s.dc.storedDr
      (dIn = 0 → t.dc.stretch = s.dc.stretch) ∧
      (dIn ≠ 0 → (t.dc.stretch : Int) =
        max 0 (min (s.dc.stretch + Int.fdiv ((dDr - dIn) * 10000 / dIn - s.dc.stretch) 8) 500))

/-- A change of the nip switches by the table of R123: the confirming switch alone ends a move, with its timer; both switches, an open
switch lost in OPEN and a closed switch lost in CLOSED make FAULT with the valve open, and in a line state that can make one a fast stop
(R124, here with no segment TAKEN); FAULT stands; every other change only moves the pins. That LINE is not raised where STOPPING NORMAL
becomes FAST is log entry 29; that the levels are judged at the change event is log entry 28; that the input lines come with it is log
entry 31; that a line stopped in STARTING with the reference at 0 (as right after RUN) stays STOPPING FAST until the next test is log
entry 47. -/
def Obligations.NipSwitches : Prop :=
  ∀ (o c : Bool) (l : Lines) (s : State), s.pins.powerGood = true →
    let u : State := { sampleLines l s with out := [], pins.nipOpenSw := o, pins.nipClosedSw := c }
    (s.dc.nip = .fault ∨ (s.dc.nip = .opened ∧ o = true ∧ c = false) ∨ (s.dc.nip = .closed ∧ o = false ∧ c = true) ∨
      (s.dc.nip = .closing ∧ c = false) ∨ (s.dc.nip = .opening ∧ o = false) →
      ∃ t, exec (.nipSwitchChange o c l) s = .next t ∧ Becomes u [] t) ∧
    (s.dc.nip = .closing → o = false → c = true → s.dc.line ≠ .starting ∨ s.dc.ref ≠ s.dc.setpoint * 1000 →
      ∃ t, exec (.nipSwitchChange o c l) s = .next t ∧ Becomes { u with dc.nip := .closed, dc.nipTimer := none } [] t) ∧
    (s.dc.nip = .closing → o = false → c = true → s.dc.line = .starting → s.dc.ref = s.dc.setpoint * 1000 → s.rasterIdle →
      ∃ t, exec (.nipSwitchChange o c l) s = .next t ∧
        Becomes { u with dc.nip := .closed, dc.nipTimer := none, dc.line := .running, dc.nipHold := 0 } [.line] t) ∧
    (s.dc.nip = .opening → o = true → c = false →
      ∃ t, exec (.nipSwitchChange o c l) s = .next t ∧ Becomes { u with dc.nip := .opened, dc.nipTimer := none } [] t) ∧
    (s.dc.nip ≠ .fault → (o = true ∧ c = true) ∨ (s.dc.nip = .opened ∧ o = false) ∨ (s.dc.nip = .closed ∧ c = false) →
      let f : State := { u with
        dc.nip := .fault, dc.nipTimer := none, dc.valve := .opening,
        bt.track := if s.dc.nip = .closed then
            s.bt.track.map (fun b => if b.state = .onDrum then { b with flags := b.flags ||| 0x008#12 } else b)
          else s.bt.track }
      (¬s.stoppable → ∃ t, exec (.nipSwitchChange o c l) s = .next t ∧ Becomes f [] t) ∧
      (s.stoppable → s.rasterIdle → ∃ t, exec (.nipSwitchChange o c l) s = .next t ∧ Becomes f.fastStopped s.stopNotice t))

/-! ## The instrument link and colour verification -/

/-- The frame receiver byte by byte: hunting takes A5h alone; type takes any byte; length takes 8 for REPLY and 1 for STATUS; body
gathers the payload; a framing error inside a frame, any other length and a wrong sum discard the frame, adding 1 to the bad-frame count
and hunting again; more than 5 ms between two bytes does the same (R152). STATUS_FRAME: the byte that completes a STATUS frame with value
READY, NOT_READY or CAL sets the instrument status and restarts the silence timer, and so it does as a LINK_BYTE; any other value, and a
REPLY with a status other than OK or INVALID, is a bad frame (R153, R154). That REPLY_FRAME changes nothing at a bad REPLY is log entry
19; that the gap's row acts only past 5 ms is log entry 18. -/
def Obligations.LinkFrames : Prop :=
  ∀ (b : Byte) (framing : Bool) (s : State), s.pins.powerGood = true →
    let bad : State := { s with out := [], cv.rx := .hunting, cv.bad := min 4294967295 (s.cv.bad + 1) }
    (s.cv.rx ≠ .hunting → 5 < s.cv.rxGap → ∃ t, exec .frameByteGap s = .next t ∧ Becomes bad [] t) ∧
    (s.onTime → ∃ t, exec .frameByteGap s = .next t ∧ Becomes { s with out := [] } [] t) ∧
    (s.onTime →
      ∀ rx : Receiver,
        (s.cv.rx = .hunting ∧ rx = if framing = false ∧ b = 0xA5 then .type else .hunting) ∨
        (s.cv.rx = .type ∧ framing = false ∧ rx = .length b) ∨
        (s.cv.rx = .length 2 ∧ framing = false ∧ b = 8 ∧ rx = .body 2 8 []) ∨
        (s.cv.rx = .length 3 ∧ framing = false ∧ b = 1 ∧ rx = .body 3 1 []) ∨
        (∃ ty n got, s.cv.rx = .body ty n got ∧ framing = false ∧ got.length < n ∧ rx = .body ty n (got ++ [b])) →
        ∃ t, exec (.linkByte b framing) s = .next t ∧ Becomes { s with out := [], cv.rx := rx, cv.rxGap := 0 } [] t) ∧
    (s.onTime →
      (framing = true ∧ s.cv.rx ≠ .hunting) ∨
      (∃ ty, s.cv.rx = .length ty ∧ ¬(ty = 2 ∧ b = 8) ∧ ¬(ty = 3 ∧ b = 1)) ∨
      (∃ ty n got, s.cv.rx = .body ty n got ∧ n ≤ got.length ∧ ty + BitVec.ofNat 8 n + got.foldl (· + ·) 0 + b ≠ 0) →
      ∃ t u, exec (.badFrame b framing) s = .next t ∧ Becomes { bad with cv.rxGap := 0 } [] t ∧
        exec (.linkByte b framing) s = .next u ∧ Becomes { bad with cv.rxGap := 0 } [] u) ∧
    (∀ v : Byte, s.onTime → s.cv.rx = .body 3 1 [v] → 3 + 1 + v + b = 0 →
      (∀ st : InstrumentStatus, (v = 0 ∧ st = .ready) ∨ (v = 1 ∧ st = .notReady) ∨ (v = 2 ∧ st = .cal) →
        ∃ t u, exec (.statusFrame b) s = .next t ∧ exec (.linkByte b false) s = .next u ∧
          Becomes { s with out := [], cv.rx := .hunting, cv.rxGap := 0, cv.status := st, cv.silenceOn := true,
                           cv.silence := 0 } [] t ∧ Becomes t [] u) ∧
      (2 < v.toNat →
        ∃ t, exec (.badFrame b false) s = .next t ∧
          Becomes { bad with cv.rxGap := 0 } [] t)) ∧
    (∀ p : List Byte, s.onTime → s.cv.rx = .body 2 8 p → p.length = 8 → 2 + 8 + p.foldl (· + ·) 0 + b = 0 →
      p.getD 1 0 ≠ 0 → p.getD 1 0 ≠ 1 →
      ∃ t u, exec (.badFrame b false) s = .next t ∧ Becomes { bad with cv.rxGap := 0 } [] t ∧
        exec (.replyFrame b) s = .next u ∧ Becomes { s with out := [] } [] u)

/-- REPLY_FRAME: the byte that completes a REPLY frame restarts the silence timer. With no entry of its sequence number it is late: the
count rises and nothing else changes. With one, the entry leaves the list; status INVALID gives its band UNMEASURED; status OK stores L,
a, b and E = |L − Lt| + |a − at| + |b − bt| with COLOUR_FAIL above the tolerance and counts the band toward drift, whose third fail in a
row sets drift and raises DRIFT and whose 16th pass in a row clears it, raising in edge mode BOTH alone; and an AWAITING band is then
CLEARING, or FINISHED where it has its trailing-passed marker, its trailing edge being past inspection (R12, R153, R158, R159, R162,
R163). A slot whose trim conditions hold moves τ by the clamped step, and no other slot changes (R80, R81). A head band that is so
FINISHED starts its retirement at once, with no retirement in progress and no soft reset: its verdict is stored and counted, and the
record write begins, or with a full result area the counts write (R17, R19). That a full area's counts write carries the totals of the
moment it is asked for is log entry 57. Otherwise no retirement starts here: one is in progress, or the head is not FINISHED. -/
def Obligations.ReplyFrame : Prop :=
  ∀ (p : List Byte) (b : Byte) (s : State), s.pins.powerGood = true → s.onTime → s.cv.rx = .body 2 8 p → p.length = 8 →
    2 + 8 + p.foldl (· + ·) 0 + b = 0 → p.getD 1 0 = 0 ∨ p.getD 1 0 = 1 →
    let u : State := { s with out := [], cv.rx := .hunting, cv.rxGap := 0, cv.silenceOn := true, cv.silence := 0 }
    let value : Nat → Int := fun i => (p.getD (i + 1) 0 ++ p.getD i 0 : BitVec 16).toInt
    ((∀ e ∈ s.cv.list, e.seq ≠ (p.getD 0 0).toNat) →
      ∃ t, exec (.replyFrame b) s = .next t ∧ Becomes { u with cv.late := min 4294967295 (s.cv.late + 1) } [] t) ∧
    (∀ (e : Trigger) (r : Band), s.cv.list.find? (fun y => y.seq = (p.getD 0 0).toNat) = some e →
      r ∈ s.bt.track → (∀ y ∈ s.bt.track, y.number = e.band ↔ y = r) → r.state = .awaiting →
      let past : BandState := if r.trailing then .finished else .clearing
      -- the reply leaves v, with r' in r's place and the causes ns raised, and starts the retirement of a head that is then FINISHED
      let settles : State → Band → List Notice → Prop := fun v r' ns =>
        (s.noneStarts [r.number] → ∃ t, exec (.replyFrame b) s = .next t ∧ Becomes v ns t) ∧
        (∀ (tl : List Band) (y : Tally), s.bt.track = r :: tl → r.trailing = true → s.bt.retiring = none → s.smp.soft = .off →
          y ∈ s.bt.tallies → (∀ z ∈ s.bt.tallies, z.id = r.tally ↔ z = y) →
          ∃ t, exec (.replyFrame b) s = .next t ∧ Frame [.bt] ns v t ∧
            RetirementStarts r' (tl.map (fun z => if z = r then r' else z)) y v t ∧ t.out = [])
      (p.getD 1 0 = 1 →
        let r' : Band := { r with flags := r.flags ||| 0x400#12, state := past }
        settles { u with cv.list := s.cv.list.filter (fun y => y.seq ≠ e.seq),
                         bt.track := s.bt.track.map (fun y => if y = r then r' else y) } r' []) ∧
      (p.getD 1 0 = 0 → r.flags.getLsbD 11 = false →
        let m : Measurement :=
          { l := value 2, a := value 4, b := value 6,
            e := min 65535 ((value 2 - r.lt).natAbs + (value 4 - r.at_).natAbs + (value 6 - r.bt).natAbs) }
        let fail := r.colourTol < m.e
        let r' : Band := { r with meas := some m, state := past, flags := if fail then r.flags ||| 0x800#12 else r.flags }
        let q := s.ps.slots.get r.slot
        let fresh := q.prof.trimOn = true ∧ r.kind = .printed ∧ r.flags &&& 0x0FF#12 = 0 ∧ r.gen = q.gen ∧ r.tau = q.tau
        let step : Int := max (-16) (min (Int.fdiv ((m.l - r.lt) * q.prof.gain) 256) 16)
        let sets := s.cv.drift = false ∧ fail ∧ 2 ≤ s.cv.failRun
        let clears := s.cv.drift = true ∧ ¬fail ∧ 15 ≤ s.cv.passRun
        settles { u with cv.list := s.cv.list.filter (fun y => y.seq ≠ e.seq),
                         cv.drift := if sets then true else if clears then false else s.cv.drift,
                         cv.failRun := if sets ∨ clears then 0 else if s.cv.drift = true then s.cv.failRun
                           else if fail then s.cv.failRun + 1 else 0,
                         cv.passRun := if sets ∨ clears then 0 else if s.cv.drift = false then s.cv.passRun
                           else if fail then 0 else s.cv.passRun + 1,
                         ps.slots := if fresh then
                             s.ps.slots.set r.slot { q with tau := max (-256) (min (q.tau + step) 255) }
                           else s.ps.slots,
                         bt.track := s.bt.track.map (fun y => if y = r then r' else y) } r'
          (if sets ∨ (clears ∧ s.cfg.driftEdge = .both) then [.drift] else [])))

/-- INSTRUMENT_SILENCE at 5 s sets NOT_READY and stops the timer. TRIGGER_TIMEOUT removes every entry from the head of the list whose
deadline has passed, up to the first that has not, gives their bands UNMEASURED and moves each on from AWAITING: to CLEARING, or to
FINISHED where it has its trailing-passed marker, its trailing edge being past inspection (R12, R160). A head band that is so FINISHED
starts its retirement at once, with no retirement in progress and no soft reset (R17, R19). MEASURE_SENT starts the next queued frame:
A5h, 01h, length 1, the sequence number and a sum byte that makes the sum 0. None acts otherwise (R154, R155, R160). That a timer row
acts only at its limit is log entry 18; that several entries go in one command is log entry 34; that a full area's counts write carries
the totals of the moment it is asked for is log entry 57. -/
def Obligations.InstrumentTimers : Prop :=
  ∀ s : State, s.pins.powerGood = true →
    (s.cv.silenceOn = true → 5000 ≤ s.cv.silence →
      ∃ t, exec .instrumentSilence s = .next t ∧
        Becomes { s with out := [], cv.status := .notReady, cv.silenceOn := false } [] t) ∧
    (s.cv.silenceOn = false ∨ s.cv.silence < 5000 →
      ∃ t, exec .instrumentSilence s = .next t ∧ Becomes { s with out := [] } [] t) ∧
    (∀ gone rest : List Trigger, s.cv.list = gone ++ rest → (∀ e ∈ gone, e.deadline ≤ s.now) → (∀ e ∈ rest.head?, s.now < e.deadline) →
      let bands := gone.map Trigger.band
      let move : Band → Band := fun b =>
        if b.number ∈ bands then
          { b with flags := b.flags ||| 0x400#12,
                   state := if b.state = .awaiting then (if b.trailing then .finished else .clearing) else b.state }
        else b
      (s.noneStarts bands →
        ∃ t, exec .triggerTimeout s = .next t ∧
          Becomes { s with out := [], cv.list := rest, bt.track := s.bt.track.map move } [] t) ∧
      (∀ (pre post : List Trigger) (e : Trigger) (b : Band) (tl : List Band) (y : Tally), gone = pre ++ e :: post →
        (∀ x ∈ pre ++ post, x.band ≠ b.number) → e.band = b.number → s.bt.track = b :: tl → b.state = .awaiting → b.trailing = true →
        s.bt.retiring = none → s.smp.soft = .off → y ∈ s.bt.tallies → (∀ z ∈ s.bt.tallies, z.id = b.tally ↔ z = y) →
        let v : State := { s with out := [], cv.list := rest, bt.track := s.bt.track.map move }
        ∃ t, exec .triggerTimeout s = .next t ∧ Frame [.bt] [] v t ∧ RetirementStarts (move b) (tl.map move) y v t ∧ t.out = [])) ∧
    ((∀ e ∈ s.cv.list, s.now < e.deadline) →
      ∃ t, exec .triggerTimeout s = .next t ∧ Becomes { s with out := [] } [] t) ∧
    (∀ (n m : Nat) (rest : List Nat), s.cv.txq = n :: m :: rest →
      ∃ t x, exec .measureSent s = .next t ∧ 1 + 1 + BitVec.ofNat 8 m + x = 0 ∧
        Becomes { s with cv.txq := m :: rest, out := [.measure [0xA5, 0x01, 0x01, BitVec.ofNat 8 m, x]] } [] t) ∧
    (s.cv.txq.length ≤ 1 →
      ∃ t, exec .measureSent s = .next t ∧ Becomes { s with out := [], cv.txq := [] } [] t)

/-! ## The ticket chain and the port -/

/-- CHAIN_POLL when the poll timer has reached its period restarts it with the period now in PORTCFG and makes a chain look: WAITING
repeats the read at the chain position, and HOLDING makes its read-ahead there, here with nothing it waits for outstanding; in the other
reader states the look has no effect (R174, R174a). In HOLDING the look is also an AUTO_START segment's retry after DRUM_NOT_READY with
the drum HEATING: it starts the line once the drum is AT_TEMP and the other tests pass, and stands while the drum is HEATING (R51). That
TR stays WAITING while that read is in flight is log entry 51. Before the period nothing happens, which is log entry 18; when the poll
timer runs is log entry 23; that the input lines come with the command is log entry 31. -/
def Obligations.ChainPoll : Prop :=
  ∀ (l : Lines) (s : State), s.commandable →
    let u : State := { sampleLines l s with out := [], tr.pollElapsed := 0, tr.pollInForce := s.smp.pollPeriod }
    let read := if s.tr.step = .header then readOf .headerRead s.tr.pos 4 else readOf .linkRead s.tr.pos 1
    (s.tr.pollRunning = true → s.tr.pollInForce ≤ s.tr.pollElapsed →
      (s.tr.ticket = none → s.tr.awaitSeg = none → (∀ x ∈ s.smp.writes, x.awaited = false) → s.ticketReads = [] →
        (s.tr.reader = .waiting ∨ (s.tr.reader = .holding ∧ s.re.autoRetry = false) →
          ∃ t, exec (.chainPoll l) s = .next t ∧ Frame [] [] u t ∧ t.smp.writes = s.smp.writes ∧ t.smp.copies = s.smp.copies ∧
            t.ticketReads = [read] ∧ t.out = []) ∧
        (∀ g : Segment, s.tr.reader = .holding → s.re.autoRetry = true → s.re.raster = .priming → s.re.seg = some g →
          g.autoStart = true → s.dc.line = .stopped →
          (s.hc.drum = .atTemp → s.dc.nip = .opened → (∀ w ∈ s.dc.webs.toList, w.inRange = true) →
            l.broken = ⟨false, false, false⟩ →
            ∃ t, exec (.chainPoll l) s = .next t ∧ Frame [.re, .dc] [.line] u t ∧ t.ticketReads = [read] ∧
              t.re = { s.re with autoRetry := false } ∧ t.dc.line = .starting ∧ t.dc.startCause = .none) ∧
          (s.hc.drum = .heating →
            ∃ t, exec (.chainPoll l) s = .next t ∧ Frame [.dc] [.line] u t ∧ t.ticketReads = [read] ∧
              t.dc = { s.dc with startCause := .drumNotReady }))) ∧
      (s.tr.reader ≠ .waiting → s.tr.reader ≠ .holding → ∃ t, exec (.chainPoll l) s = .next t ∧ Becomes u [] t)) ∧
    (s.tr.pollRunning = false ∨ s.tr.pollElapsed < s.tr.pollInForce →
      ∃ t, exec (.chainPoll l) s = .next t ∧ Becomes { sampleLines l s with out := [] } [] t)

/-- TICKET_READ_DONE of a header or link read in READING: a pending halt takes TR to IDLE; a state other than NEW or a link below 10h is
waited on; a link of 10h or above is followed, its header read at once; a NEW ticket under a pause request is left NEW in PAUSED; an
unknown kind is refused INVALID_KIND and a short body BAD_FIELD, DETAIL 0; a ticket of a known kind with a body has it read at the
header's address + 16 (R169, R170, R171, R172, R177). In HOLDING a link of 10h or above is followed and its header read at once; a NEW
END_SEGMENT has its body read, is refused where it has none, or under a pause request is left NEW in PAUSED, or in IDLE where a halt is
pending; a NEW ticket of any other kind stays NEW, and a state other than NEW or a link below 10h is left (R174a). That TR stays READING
while a refused ticket's FAILED write is outstanding is log entry 61; that this halt leads to IDLE at once is log entry 24; that a
SEGMENT body read has 29 words is log entry 13; that the input lines come with the command is log entry 31. -/
def Obligations.ChainWalk : Prop :=
  ∀ (x : Transfer) (more : List Transfer) (g : Grant) (ws : List Word) (l : Lines) (s : State), ReadEnds x more g ws s →
    (∀ y ∈ more, y.isTicketRead = false) → (∀ y ∈ s.smp.writes, y.isRepeatedTaken s.tr.pos = false) →
    let got := x.words ++ ws.take g.words
    let h := headerOf got
    let refused : Status → Transfer := fun st => headerTransfer s.tr.pos
      { state := .failed, status := st, detail := 0, notify := h.notify, role := .close, repeating := false }
    (s.tr.reader = .holding → s.tr.awaitSeg = none → (∀ y ∈ s.smp.writes, y.awaited = false) →
      x.kind = .headerRead ∨ x.kind = .linkRead →
      ∃ t, exec (.ticketReadDone ws l) s = .next t ∧ Frame [.tr] [] (sampleLines l s) t ∧ t.smp.copies = s.smp.copies ∧ t.out = [] ∧
        t.smp.writes = s.smp.writes ++ (if x.kind = .headerRead ∧ h.state = 0 ∧ h.kindCode = 7 ∧ s.tr.pauseReq = false ∧ h.bodyLen = 0
          then [refused .badField] else []) ∧
        (x.kind = .headerRead → h.state ≠ 0 ∨ h.kindCode ≠ 7 → t.tr = s.tr ∧ t.ticketReads = []) ∧
        (x.kind = .linkRead → natAt got 0 < 16 → t.tr = s.tr ∧ t.ticketReads = []) ∧
        (x.kind = .linkRead → 16 ≤ natAt got 0 →
          t.tr = { s.tr with pos := natAt got 0 / 16 * 16, step := .header } ∧
          t.ticketReads = [readOf .headerRead (natAt got 0 / 16 * 16) 4]) ∧
        (x.kind = .headerRead → h.state = 0 → h.kindCode = 7 → s.tr.pauseReq = true →
          t.tr = { s.tr with reader := if s.tr.haltReq then .idle else .paused, haltReq := false } ∧ t.ticketReads = []) ∧
        (x.kind = .headerRead → h.state = 0 → h.kindCode = 7 → s.tr.pauseReq = false → h.bodyLen = 0 →
          t.tr = s.tr ∧ t.ticketReads = []) ∧
        (x.kind = .headerRead → h.state = 0 → h.kindCode = 7 → s.tr.pauseReq = false → 1 ≤ h.bodyLen →
          t.tr = { s.tr with ticket := some { addr := s.tr.pos, kind := .endSegment, notify := h.notify, serial := h.serial,
                                              body := [], phase := .checking } } ∧
          t.ticketReads = [readOf .bodyRead (s.tr.pos + 16) 1])) ∧
    (s.tr.reader = .reading → x.kind = .headerRead ∨ x.kind = .linkRead →
      ∃ t, exec (.ticketReadDone ws l) s = .next t ∧ Frame [.tr] [] (sampleLines l s) t ∧ t.smp.copies = s.smp.copies ∧ t.out = [] ∧
        (s.tr.haltReq = true →
          t.tr = { s.tr with reader := .idle, haltReq := false, awaitSeg := none } ∧ t.ticketReads = [] ∧
          t.smp.writes = s.smp.writes) ∧
        (s.tr.haltReq = false → (x.kind = .headerRead ∧ h.state ≠ 0) ∨ (x.kind = .linkRead ∧ natAt got 0 < 16) →
          t.tr = { s.tr with reader := .waiting } ∧ t.ticketReads = [] ∧ t.smp.writes = s.smp.writes) ∧
        (s.tr.haltReq = false → x.kind = .linkRead → 16 ≤ natAt got 0 →
          t.tr = { s.tr with pos := natAt got 0 / 16 * 16, step := .header } ∧ t.smp.writes = s.smp.writes ∧
          t.ticketReads = [readOf .headerRead (natAt got 0 / 16 * 16) 4]) ∧
        (s.tr.haltReq = false → x.kind = .headerRead → h.state = 0 → s.tr.pauseReq = true →
          t.tr = { s.tr with reader := .paused } ∧ t.ticketReads = [] ∧ t.smp.writes = s.smp.writes) ∧
        (s.tr.haltReq = false → x.kind = .headerRead → h.state = 0 → s.tr.pauseReq = false →
          (h.kindCode = 0 ∨ 9 < h.kindCode →
            t.tr = s.tr ∧ t.ticketReads = [] ∧ t.smp.writes = s.smp.writes ++ [refused .invalidKind]) ∧
          (∀ k : TicketKind, kindOfCode h.kindCode = some k →
            (h.bodyLen < bodyLength k →
              t.tr = s.tr ∧ t.ticketReads = [] ∧ t.smp.writes = s.smp.writes ++ [refused .badField]) ∧
            (bodyLength k ≤ h.bodyLen → k ≠ .stop → t.smp.writes = s.smp.writes ∧
              t.tr = { s.tr with ticket := some { addr := s.tr.pos, kind := k, notify := h.notify, serial := h.serial,
                                                  body := [], phase := .checking } } ∧
              t.ticketReads = [readOf .bodyRead (s.tr.pos + 16) (bodyRead k)]))))

/-- A completed body read: a ticket that fails its take checks is written FAILED directly from NEW with that check's status and DETAIL;
one other than a SEGMENT that passes is written TAKEN with status OK and DETAIL 0, and TR is EXECUTING, or still HOLDING at an
END_SEGMENT found by read-ahead (R172). A refused SEGMENT notifies by its header flag or its body flag (R28, R167). The checks: the first
CONFIGURE field out of its range is BAD_FIELD with its index, and with all 21 in range the cross-check fails on field 5 (R175); a
LOAD_PROFILE slot above 7 is field 1 and an image past the end of memory field 2 (R73); a REPORT area past the end is field 1 (R176); an
END_SEGMENT mode above 1 is field 1. A STOP, which has no body, is written TAKEN as its header read completes. That TR stays READING
while a refused ticket's FAILED write is outstanding is log entry 61. That the input lines come with the command is log entry 31. -/
def Obligations.TicketTakes : Prop :=
  ∀ (t : Ticket) (x : Transfer) (more : List Transfer) (g : Grant) (ws : List Word) (l : Lines) (s : State),
    s.tr.reader = .reading ∨ s.tr.reader = .holding →
    let body := x.words ++ ws.take g.words
    (BodyArrives t x more g ws s → ∀ (st : Status) (d : Nat), takeCheck { t with body := body } s = some (st, d) →
      (∀ y ∈ s.smp.writes, y.isRepeatedTaken s.tr.pos = false) →
      ∃ u, exec (.ticketReadDone ws l) s = .next u ∧ Frame [.tr] [] (sampleLines l s) u ∧ u.tr = { s.tr with ticket := none } ∧
        u.smp.writes = s.smp.writes ++ [headerTransfer s.tr.pos
          { state := .failed, status := st, detail := d, role := .close, repeating := false,
            notify := t.notify || (decide (t.kind = .segment) && (wordAt body 9).getLsbD 2) }] ∧
        u.ticketReads = more.filter Transfer.isTicketRead) ∧
    (BodyArrives t x more g ws s → takeCheck { t with body := body } s = none → t.kind ≠ .segment →
      ∃ u, exec (.ticketReadDone ws l) s = .next u ∧ Frame [.tr] [] (sampleLines l s) u ∧
        u.tr = { s.tr with ticket := some { t with body := body, phase := .taken },
                           reader := if s.tr.reader = .holding then .holding else .executing } ∧
        u.smp.writes = s.smp.writes ++ [headerTransfer t.addr
          { state := .taken, status := .ok, detail := 0, notify := t.notify, role := .take t.kind, repeating := false }] ∧
        u.ticketReads = more.filter Transfer.isTicketRead) ∧
    (ReadEnds x more g ws s → s.tr.reader = .reading → s.tr.haltReq = false → s.tr.pauseReq = false → x.kind = .headerRead →
      (headerOf body).state = 0 → (headerOf body).kindCode = 8 →
      ∃ u, exec (.ticketReadDone ws l) s = .next u ∧ Frame [.tr] [] (sampleLines l s) u ∧
        u.tr = { s.tr with reader := .executing,
                           ticket := some { addr := s.tr.pos, kind := .stop, notify := (headerOf body).notify,
                                            serial := (headerOf body).serial, body := [], phase := .taken } } ∧
        u.smp.writes = s.smp.writes ++ [headerTransfer s.tr.pos
          { state := .taken, status := .ok, detail := 0, notify := (headerOf body).notify, role := .take .stop, repeating := false }]) ∧
    (let v := natAt body
     let check := takeCheck { t with body := body } s
     let inside : Nat → Prop := fun i =>
       let range : Nat → Nat → Nat → Prop := fun n lo hi => lo ≤ v n ∧ v n ≤ hi
       let scale : Nat → Prop := fun n => 65536000 ≤ v n * 65536 + v (n + 1) % 65536 ∧
         v n * 65536 + v (n + 1) % 65536 ≤ 13107200000
       match i with
       | 1 => scale 0 | 2 => scale 2 | 3 => scale 4 | 4 => range 6 100 14000 | 5 => range 7 500 15000 | 6 => range 8 800 3000
       | 7 => range 9 300 8000 | 8 => range 10 200 10000 | 9 => range 11 20000 200000 | 10 => range 12 2 31
       | 11 => range 13 50 300 | 12 => range 14 200 5000 | 13 => range 15 0 600 | 14 => range 16 100 2000
       | 15 => range 17 500 20000 | 16 => range 18 0 2 | 17 => range 19 0 1 | 18 => range 20 50 1000 | 19 => range 21 20 500
       | 20 => range 22 0 1 | 21 => range 23 0 1 | _ => True
     let apart := v 6 * 1000 + v 17 + 100000 < v 7 * 1000
     (t.kind = .configure →
       (∀ i, ¬inside i → (∀ k < i, inside k) → check = some (.badField, i)) ∧
       ((∀ i, inside i) → ¬apart → check = some (.badField, 5)) ∧ ((∀ i, inside i) → apart → check = none)) ∧
     (t.kind = .loadProfile → check = if 7 < v 0 then some (.badField, 1)
       else if 4294967295 < v 1 / 16 * 16 + 255 then some (.badField, 2) else none) ∧
     (t.kind = .report → check = if 4294967295 < v 0 / 16 * 16 + 255 then some (.badField, 1) else none) ∧
     (t.kind = .endSegment → check = if 1 < v 0 then some (.badField, 1) else none) ∧
     (t.kind = .setHeat ∨ t.kind = .setTension ∨ t.kind = .setSpeed ∨ t.kind = .stop → check = none))

/-- The take checks of a SEGMENT: it passes exactly when every field of R28 lies in its range, the repeat and the result area fit the
address space, every void entry read is below N when N > 0, its slot is valid, and at the nominal pitch len < D_pn, len ≤ D_xi and po <
len. Otherwise the first field outside its range, in ascending order, is the DETAIL of BAD_FIELD, the repeat counted to field 1 and the
result area to field 11; an invalid slot with good fields is NO_PROFILE with DETAIL 8; a band that is too long for the two distances is
BAD_GEOMETRY with DETAIL 5, and a patch offset past the band with DETAIL 9 (R28, R29). -/
def Obligations.SegmentChecks : Prop :=
  ∀ (t : Ticket) (s : State), t.kind = .segment →
    let v := natAt t.body
    let len := v 4 * s.cfg.pnom
    let fits : Prop := ((v 0 / 16 * 16 : Nat) : Int) + ((v 3 : Int) - 1) * v 1 + 4 * v 2 ≤ 4294967296
    let fields := fits ∧ v 1 % 16 = 0 ∧ 4 * v 2 ≤ v 1 ∧ 1 ≤ v 2 ∧ v 2 ≤ 80000 ∧
      1 ≤ v 3 ∧ v 3 ≤ 1048575 ∧ 64 ≤ v 4 ∧ v 4 ≤ 16384 ∧ v 6 < v 3 ∧ v 7 ≤ 7 ∧ v 8 ≤ 65535 ∧
      v 10 / 16 * 16 + v 11 * 64 ≤ 4294967296 ∧ 1 ≤ v 11 ∧ v 11 ≤ 65535 ∧ v 12 ≤ 16 ∧
      ∀ i < v 12, v 5 = 0 ∨ v (13 + i) < v 5
    let inside : Nat → Prop := fun i =>
      match i with
      | 1 => fits
      | 2 => v 1 % 16 = 0 ∧ 4 * v 2 ≤ v 1
      | 3 => 1 ≤ v 2 ∧ v 2 ≤ 80000
      | 4 => 1 ≤ v 3 ∧ v 3 ≤ 1048575
      | 5 => 64 ≤ v 4 ∧ v 4 ≤ 16384
      | 7 => v 6 < v 3
      | 8 => v 7 ≤ 7
      | 9 => v 8 ≤ 65535
      | 11 => v 10 / 16 * 16 + v 11 * 64 ≤ 4294967296
      | 12 => 1 ≤ v 11 ∧ v 11 ≤ 65535
      | 13 => v 12 ≤ 16
      | i => 14 ≤ i → i ≤ 29 → i < 14 + v 12 → v 5 = 0 ∨ v (i - 1) < v 5
    let slot := s.ps.slots.get (Fin.ofNat 8 (v 7))
    (∀ i, ¬inside i → (∀ k < i, inside k) → takeCheck t s = some (.badField, i)) ∧
    (fields → slot.valid = true → len < s.cfg.dpn * 1000000 → len ≤ s.cfg.dxi * 1000000 → len ≤ v 8 * 1000000 →
      takeCheck t s = some (.badGeometry, 9)) ∧
    (takeCheck t s = none ↔ fields ∧ slot.valid = true ∧ len < s.cfg.dpn * 1000000 ∧ len ≤ s.cfg.dxi * 1000000 ∧
      v 8 * 1000000 < len) ∧
    (fields → slot.valid = false → takeCheck t s = some (.noProfile, 8)) ∧
    (fields → slot.valid = true → s.cfg.dpn * 1000000 ≤ len ∨ s.cfg.dxi * 1000000 < len →
      takeCheck t s = some (.badGeometry, 5))

/-- HEADER_WRITE_DONE: a final state raises TICKET where the ticket notifies. After TR's own final-state write the step is LINK and the
link is read at once, or TR is IDLE where a halt is pending; a PRINTED write raises nothing and moves nothing (R167, R170, R173). After a
SEGMENT's PRINTED, final or TAKEN write that TR waits for in READING, the chain position is read at its step, both as they stand (R168,
R174b; after a GO_CHAIN, log entry 36). That the notice comes as the write completes is log entry 12. -/
def Obligations.HeaderWriteDone : Prop :=
  ∀ (addr : Nat) (h : HeaderWrite) (rest : List Transfer) (s : State), WriteEnds (headerTransfer addr h) rest s →
    let ns : List Notice :=
      if (h.state = .done ∨ h.state = .failed ∨ h.state = .skipped) ∧ h.notify = true then [.ticket] else []
    (h.role = .close → s.tr.reader = .executing ∨ s.tr.reader = .reading → s.tr.awaitSeg = none →
      (∀ y ∈ rest, y.awaited = false) → s.ticketReads = [] →
      ∃ t, exec .headerWriteDone s = .next t ∧ Frame [.tr] ns s t ∧ t.smp.writes = rest ∧ t.smp.copies = s.smp.copies ∧
        t.out = [.busWrite (addr + 8) (headerWord h)] ∧
        (s.tr.haltReq = false → t.tr = { s.tr with ticket := none, step := .link, reader := .reading } ∧
          t.ticketReads = [readOf .linkRead s.tr.pos 1]) ∧
        (s.tr.haltReq = true → t.tr = { s.tr with ticket := none, step := .link, reader := .idle, haltReq := false } ∧
          t.ticketReads = [])) ∧
    (h.role = .segment true ∨ h.role = .take .segment → s.tr.reader = .reading → s.tr.awaitSeg = none → s.tr.ticket = none →
      (∀ y ∈ rest, y.awaited = false) → s.ticketReads = [] → s.tr.haltReq = false →
      ∃ t, exec .headerWriteDone s = .next t ∧ Frame [] ns s t ∧ t.smp.writes = rest ∧ t.smp.copies = s.smp.copies ∧
        t.ticketReads = [if s.tr.step = .header then readOf .headerRead s.tr.pos 4 else readOf .linkRead s.tr.pos 1]) ∧
    (h.role = .segment false → s.tr.reader ≠ .reading →
      ∃ t, exec .headerWriteDone s = .next t ∧ Frame [] ns s t ∧ t.smp.writes = rest ∧ t.smp.copies = s.smp.copies ∧
        t.ticketReads = s.ticketReads ∧ t.out = [.busWrite (addr + 8) (headerWord h)])

/-- PROFILE_COPY_DONE: an image whose fields pass is committed in one step (loaded fields replaced, valid, generation advanced modulo
65,536, τ the initial τ) and the ticket is DONE with DETAIL the new generation; one with a failing field leaves every slot as it was
and the ticket is FAILED BAD_PROFILE with DETAIL the first such field; either way staging is FREE (R72, R75). A committed slot's
image gives a τ in −256..255 and knots of at most 4095. An image passes exactly when its 99 fields lie in the ranges of R72, each at its
place by 11.5, and the profile committed is those fields. -/
def Obligations.ProfileCopy : Prop :=
  ∀ (t : Ticket) (c : Copying) (x : Transfer) (more : List Transfer) (g : Grant) (ws : List Word) (s : State), s.commandable →
    s.tr.ticket = some t → s.ps.staging = some c → s.smp.copies = x :: more → x.kind = .profileCopy → s.smp.grant = some g →
    g.client = .copy → g.dropped = false → x.left ≤ min ws.length g.words →
    (∀ y ∈ s.smp.writes, y.isRepeatedTaken t.addr = false) →
    let image := x.words ++ ws.take g.words
    let q := s.ps.slots.get c.target
    (let half : Nat → Nat := fun i => (wordAt image (i / 2)).toNat / 65536 ^ (i % 2) % 65536
     let z : Nat → Int := fun i => (BitVec.ofNat 16 (half i)).toInt
     firstFail (imageChecks image) = none ↔
       (∀ i < 68, half i ≤ 4095) ∧
       (∀ i < 16, if i = 0 ∨ i = 5 ∨ i = 10 ∨ i = 15 then 0 ≤ z (68 + i) ∧ z (68 + i) ≤ 2047
         else -512 ≤ z (68 + i) ∧ z (68 + i) ≤ 511) ∧
       (∀ i < 4, -2048 ≤ z (84 + i) ∧ z (84 + i) ≤ 2047) ∧ 1024 ≤ half 88 ∧ half 88 ≤ 16380 ∧ half 89 ≤ 2047 ∧
       1 ≤ natAt image 45 ∧ natAt image 45 ≤ 4000000 ∧ 1 ≤ half 92 ∧ half 92 ≤ 50 ∧ 1 ≤ half 93 ∧ half 93 ≤ 9999 ∧
       half 99 ≤ 255 ∧ -256 ≤ z 97 ∧ z 97 ≤ 255) ∧
    (firstFail (imageChecks image) = none →
      ∃ u, exec (.profileCopyDone ws) s = .next u ∧ Frame [.tr, .ps] [] s u ∧
        u.tr = { s.tr with ticket := some { t with phase := .final } } ∧ u.smp.copies = more ∧
        u.ps = { staging := none,
                 slots := s.ps.slots.set c.target { valid := true, gen := (q.gen + 1) % 65536,
                                                    tau := (imageProfile image).tauInit, prof := imageProfile image } } ∧
        u.smp.writes = s.smp.writes ++ [finalWrite t .done .ok ((q.gen + 1) % 65536)] ∧
        -256 ≤ (imageProfile image).tauInit ∧ (imageProfile image).tauInit ≤ 255 ∧
        (let half : Nat → Nat := fun i => (wordAt image (i / 2)).toNat / 65536 ^ (i % 2) % 65536
         let z : Nat → Int := fun i => (BitVec.ofNat 16 (half i)).toInt
         let row : Nat → Ink Int := fun i => ⟨z i, z (i + 1), z (i + 2), z (i + 3)⟩
         let knots : Nat → List Nat := fun i => (List.range 17).map (fun k => half (i + k))
         imageProfile image =
           { knots := ⟨knots 0, knots 17, knots 34, knots 51⟩, matrix := ⟨row 68, row 72, row 76, row 80⟩, offsets := row 84,
             limit := half 88, yield := half 89, dref := natAt image 45, doseTol := half 92, colourTol := half 93,
             lt := z 94, at_ := z 95, bt := z 96, tauInit := z 97, trimOn := (wordAt image 49).getLsbD 0, gain := half 99 }) ∧
        ∀ k ∈ (imageProfile image).knots.toList, k.length = 17 ∧ ∀ v ∈ k, v ≤ 4095) ∧
    (∀ i : Nat, firstFail (imageChecks image) = some i →
      ∃ u, exec (.profileCopyDone ws) s = .next u ∧ Frame [.tr, .ps] [] s u ∧
        u.tr = { s.tr with ticket := some { t with phase := .final } } ∧ u.smp.copies = more ∧
        u.ps = { s.ps with staging := none } ∧
        u.smp.writes = s.smp.writes ++ [finalWrite t .failed .badProfile i])

/-- RECORD_WRITE_DONE counts the head record written and makes the counts write with the tally's totals; COUNTS_WRITE_DONE then removes
the head record, takes it out of the tally's bands in track and sets last band retired; a finalising entry's counts write is followed by
the final state of its end cause, and the entry leaves the list (R19, R20, R22, R50). Here one tally entry has the band's handle, no
further record is FINISHED, the line is not DRAINING and no segment is TAKEN. The last retirement of a PRINTED segment finalises it, here
with the counts write just ended (R20, R21). In counter mode AUTO a finalisation copies the mark error counter and clears it (R149). The
record's 16 words are laid out by 11.3, words 12 and 13 with the smallest and the largest dose of the zones enabled at band start and not
lost, or 0 where there is none (R19), and the counts by 11.2. That the final states other than a refusal have DETAIL 0 is log entry 32;
that the input lines come with COUNTS_WRITE_DONE is log entry 31. -/
def Obligations.RetirementWrites : Prop :=
  ∀ (x : Transfer) (rest : List Transfer) (l : Lines) (s : State), WriteEnds x rest s → s.rasterIdle → s.dc.line ≠ .draining →
    (∀ (b : Band) (tl : List Band) (e : Tally), s.bt.track = b :: tl → (∀ y ∈ s.bt.tallies, y.id = b.tally ↔ y = e) →
      e ∈ s.bt.tallies →
      (x.kind = .recordWrite →
        let e' : Tally := { e with written := e.written + 1, stale := false }
        ∃ t, exec .recordWriteDone s = .next t ∧ Frame [.bt] [] s t ∧ t.smp.copies = s.smp.copies ∧
          t.bt = { s.bt with retiring := some .counts, tallies := s.bt.tallies.map (fun y => if y = e then e' else y) } ∧
          t.smp.writes = rest ++ [writeOf (.countsWrite .retirement) (e.addr + 132) (countsWords e')]) ∧
      (x.kind = .countsWrite .retirement → (∀ y ∈ tl, y.state ≠ .finished) → e.printed = false →
        ∃ t, exec (.countsWriteDone l) s = .next t ∧ Frame [.bt] [] (sampleLines l s) t ∧ t.smp.writes = rest ∧
          t.bt = { s.bt with track := tl, retiring := none, lastRetired := b.number,
                             tallies := s.bt.tallies.map (fun y =>
                               if y = e then { e with inTrack := e.inTrack - 1 } else y) }) ∧
      (x.kind = .countsWrite .retirement → (∀ y ∈ tl, y.state ≠ .finished) → e.printed = true → e.inTrack = 1 → e.stale = false →
        e.closing = false → (∀ y ∈ rest, y.isRepeatedTaken e.addr = false) → s.tr.awaitSeg = none →
        ∃ t, exec (.countsWriteDone l) s = .next t ∧ Frame [.bt, .mr] [] (sampleLines l s) t ∧ t.mr = s.counted ∧
          t.bt = { s.bt with track := tl, retiring := none, lastRetired := b.number,
                             tallies := s.bt.tallies.filter (fun y => y ≠ e) } ∧
          t.smp.writes = rest ++ [segmentFinal e])) ∧
    (∀ e : Tally, (∀ y ∈ s.bt.tallies, y.id = e.id ↔ y = e) → e ∈ s.bt.tallies → x.kind = .countsWrite (.finalise e.id) →
      (∀ y ∈ rest, y.isRepeatedTaken e.addr = false) → s.tr.awaitSeg = none →
      ∃ t, exec (.countsWriteDone l) s = .next t ∧ Frame [.bt, .mr] [] (sampleLines l s) t ∧ t.mr = s.counted ∧
        t.bt = { s.bt with tallies := s.bt.tallies.filter (fun y => y ≠ e) } ∧
        t.smp.writes = rest ++ [segmentFinal e]) ∧
    (∀ e : Tally, countsWords e = [e.created, e.good, e.suspect, e.reject, e.void, e.written, e.dropped, e.discarded].map
      (BitVec.ofNat 32)) ∧
    (∀ b : Band,
      let w := wordAt (recordWords b)
      let m := b.meas.getD ⟨0, 0, 0, 0⟩
      let signed : Nat → Int → Nat := fun n v => (BitVec.ofInt n v).toNat
      let code : Nat := match b.verdict with
        | some .suspect => 1
        | some .reject => 2
        | some .void => 3
        | some .good | none => 0
      -- the dose of a zone that was enabled at band start and is not in the lost-zone mask
      let checked : Nat → Prop := fun n => ∃ i : Fin 8, b.zones.get i = true ∧ b.lostZones.get i = false ∧ b.doses.get i = n
      b.p < 2 ^ 18 → b.dpred < 2 ^ 23 → b.s < 2 ^ 9 → b.g < 2 ^ 11 → b.firstRow < 2 ^ 20 →
      (recordWords b).length = 16 ∧ w 0 = BitVec.ofNat 32 b.number ∧ w 1 = BitVec.ofNat 32 b.index ∧
      w 2 = BitVec.ofNat 32 b.l0 ∧ w 3 = BitVec.ofNat 32 (b.l0 / 2 ^ 32) ∧ w 4 = BitVec.ofInt 32 (b.c.getD 0) ∧
      fieldAt (w 5) 0 18 = b.p ∧ fieldAt (w 5) 18 3 = b.slot.val ∧ fieldAt (w 5) 21 2 = code ∧
      (w 5).getLsbD 23 = decide (b.kind = .void) ∧ (w 5).getLsbD 24 = b.meas.isSome ∧ fieldAt (w 5) 25 7 = 0 ∧
      fieldAt (w 6) 0 23 = b.dpred ∧ fieldAt (w 6) 23 9 = b.s ∧ fieldAt (w 7) 0 9 = signed 9 b.tau ∧ fieldAt (w 7) 9 11 = b.g ∧
      fieldAt (w 7) 20 12 = b.flags.toNat ∧ fieldAt (w 8) 0 16 = b.gen % 65536 ∧ fieldAt (w 8) 16 16 = b.clip % 65536 ∧
      fieldAt (w 9) 0 20 = b.firstRow ∧ (∀ i : Fin 8, (w 9).getLsbD (20 + i.val) = b.zones.get i) ∧ fieldAt (w 9) 28 4 = 0 ∧
      fieldAt (w 10) 0 16 = b.fired % 65536 ∧ fieldAt (w 10) 16 16 = b.lost % 65536 ∧
      (∀ i : Fin 8, (w 11).getLsbD i.val = b.lostZones.get i) ∧ fieldAt (w 11) 8 24 = min 16777215 b.samples ∧
      ((∀ n, ¬checked n) → w 12 = 0 ∧ w 13 = 0) ∧
      (∀ n, checked n → ((∀ m, checked m → n ≤ m) → w 12 = BitVec.ofNat 32 n) ∧ ((∀ m, checked m → m ≤ n) → w 13 = BitVec.ofNat 32 n)) ∧
      fieldAt (w 14) 0 16 = signed 16 m.l ∧ fieldAt (w 14) 16 16 = signed 16 m.a ∧ fieldAt (w 15) 0 16 = signed 16 m.b ∧
      fieldAt (w 15) 16 16 = m.e % 65536)

/-- BURST_END of a write of any kind that has words left (a record, counts, a snapshot, a progress block) moves the granted words to the
bus in ascending order and keeps the transfer first in its queue; of a read or a row fetch that has words left it adds the words that
arrived, up to those granted; a burst of an abandoned transfer, or with no burst in progress, moves nothing. BUS_ERROR with no burst in
progress does nothing; otherwise it raises PORT and gives the error to the owner: a header write is made again whole; a ticket read
stalls TR; a record is counted dropped; a counts write goes on as if it had ended, to the removal of its record (here with no segment
TAKEN, the line not DRAINING and the segment not PRINTED) or to its segment's final state; a profile copy ends FAILED PORT_ERROR with
DETAIL 2 and a REPORT's snapshot with DETAIL 1; a progress block write is given up; a row's received words are dropped and its slot stays
filling (R19, R20, R34, R76, R168, R176, R178, R185, R186, R188). How many words a failed burst moved is log entry 38; that the final
states other than a refusal have DETAIL 0 is log entry 32; that the input lines come with both commands is log entry 31. -/
def Obligations.Bursts : Prop :=
  ∀ (l : Lines) (s : State), s.commandable →
    let u := sampleLines l s
    (s.smp.grant = none → ∀ (ws : List Word) (n : Nat),
      (∃ t, exec (.burstEnd ws l) s = .next t ∧ Becomes { u with out := [] } [] t) ∧
      (∃ t, exec (.busError n l) s = .next t ∧ Becomes { u with out := [] } [] t)) ∧
    (∀ (x : Transfer) (rest : List Transfer) (g : Grant) (ws : List Word), s.smp.grant = some g → g.dropped = false →
      s.smp.queue g.client = x :: rest → g.words < x.left →
      (x.isWrite = true → x.words ≠ [] → x.moved + x.left = x.words.length →
        ∃ t, exec (.burstEnd ws l) s = .next t ∧ Frame [] [] u t ∧
          t.smp.queue g.client = { x with moved := x.moved + g.words, left := x.left - g.words } :: rest ∧
          (∀ c, c ≠ g.client → c ≠ .read → t.smp.queue c = s.smp.queue c) ∧ (g.client ≠ .read → t.ticketReads = s.ticketReads) ∧
          t.out = x.written g.words) ∧
      (x.isWrite = false → x.kind ≠ .profileCopy →
        let n := min ws.length g.words
        ∃ t, exec (.burstEnd ws l) s = .next t ∧ Frame [] [] u t ∧
          t.smp.queue g.client = { x with moved := x.moved + n, left := x.left - n, words := x.words ++ ws.take n } :: rest ∧
          (∀ c, c ≠ g.client → c ≠ .read → t.smp.queue c = s.smp.queue c) ∧ t.out = []) ∧
      (∀ p : Copying, g.client = .copy → x.kind = .profileCopy → s.ps.staging = some p →
        let n := min ws.length g.words
        ∃ t, exec (.burstEnd ws l) s = .next t ∧ Frame [.ps] [] u t ∧ t.smp.writes = s.smp.writes ∧
          t.smp.copies = { x with moved := x.moved + n, left := x.left - n, words := x.words ++ ws.take n } :: rest ∧
          t.ps = { s.ps with staging := some { p with words := p.words ++ ws.take n } } ∧ t.out = [])) ∧
    (∀ (g : Grant) (ws : List Word), s.smp.grant = some g → g.dropped = true →
      ∃ t, exec (.burstEnd ws l) s = .next t ∧ Becomes { u with out := [] } [] t) ∧
    (∀ (addr n : Nat) (h : HeaderWrite) (rest : List Transfer), s.smp.grant = some { client := .write, words := 1, dropped := false } →
      s.smp.writes = headerTransfer addr h :: rest →
      ∃ t, exec (.busError n l) s = .next t ∧ Frame [] [.port] u t ∧
        t.smp.writes = headerTransfer addr { h with repeating := true } :: rest ∧
        t.out = if n = 0 then [] else [.busWrite (addr + 8) (headerWord h)]) ∧
    (∀ (x : Transfer) (rest : List Transfer) (g : Grant) (n : Nat), s.smp.grant = some g → g.client = .read → g.dropped = false →
      s.smp.reads = x :: rest → x.isTicketRead = true → s.tr.haltReq = false → s.tr.ticket = none →
      ∃ t, exec (.busError n l) s = .next t ∧ Frame [.tr] [.port] u t ∧ t.tr = { s.tr with reader := .stalled } ∧
        t.smp.writes = s.smp.writes ∧ t.ticketReads = rest.filter Transfer.isTicketRead) ∧
    (∀ (x : Transfer) (rest : List Transfer) (g : Grant) (n : Nat) (b : Band) (tl : List Band) (e : Tally), s.smp.grant = some g →
      g.client = .write → g.dropped = false → s.smp.writes = x :: rest → x.kind = .recordWrite → s.bt.track = b :: tl →
      e ∈ s.bt.tallies → (∀ y ∈ s.bt.tallies, y.id = b.tally ↔ y = e) →
      ∃ t, exec (.busError n l) s = .next t ∧ Frame [.bt] [.port] u t ∧
        t.bt = { s.bt with retiring := some .counts, tallies := s.bt.tallies.map (fun y =>
          if y = e then { e with dropped := e.dropped + 1, stale := false } else y) }) ∧
    (∀ (x : Transfer) (rest : List Transfer) (g : Grant) (n : Nat) (k : Ticket), s.smp.grant = some g → g.client = .copy →
      g.dropped = false → s.smp.copies = x :: rest → x.kind = .profileCopy → s.tr.ticket = some k →
      (∀ y ∈ s.smp.writes, y.isRepeatedTaken k.addr = false) →
      ∃ t, exec (.busError n l) s = .next t ∧ Frame [.tr, .ps] [.port] u t ∧ t.ps = { s.ps with staging := none } ∧
        t.smp.copies = rest ∧ t.smp.writes = s.smp.writes ++ [finalWrite k .failed .portError 2]) ∧
    (∀ (x : Transfer) (rest : List Transfer) (g : Grant) (n : Nat) (k : Ticket), s.smp.grant = some g → g.client = .copy →
      g.dropped = false → s.smp.copies = x :: rest → x.kind = .reportWrite → x.moved + g.words ≤ x.words.length →
      s.tr.ticket = some k → (∀ y ∈ s.smp.writes, y.isRepeatedTaken k.addr = false) →
      ∃ t, exec (.busError n l) s = .next t ∧ Frame [.tr] [.port] u t ∧ t.tr = { s.tr with ticket := some { k with phase := .final } } ∧
        t.smp.copies = rest ∧ t.smp.writes = s.smp.writes ++ [finalWrite k .failed .portError 1] ∧
        t.out = x.written (min n g.words)) ∧
    (∀ (x : Transfer) (rest : List Transfer) (g : Grant) (n : Nat) (e : Tally), s.smp.grant = some g → g.client = .write →
      g.dropped = false → s.smp.writes = x :: rest → x.moved + g.words ≤ x.words.length →
      e ∈ s.bt.tallies →
      (x.kind = .countsWrite (.finalise e.id) → (∀ y ∈ s.bt.tallies, y.id = e.id ↔ y = e) →
        (∀ y ∈ rest, y.isRepeatedTaken e.addr = false) → s.tr.awaitSeg = none →
        ∃ t, exec (.busError n l) s = .next t ∧ Frame [.bt, .mr] [.port] u t ∧ t.mr = s.counted ∧
          t.bt = { s.bt with tallies := s.bt.tallies.filter (fun y => y ≠ e) } ∧ t.smp.writes = rest ++ [segmentFinal e] ∧
          t.out = x.written (min n g.words)) ∧
      (∀ (b : Band) (tl : List Band), x.kind = .countsWrite .retirement → s.bt.track = b :: tl →
        (∀ y ∈ s.bt.tallies, y.id = b.tally ↔ y = e) → (∀ y ∈ tl, y.state ≠ .finished) → e.printed = false → s.rasterIdle →
        s.dc.line ≠ .draining →
        ∃ t, exec (.busError n l) s = .next t ∧ Frame [.bt] [.port] u t ∧ t.smp.writes = rest ∧ t.out = x.written (min n g.words) ∧
          t.bt = { s.bt with track := tl, retiring := none, lastRetired := b.number,
                             tallies := s.bt.tallies.map (fun y =>
                               if y = e then { e with inTrack := e.inTrack - 1 } else y) })) ∧
    (∀ (x : Transfer) (rest : List Transfer) (g : Grant) (n : Nat), s.smp.grant = some g → g.client = .read → g.dropped = false →
      s.smp.reads = x :: rest → x.kind = .progress → x.moved + g.words ≤ x.words.length →
      ∃ t, exec (.busError n l) s = .next t ∧ Becomes { u with out := x.written (min n g.words) } [.port] t ∧
        t.smp.reads.length = rest.length ∧ ((∀ y ∈ rest.head?, y.kind ≠ .progress) → t.smp.reads = rest)) ∧
    (∀ (g : Grant) (w : Segment) (ws : List Word) (y : RowSlot) (done rest : List RowSlot), s.smp.grant = some g → g.client = .row →
      g.dropped = false → s.re.seg = some w → s.re.slots = done ++ y :: rest → (∀ z ∈ done, z.complete = true) → y.complete = false →
      y.words.length + min ws.length g.words < w.width →
      ∃ t, exec (.burstEnd ws l) s = .next t ∧
        Becomes { u with out := [], re.slots := done ++ { y with words := y.words ++ ws.take g.words } :: rest } [] t) ∧
    (∀ (g : Grant) (n : Nat) (y : RowSlot) (done rest : List RowSlot), s.smp.grant = some g → g.client = .row →
      g.dropped = false → s.re.slots = done ++ y :: rest → (∀ z ∈ done, z.complete = true) → y.complete = false →
      ∃ t, exec (.busError n l) s = .next t ∧
        Becomes { u with out := [], re.slots := done ++ { y with words := [] } :: rest } [.port] t)

/-- PROGRESS_TIMER at one second while the line is moving requests a progress block write, and while PROGBASE names no block drops the
request and restarts the timer; at rest or before the second nothing happens, which for the timer is log entry 18. A request while a
write is in progress is queued behind it, log entry 46; one while a write is pending is merged with it; one that finds the bus idle and
client 3's queue empty is granted at once, with the update count advanced and the timer restarted. The drop, which leaves no write
pending (log entry 35), and the grant at once are said of states that meet the port law. When the last burst of a progress block write
ends its words have gone out in ascending order, and a request that came meanwhile stays pending (R187, R188). -/
def Obligations.Progress : Prop :=
  ∀ s : State, s.commandable →
    (s.dc.line.moving = true → 1000 ≤ s.smp.progTimer →
      ∃ t, exec .progressTimer s = .next t ∧ Becomes { s with out := [] } [] t ∧
        (PortLaw s → s.smp.progBase = 0 ∨ 4294967295 < s.smp.progBase.toNat + 127 →
          t.smp.progTimer = 0 ∧ t.smp.updateCount = s.smp.updateCount ∧ t.smp.reads = s.smp.reads) ∧
        (PortLaw s → s.smp.progBase ≠ 0 → s.smp.progBase.toNat + 127 ≤ 4294967295 → s.smp.grant = none → s.smp.reads = [] →
          t.smp.progTimer = 0 ∧ t.smp.updateCount = s.smp.updateCount + 1 ∧
          t.smp.grant = some { client := .read, words := min s.smp.burstLimit 32, dropped := false } ∧
          ∃ y, t.smp.reads = [y] ∧ y.kind = .progress ∧ y.addr = s.smp.progBase.toNat ∧ y.moved = 0 ∧ y.left = 32 ∧
            y.words.length = 32) ∧
        (s.smp.progBase ≠ 0 → s.smp.progBase.toNat + 127 ≤ 4294967295 → s.smp.grant ≠ none →
          ((∃ x ∈ s.smp.reads, x.kind = .progress ∧ x.words = []) → t.smp.reads = s.smp.reads) ∧
          ((∀ x ∈ s.smp.reads, x.kind = .progress → x.words ≠ []) → t.smp.reads = s.smp.reads ++ [readOf .progress 0 32]))) ∧
    (s.dc.line.moving = false ∨ s.smp.progTimer < 1000 →
      ∃ t, exec .progressTimer s = .next t ∧ Becomes { s with out := [] } [] t) ∧
    (∀ (x : Transfer) (more : List Transfer) (g : Grant), s.smp.reads = x :: more → x.kind = .progress → s.smp.grant = some g →
      g.client = .read → g.dropped = false → x.left ≤ g.words → x.moved + g.words = x.words.length →
      ∃ t, exec .progressWriteDone s = .next t ∧ Becomes { s with out := t.out } [] t ∧
        t.out = (List.range g.words).map (fun i => .busWrite (x.addr + 4 * (x.moved + i)) (x.words.getD (x.moved + i) 0)) ∧
        t.smp.updateCount = (if t.smp.grant.any (fun y => y.client = .read) ∧ (more.head?.any (fun y => y.kind = .progress ∧ y.words = []))
          then s.smp.updateCount + 1 else s.smp.updateCount) ∧
        (∀ y ∈ more, y.kind = .progress → ∃ z ∈ t.smp.reads, z.kind = .progress))

/-- The arbiter at the end of a burst, seen where the burst's transfer has been abandoned, by BURST_END and by BUS_ERROR alike: if a
waiting client's pass-over count is 8 or more it grants the highest-priority client among those, otherwise the highest-priority waiting
one; the burst moves at most the burst limit of words; the winner's count becomes 0, every other waiting client's rises by 1, and a
client with nothing waiting has 0 (R185). A progress block write takes its values and the next update count as its first burst is
granted, and its 32 words are those of 11.4: the count first and last, the state codes and the chain step of word 1, chain position,
serial, last band started and retired, speed and stretch, the zone readings, the tensions, track occupancy, gaps, the trims, and zeros in
words 20 to 30 (R188). That the input lines come with the command is log entry 31. -/
def Obligations.ArbiterChoice : Prop :=
  ∀ (l : Lines) (g : Grant) (s : State), s.pins.powerGood = true → s.smp.grant = some g → g.dropped = true →
    let rank : Client → Nat := fun c => match c with
      | .row => 0
      | .write => 1
      | .read => 2
      | .copy => 3
    let guarded : Client → Prop := fun c => s.leftOf c ≠ 0 ∧ 8 ≤ s.smp.passOver.get c
    let chosen : State → Prop := fun t =>
      ((∀ c, s.leftOf c = 0) → t.smp.grant = none ∧ ∀ c, t.smp.passOver.get c = 0) ∧
      (∀ c, s.leftOf c ≠ 0 →
        (guarded c ∧ ∀ d, guarded d → rank c ≤ rank d) ∨
          ((∀ d, ¬guarded d) ∧ ∀ d, s.leftOf d ≠ 0 → rank c ≤ rank d) →
        t.smp.grant = some { client := c, words := min s.smp.burstLimit (s.leftOf c), dropped := false } ∧
        ∀ d, t.smp.passOver.get d = if d = c ∨ s.leftOf d = 0 then 0 else s.smp.passOver.get d + 1) ∧
      (t.smp.grant.any (fun y => y.client = .read) = true → ∀ (x : Transfer) (more : List Transfer), s.smp.reads = x :: more →
        x.kind = .progress → x.words = [] →
        t.smp.updateCount = s.smp.updateCount + 1 ∧ t.smp.progTimer = 0 ∧
        ∃ y, t.smp.reads = y :: more ∧ y.kind = .progress ∧ y.addr = s.smp.progBase.toNat ∧ y.words.length = 32 ∧
          (let w := wordAt y.words
           let n := BitVec.ofNat 32
           CodesStates s (w 1) ∧ ([.header, .link] : List ChainStep)[fieldAt (w 1) 20 1]? = some s.tr.step ∧ fieldAt (w 1) 21 11 = 0 ∧
           w 0 = t.smp.updateCount ∧ w 31 = t.smp.updateCount ∧ w 2 = n s.tr.pos ∧ w 3 = s.re.serial ∧ w 4 = n s.re.lastStarted ∧
           w 5 = n s.bt.lastRetired ∧ fieldAt (w 6) 0 16 = s.dc.ref / 1000 % 65536 ∧ fieldAt (w 6) 16 16 = s.dc.stretch % 65536 ∧
           (∀ i : Fin 8, fieldAt (w (7 + i.val / 2)) (16 * (i.val % 2)) 16 = ((s.hc.zones.get i).reading.getD 65535) % 65536 ∧
             fieldAt (w (16 + i.val / 2)) (16 * (i.val % 2)) 16 = (BitVec.ofInt 16 (s.ps.slots.get i).tau).toNat) ∧
           w 11 = BitVec.ofInt 32 s.dc.webs.paper.tension ∧ w 12 = BitVec.ofInt 32 s.dc.webs.fabric.tension ∧
           w 13 = BitVec.ofInt 32 s.dc.webs.tissue.tension ∧ fieldAt (w 14) 0 16 = s.mr.counterCopy % 65536 ∧
           fieldAt (w 14) 16 8 = s.bt.track.length % 256 ∧ fieldAt (w 14) 24 8 = 0 ∧ w 15 = n s.re.gaps ∧ ∀ i, 20 ≤ i → i < 31 → w i = 0))
    (∀ ws : List Word, ∃ t, exec (.burstEnd ws l) s = .next t ∧ Becomes { sampleLines l s with out := [] } [] t ∧ chosen t) ∧
    (∀ n : Nat, ∃ t, exec (.busError n l) s = .next t ∧ Becomes { sampleLines l s with out := [] } [.port] t ∧ chosen t)

/-! ## Rules of the pixel pipeline, the band start and the verdict -/

/-- The verdict of a retiring band is the first line of the table that applies: VOID by its kind, REJECT by one of eight flags, SUSPECT
by one of four, otherwise GOOD; the clip count has no part in it (R18). -/
def Obligations.VerdictTable : Prop :=
  ∀ b : Band,
    let f : Nat → Prop := fun i => b.flags.getLsbD i = true
    (b.verdictOf = .void ↔ b.kind = .void) ∧
    (b.verdictOf = .reject ↔ b.kind = .printed ∧ (f 0 ∨ f 1 ∨ f 2 ∨ f 3 ∨ f 4 ∨ f 5 ∨ f 6 ∨ f 11)) ∧
    (b.verdictOf = .suspect ↔ b.kind = .printed ∧ ¬(f 0 ∨ f 1 ∨ f 2 ∨ f 3 ∨ f 4 ∨ f 5 ∨ f 6 ∨ f 11) ∧ (f 7 ∨ f 8 ∨ f 9 ∨ f 10)) ∧
    (b.verdictOf = .good ↔ b.kind = .printed ∧ b.flags = 0) ∧
    ∀ n : Nat, { b with clip := n }.verdictOf = b.verdictOf

/-- The ink-limit law: the four stage-4 values of a pixel sum to at most the limit L of the profile; with a sum above L each channel is
floor(u × L / T), otherwise it is unchanged; none rises, and a channel of 0 stays 0. The drop level is min(3, floor((u′ × 3 + t) / 4096))
with t = d × 256 + 128 and d the dither entry at row mod 4 and column mod 4; a value of 0 gives level 0 and a value of 4095 level 3 at
every place, and a level never falls as the value rises (R60, and of R61 the level of one channel). -/
def Obligations.InkLimitLaw : Prop :=
  (∀ (limit : Nat) (u : Ink Nat),
    let T := u.c + u.m + u.y + u.k
    let v := limitInk limit u
    (limit < T → v = ⟨u.c * limit / T, u.m * limit / T, u.y * limit / T, u.k * limit / T⟩) ∧
    (T ≤ limit → v = u) ∧
    v.c + v.m + v.y + v.k ≤ limit ∧ v.c ≤ u.c ∧ v.m ≤ u.m ∧ v.y ≤ u.y ∧ v.k ≤ u.k ∧
    (u.c ≤ 4095 → u.m ≤ 4095 → u.y ≤ 4095 → u.k ≤ 4095 → T ≤ 16380 ∧ (limit = 16380 → v = u))) ∧
  (∀ row col u : Nat,
    let d := (([[0, 8, 2, 10], [12, 4, 14, 6], [3, 11, 1, 9], [15, 7, 13, 5]] : List (List Nat)).getD (row % 4) []).getD (col % 4) 0
    dropLevel row col u = min 3 ((u * 3 + (d * 256 + 128)) / 4096)) ∧
  (∀ row col u w : Nat, dropLevel row col u ≤ 3 ∧ dropLevel row col 0 = 0 ∧ dropLevel row col 4095 = 3 ∧
    (u ≤ w → dropLevel row col u ≤ dropLevel row col w)) ∧
  (∀ (p : Profile) (g row col : Nat) (x : Ink Nat), pixelLevels p g row col x = (inkOf p g x).map (dropLevel row col) ∧
    (inkOf p g x).c + (inkOf p g x).m + (inkOf p g x).y + (inkOf p g x).k ≤ p.limit)

/-- The band-start computation: the dwell is floor(W × 100 / v_set), in 80..6,000 over the ranges of R62; the mean target is the floored
mean over the enabled zones; the predicted dose is max(0, Tm − Ton) times the dwell, or 0 with no zone enabled, in 0..6,600,000 (R63,
R64, R65). A band is formed with that dose, the enabled-zone mask it was computed from, and the compensation factor of its slot's Y, Dref
and trim: clamp(1024 + floor(Y × (Dref − Dpred) / Dref) + τ, 768, 1280), which never rises with the dose (R66, R68, and R37 for the
moment). -/
def Obligations.Compensation : Prop :=
  (∀ w v : Nat, 0 < v → dwell w v * v ≤ w * 100 ∧ w * 100 < (dwell w v + 1) * v) ∧
  (∀ w v : Nat, 800 ≤ w → w ≤ 3000 → 50 ≤ v → v ≤ 1000 → 80 ≤ dwell w v ∧ dwell w v ≤ 6000) ∧
  (∀ (zones : Oct Zone) (ton w v : Nat),
    let on := zones.toList.filter (fun z => z.enable && decide (1 ≤ z.target))
    (on = [] → meanTarget zones = none ∧ predictedDose zones ton w v = 0) ∧
    (on ≠ [] → ∃ tm : Nat, meanTarget zones = some tm ∧
      tm * on.length ≤ (on.map Zone.target).sum ∧ (on.map Zone.target).sum < (tm + 1) * on.length ∧
      (predictedDose zones ton w v : Int) = max 0 ((tm : Int) - ton) * dwell w v) ∧
    ((∀ z ∈ zones.toList, z.target ≤ 2300) → 1200 ≤ ton → 800 ≤ w → w ≤ 3000 → 50 ≤ v → v ≤ 1000 →
      predictedDose zones ton w v ≤ 6600000)) ∧
  (∀ (s : State) (g : Segment),
    let q := s.ps.slots.get g.slot
    let b := s.formBand g
    (∀ i : Fin 8, b.zones.get i = ((s.hc.zones.get i).enable && decide (1 ≤ (s.hc.zones.get i).target))) ∧
    b.dpred = predictedDose s.hc.zones s.hc.ton s.cfg.w s.dc.setpoint ∧ b.tau = q.tau ∧ b.gen = q.gen ∧
    (0 < q.prof.dref → (b.g : Int) =
      max 768 (min (1024 + Int.fdiv (q.prof.yield * ((q.prof.dref : Int) - b.dpred)) q.prof.dref + q.tau) 1280))) ∧
  (∀ (y dref d d' : Nat) (tau : Int), 0 < dref → d ≤ d' → compensation y dref d' tau ≤ compensation y dref d tau)

/-! ## Laws every step keeps -/

/-- The heater law: every duty is 0 while the drum is TRIPPED or the line is in POWER_STOP or POWER_HELD; with it, the drum stays
TRIPPED in those two line states and while mains is lost. Every step keeps it (R95, R101, R103). -/
def Obligations.HeaterLawKept : Prop := ∀ s t : State, HeaterLaw s → step s = .next t → HeaterLaw t

/-- The nip law: the nip is commanded closed only while the line is STARTING, RUNNING or DRAINING. Every step keeps it (R122). -/
def Obligations.NipLawKept : Prop := ∀ s t : State, NipLaw s → step s = .next t → NipLaw t

/-- The laws on values: every slot's current trim stays in −256..255 (R81), every band's compensation factor in 768..1280 (R66), and the
track, the splice list, the row buffer and the Outstanding Trigger List within 96, 4, 32 and 4 entries. The port law: while no burst is
granted no client waits, and while PROGBASE names no block no progress block write is pending (R185, R187; a pending one is dropped by
log entry 35). Every step keeps each. -/
def Obligations.ValueLawsKept : Prop :=
  ∀ s t : State, step s = .next t →
    (TrimLaw s → TrimLaw t) ∧ (CompensationLaw s → CompensationLaw t) ∧ (CapacityLaw s → CapacityLaw t) ∧ (PortLaw s → PortLaw t)

/-- The state after power-up reset meets every law, the port law with them. -/
def Obligations.ResetMeetsLaws : Prop :=
  HeaterLaw State.reset ∧ NipLaw State.reset ∧ TrimLaw State.reset ∧ CompensationLaw State.reset ∧ CapacityLaw State.reset ∧
  PortLaw State.reset
end

