-- ==== Sys2Proof/Laws/FramesA.lean ====
section
/-! SUPPORT. Sys2Proof/Laws/FramesA.lean: for each operation of Ops, Reader, Band, Profile, Verify, Mark, Heat, what it leaves unchanged: whole blocks, and the named
fields of the blocks it changes. Cite these instead of unfolding an operation. -/

namespace Sys2Proof.Machine

/-- A loop keeps what its body keeps. -/
theorem times_keeps {α : Type} (f : State → State) (g : State → α) (h : ∀ s, g (f s) = g s) (n : Nat) (s : State) :
    g (times n f s) = g s := by
  induction n generalizing s with
  | zero => rfl
  | succ n ih => simp only [times]; rw [ih, h]

/-- A fold keeps what its step keeps. -/
theorem foldl_keeps {α β : Type} (f : State → β → State) (g : State → α) (h : ∀ s b, g (f s b) = g s) (l : List β)
    (s : State) : g (l.foldl f s) = g s := by
  induction l generalizing s with
  | nil => rfl
  | cons b l ih => simp only [List.foldl_cons]; rw [ih, h]

@[simp] theorem raise_frame (n : Notice) (s : State) :
    (raise n s).pins = s.pins ∧ (raise n s).cfg = s.cfg ∧ (raise n s).smp.chainHead = s.smp.chainHead ∧
    (raise n s).smp.progBase = s.smp.progBase ∧ (raise n s).smp.noticeMask = s.smp.noticeMask ∧
    (raise n s).smp.burstLimit = s.smp.burstLimit ∧ (raise n s).smp.pollPeriod = s.smp.pollPeriod ∧
    (raise n s).smp.soft = s.smp.soft ∧ (raise n s).smp.writes = s.smp.writes ∧ (raise n s).smp.copies = s.smp.copies ∧
    (raise n s).tr = s.tr ∧ (raise n s).re = s.re ∧ (raise n s).ps = s.ps ∧ (raise n s).bt = s.bt ∧
    (raise n s).hc = s.hc ∧ (raise n s).dc = s.dc ∧ (raise n s).mr = s.mr ∧ (raise n s).cv = s.cv ∧
    (raise n s).now = s.now ∧ (raise n s).freeCount = s.freeCount ∧ (raise n s).out = s.out ∧
    (raise n s).pending = s.pending := by
  unfold raise
  (try dsimp only)
  (repeat' split) <;> simp

@[simp] theorem raiseIf_frame (t : Bool) (n : Notice) (s : State) :
    (raiseIf t n s).pins = s.pins ∧ (raiseIf t n s).cfg = s.cfg ∧ (raiseIf t n s).smp.chainHead = s.smp.chainHead ∧
    (raiseIf t n s).smp.progBase = s.smp.progBase ∧ (raiseIf t n s).smp.noticeMask = s.smp.noticeMask ∧
    (raiseIf t n s).smp.burstLimit = s.smp.burstLimit ∧ (raiseIf t n s).smp.pollPeriod = s.smp.pollPeriod ∧
    (raiseIf t n s).smp.soft = s.smp.soft ∧ (raiseIf t n s).smp.writes = s.smp.writes ∧
    (raiseIf t n s).smp.copies = s.smp.copies ∧ (raiseIf t n s).tr = s.tr ∧ (raiseIf t n s).re = s.re ∧
    (raiseIf t n s).ps = s.ps ∧ (raiseIf t n s).bt = s.bt ∧ (raiseIf t n s).hc = s.hc ∧ (raiseIf t n s).dc = s.dc ∧
    (raiseIf t n s).mr = s.mr ∧ (raiseIf t n s).cv = s.cv ∧ (raiseIf t n s).now = s.now ∧
    (raiseIf t n s).freeCount = s.freeCount ∧ (raiseIf t n s).out = s.out ∧ (raiseIf t n s).pending = s.pending := by
  unfold raiseIf
  (try dsimp only)
  (repeat' split) <;> simp

@[simp] theorem emit_frame (o : Output) (s : State) :
    (emit o s).pins = s.pins ∧ (emit o s).cfg = s.cfg ∧ (emit o s).smp = s.smp ∧ (emit o s).tr = s.tr ∧
    (emit o s).re = s.re ∧ (emit o s).ps = s.ps ∧ (emit o s).bt = s.bt ∧ (emit o s).hc = s.hc ∧ (emit o s).dc = s.dc ∧
    (emit o s).mr = s.mr ∧ (emit o s).cv = s.cv ∧ (emit o s).now = s.now ∧ (emit o s).freeCount = s.freeCount ∧
    (emit o s).pending = s.pending := by
  unfold emit
  (try dsimp only)
  (repeat' split) <;> simp

@[simp] theorem sampleLines_frame (l : Lines) (s : State) :
    (sampleLines l s).pins.powerGood = s.pins.powerGood ∧ (sampleLines l s).pins.mainsOk = s.pins.mainsOk ∧
    (sampleLines l s).cfg = s.cfg ∧ (sampleLines l s).smp = s.smp ∧ (sampleLines l s).tr = s.tr ∧
    (sampleLines l s).re = s.re ∧ (sampleLines l s).ps = s.ps ∧ (sampleLines l s).bt = s.bt ∧
    (sampleLines l s).hc = s.hc ∧ (sampleLines l s).dc = s.dc ∧ (sampleLines l s).mr = s.mr ∧
    (sampleLines l s).cv = s.cv ∧ (sampleLines l s).now = s.now ∧ (sampleLines l s).freeCount = s.freeCount ∧
    (sampleLines l s).out = s.out ∧ (sampleLines l s).pending = s.pending := by
  unfold sampleLines
  (try dsimp only)
  (repeat' split) <;> simp

@[simp] theorem queueWrite_frame (t : Transfer) (s : State) :
    (queueWrite t s).pins = s.pins ∧ (queueWrite t s).cfg = s.cfg ∧ (queueWrite t s).smp.chainHead = s.smp.chainHead ∧
    (queueWrite t s).smp.progBase = s.smp.progBase ∧ (queueWrite t s).smp.noticeMask = s.smp.noticeMask ∧
    (queueWrite t s).smp.burstLimit = s.smp.burstLimit ∧ (queueWrite t s).smp.pollPeriod = s.smp.pollPeriod ∧
    (queueWrite t s).smp.soft = s.smp.soft ∧ (queueWrite t s).smp.copies = s.smp.copies ∧ (queueWrite t s).tr = s.tr ∧
    (queueWrite t s).re = s.re ∧ (queueWrite t s).ps = s.ps ∧ (queueWrite t s).bt = s.bt ∧ (queueWrite t s).hc = s.hc ∧
    (queueWrite t s).dc = s.dc ∧ (queueWrite t s).mr = s.mr ∧ (queueWrite t s).cv = s.cv ∧ (queueWrite t s).now = s.now ∧
    (queueWrite t s).freeCount = s.freeCount ∧ (queueWrite t s).out = s.out ∧ (queueWrite t s).pending = s.pending := by
  unfold queueWrite
  (try dsimp only)
  (repeat' split) <;> simp

@[simp] theorem queueRead_frame (t : Transfer) (s : State) :
    (queueRead t s).pins = s.pins ∧ (queueRead t s).cfg = s.cfg ∧ (queueRead t s).smp.chainHead = s.smp.chainHead ∧
    (queueRead t s).smp.progBase = s.smp.progBase ∧ (queueRead t s).smp.noticeMask = s.smp.noticeMask ∧
    (queueRead t s).smp.burstLimit = s.smp.burstLimit ∧ (queueRead t s).smp.pollPeriod = s.smp.pollPeriod ∧
    (queueRead t s).smp.soft = s.smp.soft ∧ (queueRead t s).smp.writes = s.smp.writes ∧
    (queueRead t s).smp.copies = s.smp.copies ∧ (queueRead t s).tr = s.tr ∧ (queueRead t s).re = s.re ∧
    (queueRead t s).ps = s.ps ∧ (queueRead t s).bt = s.bt ∧ (queueRead t s).hc = s.hc ∧ (queueRead t s).dc = s.dc ∧
    (queueRead t s).mr = s.mr ∧ (queueRead t s).cv = s.cv ∧ (queueRead t s).now = s.now ∧
    (queueRead t s).freeCount = s.freeCount ∧ (queueRead t s).out = s.out ∧ (queueRead t s).pending = s.pending := by
  unfold queueRead
  (try dsimp only)
  (repeat' split) <;> simp

@[simp] theorem queueCopy_frame (t : Transfer) (s : State) :
    (queueCopy t s).pins = s.pins ∧ (queueCopy t s).cfg = s.cfg ∧ (queueCopy t s).smp.chainHead = s.smp.chainHead ∧
    (queueCopy t s).smp.progBase = s.smp.progBase ∧ (queueCopy t s).smp.noticeMask = s.smp.noticeMask ∧
    (queueCopy t s).smp.burstLimit = s.smp.burstLimit ∧ (queueCopy t s).smp.pollPeriod = s.smp.pollPeriod ∧
    (queueCopy t s).smp.soft = s.smp.soft ∧ (queueCopy t s).smp.writes = s.smp.writes ∧ (queueCopy t s).tr = s.tr ∧
    (queueCopy t s).re = s.re ∧ (queueCopy t s).ps = s.ps ∧ (queueCopy t s).bt = s.bt ∧ (queueCopy t s).hc = s.hc ∧
    (queueCopy t s).dc = s.dc ∧ (queueCopy t s).mr = s.mr ∧ (queueCopy t s).cv = s.cv ∧ (queueCopy t s).now = s.now ∧
    (queueCopy t s).freeCount = s.freeCount ∧ (queueCopy t s).out = s.out ∧ (queueCopy t s).pending = s.pending := by
  unfold queueCopy
  (try dsimp only)
  (repeat' split) <;> simp

@[simp] theorem requestProgress_frame (s : State) :
    (requestProgress s).pins = s.pins ∧ (requestProgress s).cfg = s.cfg ∧
    (requestProgress s).smp.chainHead = s.smp.chainHead ∧ (requestProgress s).smp.progBase = s.smp.progBase ∧
    (requestProgress s).smp.noticeMask = s.smp.noticeMask ∧ (requestProgress s).smp.burstLimit = s.smp.burstLimit ∧
    (requestProgress s).smp.pollPeriod = s.smp.pollPeriod ∧ (requestProgress s).smp.soft = s.smp.soft ∧
    (requestProgress s).smp.writes = s.smp.writes ∧ (requestProgress s).smp.copies = s.smp.copies ∧
    (requestProgress s).tr = s.tr ∧ (requestProgress s).re = s.re ∧ (requestProgress s).ps = s.ps ∧
    (requestProgress s).bt = s.bt ∧ (requestProgress s).hc = s.hc ∧ (requestProgress s).dc = s.dc ∧
    (requestProgress s).mr = s.mr ∧ (requestProgress s).cv = s.cv ∧ (requestProgress s).now = s.now ∧
    (requestProgress s).freeCount = s.freeCount ∧ (requestProgress s).out = s.out ∧
    (requestProgress s).pending = s.pending := by
  unfold requestProgress
  (try dsimp only)
  (repeat' split) <;> simp

@[simp] theorem idleCounts_frame (s : State) :
    (idleCounts s).pins = s.pins ∧ (idleCounts s).cfg = s.cfg ∧ (idleCounts s).smp.chainHead = s.smp.chainHead ∧
    (idleCounts s).smp.progBase = s.smp.progBase ∧ (idleCounts s).smp.noticeMask = s.smp.noticeMask ∧
    (idleCounts s).smp.burstLimit = s.smp.burstLimit ∧ (idleCounts s).smp.pollPeriod = s.smp.pollPeriod ∧
    (idleCounts s).smp.soft = s.smp.soft ∧ (idleCounts s).smp.writes = s.smp.writes ∧
    (idleCounts s).smp.copies = s.smp.copies ∧ (idleCounts s).tr = s.tr ∧ (idleCounts s).re = s.re ∧
    (idleCounts s).ps = s.ps ∧ (idleCounts s).bt = s.bt ∧ (idleCounts s).hc = s.hc ∧ (idleCounts s).dc = s.dc ∧
    (idleCounts s).mr = s.mr ∧ (idleCounts s).cv = s.cv ∧ (idleCounts s).now = s.now ∧
    (idleCounts s).freeCount = s.freeCount ∧ (idleCounts s).out = s.out ∧ (idleCounts s).pending = s.pending := by
  unfold idleCounts
  (try dsimp only)
  (repeat' split) <;> simp

@[simp] theorem queueHeader_frame (addr : Nat) (h : HeaderWrite) (s : State) :
    (queueHeader addr h s).pins = s.pins ∧ (queueHeader addr h s).cfg = s.cfg ∧
    (queueHeader addr h s).smp.chainHead = s.smp.chainHead ∧ (queueHeader addr h s).smp.progBase = s.smp.progBase ∧
    (queueHeader addr h s).smp.noticeMask = s.smp.noticeMask ∧ (queueHeader addr h s).smp.burstLimit = s.smp.burstLimit ∧
    (queueHeader addr h s).smp.pollPeriod = s.smp.pollPeriod ∧ (queueHeader addr h s).smp.soft = s.smp.soft ∧
    (queueHeader addr h s).smp.copies = s.smp.copies ∧ (queueHeader addr h s).tr = s.tr ∧
    (queueHeader addr h s).re = s.re ∧ (queueHeader addr h s).ps = s.ps ∧ (queueHeader addr h s).bt = s.bt ∧
    (queueHeader addr h s).hc = s.hc ∧ (queueHeader addr h s).dc = s.dc ∧ (queueHeader addr h s).mr = s.mr ∧
    (queueHeader addr h s).cv = s.cv ∧ (queueHeader addr h s).now = s.now ∧
    (queueHeader addr h s).freeCount = s.freeCount ∧ (queueHeader addr h s).out = s.out ∧
    (queueHeader addr h s).pending = s.pending := by
  unfold queueHeader
  (try dsimp only)
  (repeat' split) <;> simp

@[simp] theorem modBand_frame (n : Nat) (f : Band → Band) (s : State) :
    (modBand n f s).pins = s.pins ∧ (modBand n f s).cfg = s.cfg ∧ (modBand n f s).smp = s.smp ∧
    (modBand n f s).tr = s.tr ∧ (modBand n f s).re = s.re ∧ (modBand n f s).ps = s.ps ∧
    (modBand n f s).bt.splices = s.bt.splices ∧ (modBand n f s).bt.tallies = s.bt.tallies ∧
    (modBand n f s).bt.pos = s.bt.pos ∧ (modBand n f s).bt.nextNumber = s.bt.nextNumber ∧
    (modBand n f s).bt.overflow = s.bt.overflow ∧ (modBand n f s).bt.retiring = s.bt.retiring ∧
    (modBand n f s).hc = s.hc ∧ (modBand n f s).dc = s.dc ∧ (modBand n f s).mr = s.mr ∧ (modBand n f s).cv = s.cv ∧
    (modBand n f s).now = s.now ∧ (modBand n f s).freeCount = s.freeCount ∧ (modBand n f s).out = s.out ∧
    (modBand n f s).pending = s.pending := by
  unfold modBand
  (try dsimp only)
  (repeat' split) <;> simp

@[simp] theorem modTrack_frame (f : Band → Band) (s : State) :
    (modTrack f s).pins = s.pins ∧ (modTrack f s).cfg = s.cfg ∧ (modTrack f s).smp = s.smp ∧ (modTrack f s).tr = s.tr ∧
    (modTrack f s).re = s.re ∧ (modTrack f s).ps = s.ps ∧ (modTrack f s).bt.splices = s.bt.splices ∧
    (modTrack f s).bt.tallies = s.bt.tallies ∧ (modTrack f s).bt.pos = s.bt.pos ∧
    (modTrack f s).bt.nextNumber = s.bt.nextNumber ∧ (modTrack f s).bt.overflow = s.bt.overflow ∧
    (modTrack f s).bt.retiring = s.bt.retiring ∧ (modTrack f s).hc = s.hc ∧ (modTrack f s).dc = s.dc ∧
    (modTrack f s).mr = s.mr ∧ (modTrack f s).cv = s.cv ∧ (modTrack f s).now = s.now ∧
    (modTrack f s).freeCount = s.freeCount ∧ (modTrack f s).out = s.out ∧ (modTrack f s).pending = s.pending := by
  unfold modTrack
  (try dsimp only)
  (repeat' split) <;> simp

@[simp] theorem modTally_frame (id : Nat) (f : Tally → Tally) (s : State) :
    (modTally id f s).pins = s.pins ∧ (modTally id f s).cfg = s.cfg ∧ (modTally id f s).smp = s.smp ∧
    (modTally id f s).tr = s.tr ∧ (modTally id f s).re = s.re ∧ (modTally id f s).ps = s.ps ∧
    (modTally id f s).bt.track = s.bt.track ∧ (modTally id f s).bt.splices = s.bt.splices ∧
    (modTally id f s).bt.pos = s.bt.pos ∧ (modTally id f s).bt.nextNumber = s.bt.nextNumber ∧
    (modTally id f s).bt.overflow = s.bt.overflow ∧ (modTally id f s).bt.retiring = s.bt.retiring ∧
    (modTally id f s).hc = s.hc ∧ (modTally id f s).dc = s.dc ∧ (modTally id f s).mr = s.mr ∧
    (modTally id f s).cv = s.cv ∧ (modTally id f s).now = s.now ∧ (modTally id f s).freeCount = s.freeCount ∧
    (modTally id f s).out = s.out ∧ (modTally id f s).pending = s.pending := by
  unfold modTally
  (try dsimp only)
  (repeat' split) <;> simp

@[simp] theorem setReader_frame (r : ReaderState) (s : State) :
    (setReader r s).pins = s.pins ∧ (setReader r s).cfg = s.cfg ∧ (setReader r s).smp = s.smp ∧
    (setReader r s).tr.pos = s.tr.pos ∧ (setReader r s).tr.step = s.tr.step ∧ (setReader r s).tr.ticket = s.tr.ticket ∧
    (setReader r s).tr.pauseReq = s.tr.pauseReq ∧ (setReader r s).tr.haltReq = s.tr.haltReq ∧ (setReader r s).re = s.re ∧
    (setReader r s).ps = s.ps ∧ (setReader r s).bt = s.bt ∧ (setReader r s).hc = s.hc ∧ (setReader r s).dc = s.dc ∧
    (setReader r s).mr = s.mr ∧ (setReader r s).cv = s.cv ∧ (setReader r s).now = s.now ∧
    (setReader r s).freeCount = s.freeCount ∧ (setReader r s).out = s.out ∧ (setReader r s).pending = s.pending := by
  unfold setReader
  (try dsimp only)
  (repeat' split) <;> simp

@[simp] theorem issueRead_frame (s : State) :
    (issueRead s).pins = s.pins ∧ (issueRead s).cfg = s.cfg ∧ (issueRead s).smp.chainHead = s.smp.chainHead ∧
    (issueRead s).smp.progBase = s.smp.progBase ∧ (issueRead s).smp.noticeMask = s.smp.noticeMask ∧
    (issueRead s).smp.burstLimit = s.smp.burstLimit ∧ (issueRead s).smp.pollPeriod = s.smp.pollPeriod ∧
    (issueRead s).smp.soft = s.smp.soft ∧ (issueRead s).smp.writes = s.smp.writes ∧
    (issueRead s).smp.copies = s.smp.copies ∧ (issueRead s).tr = s.tr ∧ (issueRead s).re = s.re ∧
    (issueRead s).ps = s.ps ∧ (issueRead s).bt = s.bt ∧ (issueRead s).hc = s.hc ∧ (issueRead s).dc = s.dc ∧
    (issueRead s).mr = s.mr ∧ (issueRead s).cv = s.cv ∧ (issueRead s).now = s.now ∧
    (issueRead s).freeCount = s.freeCount ∧ (issueRead s).out = s.out ∧ (issueRead s).pending = s.pending := by
  unfold issueRead
  (try dsimp only)
  (repeat' split) <;> simp

@[simp] theorem enterIdle_frame (s : State) :
    (enterIdle s).pins = s.pins ∧ (enterIdle s).cfg = s.cfg ∧ (enterIdle s).smp = s.smp ∧
    (enterIdle s).tr.pos = s.tr.pos ∧ (enterIdle s).tr.step = s.tr.step ∧ (enterIdle s).tr.ticket = s.tr.ticket ∧
    (enterIdle s).tr.pauseReq = s.tr.pauseReq ∧ (enterIdle s).re = s.re ∧ (enterIdle s).ps = s.ps ∧
    (enterIdle s).bt = s.bt ∧ (enterIdle s).hc = s.hc ∧ (enterIdle s).dc = s.dc ∧ (enterIdle s).mr = s.mr ∧
    (enterIdle s).cv = s.cv ∧ (enterIdle s).now = s.now ∧ (enterIdle s).freeCount = s.freeCount ∧
    (enterIdle s).out = s.out ∧ (enterIdle s).pending = s.pending := by
  unfold enterIdle
  (try dsimp only)
  (repeat' split) <;> simp

@[simp] theorem trContinue_frame (s : State) :
    (trContinue s).pins = s.pins ∧ (trContinue s).cfg = s.cfg ∧ (trContinue s).smp.chainHead = s.smp.chainHead ∧
    (trContinue s).smp.progBase = s.smp.progBase ∧ (trContinue s).smp.noticeMask = s.smp.noticeMask ∧
    (trContinue s).smp.burstLimit = s.smp.burstLimit ∧ (trContinue s).smp.pollPeriod = s.smp.pollPeriod ∧
    (trContinue s).smp.soft = s.smp.soft ∧ (trContinue s).smp.writes = s.smp.writes ∧
    (trContinue s).smp.copies = s.smp.copies ∧ (trContinue s).tr.pos = s.tr.pos ∧ (trContinue s).tr.step = s.tr.step ∧
    (trContinue s).tr.ticket = s.tr.ticket ∧ (trContinue s).tr.pauseReq = s.tr.pauseReq ∧ (trContinue s).re = s.re ∧
    (trContinue s).ps = s.ps ∧ (trContinue s).bt = s.bt ∧ (trContinue s).hc = s.hc ∧ (trContinue s).dc = s.dc ∧
    (trContinue s).mr = s.mr ∧ (trContinue s).cv = s.cv ∧ (trContinue s).now = s.now ∧
    (trContinue s).freeCount = s.freeCount ∧ (trContinue s).out = s.out ∧ (trContinue s).pending = s.pending := by
  unfold trContinue
  (try dsimp only)
  (repeat' split) <;> simp

@[simp] theorem readerLook_frame (s : State) :
    (readerLook s).pins = s.pins ∧ (readerLook s).cfg = s.cfg ∧ (readerLook s).smp.chainHead = s.smp.chainHead ∧
    (readerLook s).smp.progBase = s.smp.progBase ∧ (readerLook s).smp.noticeMask = s.smp.noticeMask ∧
    (readerLook s).smp.burstLimit = s.smp.burstLimit ∧ (readerLook s).smp.pollPeriod = s.smp.pollPeriod ∧
    (readerLook s).smp.soft = s.smp.soft ∧ (readerLook s).smp.writes = s.smp.writes ∧
    (readerLook s).smp.copies = s.smp.copies ∧ (readerLook s).tr = s.tr ∧ (readerLook s).re = s.re ∧
    (readerLook s).ps = s.ps ∧ (readerLook s).bt = s.bt ∧ (readerLook s).hc = s.hc ∧ (readerLook s).dc = s.dc ∧
    (readerLook s).mr = s.mr ∧ (readerLook s).cv = s.cv ∧ (readerLook s).now = s.now ∧
    (readerLook s).freeCount = s.freeCount ∧ (readerLook s).out = s.out ∧ (readerLook s).pending = s.pending := by
  unfold readerLook
  (try dsimp only)
  (repeat' split) <;> simp

@[simp] theorem dropGrant_frame (c : Client) (t : Bool) (s : State) :
    (dropGrant c t s).pins = s.pins ∧ (dropGrant c t s).cfg = s.cfg ∧ (dropGrant c t s).smp.chainHead = s.smp.chainHead ∧
    (dropGrant c t s).smp.progBase = s.smp.progBase ∧ (dropGrant c t s).smp.noticeMask = s.smp.noticeMask ∧
    (dropGrant c t s).smp.burstLimit = s.smp.burstLimit ∧ (dropGrant c t s).smp.pollPeriod = s.smp.pollPeriod ∧
    (dropGrant c t s).smp.soft = s.smp.soft ∧ (dropGrant c t s).smp.writes = s.smp.writes ∧
    (dropGrant c t s).smp.copies = s.smp.copies ∧ (dropGrant c t s).tr = s.tr ∧ (dropGrant c t s).re = s.re ∧
    (dropGrant c t s).ps = s.ps ∧ (dropGrant c t s).bt = s.bt ∧ (dropGrant c t s).hc = s.hc ∧
    (dropGrant c t s).dc = s.dc ∧ (dropGrant c t s).mr = s.mr ∧ (dropGrant c t s).cv = s.cv ∧
    (dropGrant c t s).now = s.now ∧ (dropGrant c t s).freeCount = s.freeCount ∧ (dropGrant c t s).out = s.out ∧
    (dropGrant c t s).pending = s.pending := by
  unfold dropGrant
  (try dsimp only)
  (repeat' split) <;> simp

@[simp] theorem abandonTicketRead_frame (s : State) :
    (abandonTicketRead s).pins = s.pins ∧ (abandonTicketRead s).cfg = s.cfg ∧
    (abandonTicketRead s).smp.chainHead = s.smp.chainHead ∧ (abandonTicketRead s).smp.progBase = s.smp.progBase ∧
    (abandonTicketRead s).smp.noticeMask = s.smp.noticeMask ∧ (abandonTicketRead s).smp.burstLimit = s.smp.burstLimit ∧
    (abandonTicketRead s).smp.pollPeriod = s.smp.pollPeriod ∧ (abandonTicketRead s).smp.soft = s.smp.soft ∧
    (abandonTicketRead s).smp.writes = s.smp.writes ∧ (abandonTicketRead s).smp.copies = s.smp.copies ∧
    (abandonTicketRead s).tr = s.tr ∧ (abandonTicketRead s).re = s.re ∧ (abandonTicketRead s).ps = s.ps ∧
    (abandonTicketRead s).bt = s.bt ∧ (abandonTicketRead s).hc = s.hc ∧ (abandonTicketRead s).dc = s.dc ∧
    (abandonTicketRead s).mr = s.mr ∧ (abandonTicketRead s).cv = s.cv ∧ (abandonTicketRead s).now = s.now ∧
    (abandonTicketRead s).freeCount = s.freeCount ∧ (abandonTicketRead s).out = s.out ∧
    (abandonTicketRead s).pending = s.pending := by
  unfold abandonTicketRead
  (try dsimp only)
  (repeat' split) <;> simp

@[simp] theorem leaveHolding_frame (addr : Nat) (s : State) :
    (leaveHolding addr s).pins = s.pins ∧ (leaveHolding addr s).cfg = s.cfg ∧
    (leaveHolding addr s).smp.chainHead = s.smp.chainHead ∧ (leaveHolding addr s).smp.progBase = s.smp.progBase ∧
    (leaveHolding addr s).smp.noticeMask = s.smp.noticeMask ∧ (leaveHolding addr s).smp.burstLimit = s.smp.burstLimit ∧
    (leaveHolding addr s).smp.pollPeriod = s.smp.pollPeriod ∧ (leaveHolding addr s).smp.soft = s.smp.soft ∧
    (leaveHolding addr s).smp.writes = s.smp.writes ∧ (leaveHolding addr s).smp.copies = s.smp.copies ∧
    (leaveHolding addr s).tr.pos = s.tr.pos ∧ (leaveHolding addr s).tr.step = s.tr.step ∧
    (leaveHolding addr s).tr.pauseReq = s.tr.pauseReq ∧ (leaveHolding addr s).re = s.re ∧
    (leaveHolding addr s).ps = s.ps ∧ (leaveHolding addr s).bt = s.bt ∧ (leaveHolding addr s).hc = s.hc ∧
    (leaveHolding addr s).dc = s.dc ∧ (leaveHolding addr s).mr = s.mr ∧ (leaveHolding addr s).cv = s.cv ∧
    (leaveHolding addr s).now = s.now ∧ (leaveHolding addr s).freeCount = s.freeCount ∧
    (leaveHolding addr s).out = s.out ∧ (leaveHolding addr s).pending = s.pending := by
  unfold leaveHolding
  (try dsimp only)
  (repeat' split) <;> simp

@[simp] theorem queueSegmentHeader_frame (addr : Nat) (notify : Bool) (st : TicketState) (status : Status) (s : State) :
    (queueSegmentHeader addr notify st status s).pins = s.pins ∧
    (queueSegmentHeader addr notify st status s).cfg = s.cfg ∧
    (queueSegmentHeader addr notify st status s).smp.chainHead = s.smp.chainHead ∧
    (queueSegmentHeader addr notify st status s).smp.progBase = s.smp.progBase ∧
    (queueSegmentHeader addr notify st status s).smp.noticeMask = s.smp.noticeMask ∧
    (queueSegmentHeader addr notify st status s).smp.burstLimit = s.smp.burstLimit ∧
    (queueSegmentHeader addr notify st status s).smp.pollPeriod = s.smp.pollPeriod ∧
    (queueSegmentHeader addr notify st status s).smp.soft = s.smp.soft ∧
    (queueSegmentHeader addr notify st status s).smp.copies = s.smp.copies ∧
    (queueSegmentHeader addr notify st status s).tr.reader = s.tr.reader ∧
    (queueSegmentHeader addr notify st status s).tr.pos = s.tr.pos ∧
    (queueSegmentHeader addr notify st status s).tr.step = s.tr.step ∧
    (queueSegmentHeader addr notify st status s).tr.ticket = s.tr.ticket ∧
    (queueSegmentHeader addr notify st status s).tr.pauseReq = s.tr.pauseReq ∧
    (queueSegmentHeader addr notify st status s).tr.haltReq = s.tr.haltReq ∧
    (queueSegmentHeader addr notify st status s).re = s.re ∧ (queueSegmentHeader addr notify st status s).ps = s.ps ∧
    (queueSegmentHeader addr notify st status s).bt = s.bt ∧ (queueSegmentHeader addr notify st status s).hc = s.hc ∧
    (queueSegmentHeader addr notify st status s).dc = s.dc ∧ (queueSegmentHeader addr notify st status s).mr = s.mr ∧
    (queueSegmentHeader addr notify st status s).cv = s.cv ∧ (queueSegmentHeader addr notify st status s).now = s.now ∧
    (queueSegmentHeader addr notify st status s).freeCount = s.freeCount ∧
    (queueSegmentHeader addr notify st status s).out = s.out ∧
    (queueSegmentHeader addr notify st status s).pending = s.pending := by
  unfold queueSegmentHeader
  (try dsimp only)
  (repeat' split) <;> simp

@[simp] theorem finishTicket_frame (st : TicketState) (status : Status) (detail : Nat) (s : State) :
    (finishTicket st status detail s).pins = s.pins ∧ (finishTicket st status detail s).cfg = s.cfg ∧
    (finishTicket st status detail s).smp.chainHead = s.smp.chainHead ∧
    (finishTicket st status detail s).smp.progBase = s.smp.progBase ∧
    (finishTicket st status detail s).smp.noticeMask = s.smp.noticeMask ∧
    (finishTicket st status detail s).smp.burstLimit = s.smp.burstLimit ∧
    (finishTicket st status detail s).smp.pollPeriod = s.smp.pollPeriod ∧
    (finishTicket st status detail s).smp.soft = s.smp.soft ∧
    (finishTicket st status detail s).smp.copies = s.smp.copies ∧
    (finishTicket st status detail s).tr.reader = s.tr.reader ∧ (finishTicket st status detail s).tr.pos = s.tr.pos ∧
    (finishTicket st status detail s).tr.step = s.tr.step ∧
    (finishTicket st status detail s).tr.pauseReq = s.tr.pauseReq ∧
    (finishTicket st status detail s).tr.haltReq = s.tr.haltReq ∧ (finishTicket st status detail s).re = s.re ∧
    (finishTicket st status detail s).ps = s.ps ∧ (finishTicket st status detail s).bt = s.bt ∧
    (finishTicket st status detail s).hc = s.hc ∧ (finishTicket st status detail s).dc = s.dc ∧
    (finishTicket st status detail s).mr = s.mr ∧ (finishTicket st status detail s).cv = s.cv ∧
    (finishTicket st status detail s).now = s.now ∧ (finishTicket st status detail s).freeCount = s.freeCount ∧
    (finishTicket st status detail s).out = s.out ∧ (finishTicket st status detail s).pending = s.pending := by
  unfold finishTicket
  (try dsimp only)
  (repeat' split) <;> simp

@[simp] theorem refuseTicket_frame (notify : Bool) (status : Status) (detail : Nat) (s : State) :
    (refuseTicket notify status detail s).pins = s.pins ∧ (refuseTicket notify status detail s).cfg = s.cfg ∧
    (refuseTicket notify status detail s).smp.chainHead = s.smp.chainHead ∧
    (refuseTicket notify status detail s).smp.progBase = s.smp.progBase ∧
    (refuseTicket notify status detail s).smp.noticeMask = s.smp.noticeMask ∧
    (refuseTicket notify status detail s).smp.burstLimit = s.smp.burstLimit ∧
    (refuseTicket notify status detail s).smp.pollPeriod = s.smp.pollPeriod ∧
    (refuseTicket notify status detail s).smp.soft = s.smp.soft ∧
    (refuseTicket notify status detail s).smp.copies = s.smp.copies ∧
    (refuseTicket notify status detail s).tr.pos = s.tr.pos ∧ (refuseTicket notify status detail s).tr.step = s.tr.step ∧
    (refuseTicket notify status detail s).tr.pauseReq = s.tr.pauseReq ∧
    (refuseTicket notify status detail s).tr.haltReq = s.tr.haltReq ∧ (refuseTicket notify status detail s).re = s.re ∧
    (refuseTicket notify status detail s).ps = s.ps ∧ (refuseTicket notify status detail s).bt = s.bt ∧
    (refuseTicket notify status detail s).hc = s.hc ∧ (refuseTicket notify status detail s).dc = s.dc ∧
    (refuseTicket notify status detail s).mr = s.mr ∧ (refuseTicket notify status detail s).cv = s.cv ∧
    (refuseTicket notify status detail s).now = s.now ∧ (refuseTicket notify status detail s).freeCount = s.freeCount ∧
    (refuseTicket notify status detail s).out = s.out ∧ (refuseTicket notify status detail s).pending = s.pending := by
  unfold refuseTicket
  (try dsimp only)
  (repeat' split) <;> simp

@[simp] theorem pollStart_frame (s : State) :
    (pollStart s).pins = s.pins ∧ (pollStart s).cfg = s.cfg ∧ (pollStart s).smp = s.smp ∧
    (pollStart s).tr.reader = s.tr.reader ∧ (pollStart s).tr.pos = s.tr.pos ∧ (pollStart s).tr.step = s.tr.step ∧
    (pollStart s).tr.ticket = s.tr.ticket ∧ (pollStart s).tr.pauseReq = s.tr.pauseReq ∧
    (pollStart s).tr.haltReq = s.tr.haltReq ∧ (pollStart s).re = s.re ∧ (pollStart s).ps = s.ps ∧
    (pollStart s).bt = s.bt ∧ (pollStart s).hc = s.hc ∧ (pollStart s).dc = s.dc ∧ (pollStart s).mr = s.mr ∧
    (pollStart s).cv = s.cv ∧ (pollStart s).now = s.now ∧ (pollStart s).freeCount = s.freeCount ∧
    (pollStart s).out = s.out ∧ (pollStart s).pending = s.pending := by
  unfold pollStart
  (try dsimp only)
  (repeat' split) <;> simp

@[simp] theorem pollStop_frame (s : State) :
    (pollStop s).pins = s.pins ∧ (pollStop s).cfg = s.cfg ∧ (pollStop s).smp = s.smp ∧
    (pollStop s).tr.reader = s.tr.reader ∧ (pollStop s).tr.pos = s.tr.pos ∧ (pollStop s).tr.step = s.tr.step ∧
    (pollStop s).tr.ticket = s.tr.ticket ∧ (pollStop s).tr.pauseReq = s.tr.pauseReq ∧
    (pollStop s).tr.haltReq = s.tr.haltReq ∧ (pollStop s).re = s.re ∧ (pollStop s).ps = s.ps ∧ (pollStop s).bt = s.bt ∧
    (pollStop s).hc = s.hc ∧ (pollStop s).dc = s.dc ∧ (pollStop s).mr = s.mr ∧ (pollStop s).cv = s.cv ∧
    (pollStop s).now = s.now ∧ (pollStop s).freeCount = s.freeCount ∧ (pollStop s).out = s.out ∧
    (pollStop s).pending = s.pending := by
  unfold pollStop
  (try dsimp only)
  (repeat' split) <;> simp

@[simp] theorem autoCount_frame (s : State) :
    (autoCount s).pins = s.pins ∧ (autoCount s).cfg = s.cfg ∧ (autoCount s).smp = s.smp ∧ (autoCount s).tr = s.tr ∧
    (autoCount s).re = s.re ∧ (autoCount s).ps = s.ps ∧ (autoCount s).bt = s.bt ∧ (autoCount s).hc = s.hc ∧
    (autoCount s).dc = s.dc ∧ (autoCount s).mr.ccur = s.mr.ccur ∧ (autoCount s).mr.lock = s.mr.lock ∧
    (autoCount s).mr.strays = s.mr.strays ∧ (autoCount s).mr.lastRead = s.mr.lastRead ∧
    (autoCount s).mr.found = s.mr.found ∧ (autoCount s).mr.miss = s.mr.miss ∧ (autoCount s).cv = s.cv ∧
    (autoCount s).now = s.now ∧ (autoCount s).freeCount = s.freeCount ∧ (autoCount s).out = s.out ∧
    (autoCount s).pending = s.pending := by
  unfold autoCount
  (try dsimp only)
  (repeat' split) <;> simp

@[simp] theorem signalFinal_frame (t : Tally) (s : State) :
    (signalFinal t s).pins = s.pins ∧ (signalFinal t s).cfg = s.cfg ∧ (signalFinal t s).smp.chainHead = s.smp.chainHead ∧
    (signalFinal t s).smp.progBase = s.smp.progBase ∧ (signalFinal t s).smp.noticeMask = s.smp.noticeMask ∧
    (signalFinal t s).smp.burstLimit = s.smp.burstLimit ∧ (signalFinal t s).smp.pollPeriod = s.smp.pollPeriod ∧
    (signalFinal t s).smp.soft = s.smp.soft ∧ (signalFinal t s).smp.copies = s.smp.copies ∧
    (signalFinal t s).tr.reader = s.tr.reader ∧ (signalFinal t s).tr.pos = s.tr.pos ∧
    (signalFinal t s).tr.step = s.tr.step ∧ (signalFinal t s).tr.ticket = s.tr.ticket ∧
    (signalFinal t s).tr.pauseReq = s.tr.pauseReq ∧ (signalFinal t s).tr.haltReq = s.tr.haltReq ∧
    (signalFinal t s).re = s.re ∧ (signalFinal t s).ps = s.ps ∧ (signalFinal t s).bt.track = s.bt.track ∧
    (signalFinal t s).bt.splices = s.bt.splices ∧ (signalFinal t s).bt.pos = s.bt.pos ∧
    (signalFinal t s).bt.nextNumber = s.bt.nextNumber ∧ (signalFinal t s).bt.overflow = s.bt.overflow ∧
    (signalFinal t s).bt.retiring = s.bt.retiring ∧ (signalFinal t s).hc = s.hc ∧ (signalFinal t s).dc = s.dc ∧
    (signalFinal t s).mr.ccur = s.mr.ccur ∧ (signalFinal t s).mr.lock = s.mr.lock ∧
    (signalFinal t s).mr.strays = s.mr.strays ∧ (signalFinal t s).mr.lastRead = s.mr.lastRead ∧
    (signalFinal t s).mr.found = s.mr.found ∧ (signalFinal t s).mr.miss = s.mr.miss ∧ (signalFinal t s).cv = s.cv ∧
    (signalFinal t s).now = s.now ∧ (signalFinal t s).freeCount = s.freeCount ∧ (signalFinal t s).out = s.out ∧
    (signalFinal t s).pending = s.pending := by
  unfold signalFinal
  (try dsimp only)
  (repeat' split) <;> simp

@[simp] theorem queueCounts_frame (why : CountsFor) (t : Tally) (s : State) :
    (queueCounts why t s).pins = s.pins ∧ (queueCounts why t s).cfg = s.cfg ∧
    (queueCounts why t s).smp.chainHead = s.smp.chainHead ∧ (queueCounts why t s).smp.progBase = s.smp.progBase ∧
    (queueCounts why t s).smp.noticeMask = s.smp.noticeMask ∧ (queueCounts why t s).smp.burstLimit = s.smp.burstLimit ∧
    (queueCounts why t s).smp.pollPeriod = s.smp.pollPeriod ∧ (queueCounts why t s).smp.soft = s.smp.soft ∧
    (queueCounts why t s).smp.copies = s.smp.copies ∧ (queueCounts why t s).tr = s.tr ∧ (queueCounts why t s).re = s.re ∧
    (queueCounts why t s).ps = s.ps ∧ (queueCounts why t s).bt.track = s.bt.track ∧
    (queueCounts why t s).bt.splices = s.bt.splices ∧ (queueCounts why t s).bt.pos = s.bt.pos ∧
    (queueCounts why t s).bt.nextNumber = s.bt.nextNumber ∧ (queueCounts why t s).bt.overflow = s.bt.overflow ∧
    (queueCounts why t s).bt.retiring = s.bt.retiring ∧ (queueCounts why t s).hc = s.hc ∧
    (queueCounts why t s).dc = s.dc ∧ (queueCounts why t s).mr = s.mr ∧ (queueCounts why t s).cv = s.cv ∧
    (queueCounts why t s).now = s.now ∧ (queueCounts why t s).freeCount = s.freeCount ∧
    (queueCounts why t s).out = s.out ∧ (queueCounts why t s).pending = s.pending := by
  unfold queueCounts
  (try dsimp only)
  (repeat' split) <;> simp

@[simp] theorem finalise_frame (id : Nat) (s : State) :
    (finalise id s).pins = s.pins ∧ (finalise id s).cfg = s.cfg ∧ (finalise id s).smp.chainHead = s.smp.chainHead ∧
    (finalise id s).smp.progBase = s.smp.progBase ∧ (finalise id s).smp.noticeMask = s.smp.noticeMask ∧
    (finalise id s).smp.burstLimit = s.smp.burstLimit ∧ (finalise id s).smp.pollPeriod = s.smp.pollPeriod ∧
    (finalise id s).smp.soft = s.smp.soft ∧ (finalise id s).smp.copies = s.smp.copies ∧
    (finalise id s).tr.reader = s.tr.reader ∧ (finalise id s).tr.pos = s.tr.pos ∧ (finalise id s).tr.step = s.tr.step ∧
    (finalise id s).tr.ticket = s.tr.ticket ∧ (finalise id s).tr.pauseReq = s.tr.pauseReq ∧
    (finalise id s).tr.haltReq = s.tr.haltReq ∧ (finalise id s).re = s.re ∧ (finalise id s).ps = s.ps ∧
    (finalise id s).bt.track = s.bt.track ∧ (finalise id s).bt.splices = s.bt.splices ∧
    (finalise id s).bt.pos = s.bt.pos ∧ (finalise id s).bt.nextNumber = s.bt.nextNumber ∧
    (finalise id s).bt.overflow = s.bt.overflow ∧ (finalise id s).bt.retiring = s.bt.retiring ∧
    (finalise id s).hc = s.hc ∧ (finalise id s).dc = s.dc ∧ (finalise id s).mr.ccur = s.mr.ccur ∧
    (finalise id s).mr.lock = s.mr.lock ∧ (finalise id s).mr.strays = s.mr.strays ∧
    (finalise id s).mr.lastRead = s.mr.lastRead ∧ (finalise id s).mr.found = s.mr.found ∧
    (finalise id s).mr.miss = s.mr.miss ∧ (finalise id s).cv = s.cv ∧ (finalise id s).now = s.now ∧
    (finalise id s).freeCount = s.freeCount ∧ (finalise id s).out = s.out ∧ (finalise id s).pending = s.pending := by
  unfold finalise
  (try dsimp only)
  (repeat' split) <;> simp

@[simp] theorem startCounts_frame (id : Nat) (s : State) :
    (startCounts id s).pins = s.pins ∧ (startCounts id s).cfg = s.cfg ∧
    (startCounts id s).smp.chainHead = s.smp.chainHead ∧ (startCounts id s).smp.progBase = s.smp.progBase ∧
    (startCounts id s).smp.noticeMask = s.smp.noticeMask ∧ (startCounts id s).smp.burstLimit = s.smp.burstLimit ∧
    (startCounts id s).smp.pollPeriod = s.smp.pollPeriod ∧ (startCounts id s).smp.soft = s.smp.soft ∧
    (startCounts id s).smp.copies = s.smp.copies ∧ (startCounts id s).tr = s.tr ∧ (startCounts id s).re = s.re ∧
    (startCounts id s).ps = s.ps ∧ (startCounts id s).bt.track = s.bt.track ∧
    (startCounts id s).bt.splices = s.bt.splices ∧ (startCounts id s).bt.pos = s.bt.pos ∧
    (startCounts id s).bt.nextNumber = s.bt.nextNumber ∧ (startCounts id s).bt.overflow = s.bt.overflow ∧
    (startCounts id s).hc = s.hc ∧ (startCounts id s).dc = s.dc ∧ (startCounts id s).mr = s.mr ∧
    (startCounts id s).cv = s.cv ∧ (startCounts id s).now = s.now ∧ (startCounts id s).freeCount = s.freeCount ∧
    (startCounts id s).out = s.out ∧ (startCounts id s).pending = s.pending := by
  unfold startCounts
  (try dsimp only)
  (repeat' split) <;> simp

@[simp] theorem startRecord_frame (b : Band) (s : State) :
    (startRecord b s).pins = s.pins ∧ (startRecord b s).cfg = s.cfg ∧ (startRecord b s).smp.chainHead = s.smp.chainHead ∧
    (startRecord b s).smp.progBase = s.smp.progBase ∧ (startRecord b s).smp.noticeMask = s.smp.noticeMask ∧
    (startRecord b s).smp.burstLimit = s.smp.burstLimit ∧ (startRecord b s).smp.pollPeriod = s.smp.pollPeriod ∧
    (startRecord b s).smp.soft = s.smp.soft ∧ (startRecord b s).smp.copies = s.smp.copies ∧ (startRecord b s).tr = s.tr ∧
    (startRecord b s).re = s.re ∧ (startRecord b s).ps = s.ps ∧ (startRecord b s).bt.track = s.bt.track ∧
    (startRecord b s).bt.splices = s.bt.splices ∧ (startRecord b s).bt.pos = s.bt.pos ∧
    (startRecord b s).bt.nextNumber = s.bt.nextNumber ∧ (startRecord b s).bt.overflow = s.bt.overflow ∧
    (startRecord b s).hc = s.hc ∧ (startRecord b s).dc = s.dc ∧ (startRecord b s).mr = s.mr ∧
    (startRecord b s).cv = s.cv ∧ (startRecord b s).now = s.now ∧ (startRecord b s).freeCount = s.freeCount ∧
    (startRecord b s).out = s.out ∧ (startRecord b s).pending = s.pending := by
  unfold startRecord
  (try dsimp only)
  (repeat' split) <;> simp

@[simp] theorem startRetirement_frame (s : State) :
    (startRetirement s).pins = s.pins ∧ (startRetirement s).cfg = s.cfg ∧
    (startRetirement s).smp.chainHead = s.smp.chainHead ∧ (startRetirement s).smp.progBase = s.smp.progBase ∧
    (startRetirement s).smp.noticeMask = s.smp.noticeMask ∧ (startRetirement s).smp.burstLimit = s.smp.burstLimit ∧
    (startRetirement s).smp.pollPeriod = s.smp.pollPeriod ∧ (startRetirement s).smp.soft = s.smp.soft ∧
    (startRetirement s).smp.copies = s.smp.copies ∧ (startRetirement s).tr = s.tr ∧ (startRetirement s).re = s.re ∧
    (startRetirement s).ps = s.ps ∧ (startRetirement s).bt.splices = s.bt.splices ∧
    (startRetirement s).bt.pos = s.bt.pos ∧ (startRetirement s).bt.nextNumber = s.bt.nextNumber ∧
    (startRetirement s).bt.overflow = s.bt.overflow ∧ (startRetirement s).hc = s.hc ∧ (startRetirement s).dc = s.dc ∧
    (startRetirement s).mr = s.mr ∧ (startRetirement s).cv = s.cv ∧ (startRetirement s).now = s.now ∧
    (startRetirement s).freeCount = s.freeCount ∧ (startRetirement s).out = s.out ∧
    (startRetirement s).pending = s.pending := by
  unfold startRetirement
  (try dsimp only)
  (repeat' split) <;> simp

@[simp] theorem recordEnded_frame (ok : Bool) (s : State) :
    (recordEnded ok s).pins = s.pins ∧ (recordEnded ok s).cfg = s.cfg ∧
    (recordEnded ok s).smp.chainHead = s.smp.chainHead ∧ (recordEnded ok s).smp.progBase = s.smp.progBase ∧
    (recordEnded ok s).smp.noticeMask = s.smp.noticeMask ∧ (recordEnded ok s).smp.burstLimit = s.smp.burstLimit ∧
    (recordEnded ok s).smp.pollPeriod = s.smp.pollPeriod ∧ (recordEnded ok s).smp.soft = s.smp.soft ∧
    (recordEnded ok s).smp.copies = s.smp.copies ∧ (recordEnded ok s).tr = s.tr ∧ (recordEnded ok s).re = s.re ∧
    (recordEnded ok s).ps = s.ps ∧ (recordEnded ok s).bt.track = s.bt.track ∧
    (recordEnded ok s).bt.splices = s.bt.splices ∧ (recordEnded ok s).bt.pos = s.bt.pos ∧
    (recordEnded ok s).bt.nextNumber = s.bt.nextNumber ∧ (recordEnded ok s).bt.overflow = s.bt.overflow ∧
    (recordEnded ok s).hc = s.hc ∧ (recordEnded ok s).dc = s.dc ∧ (recordEnded ok s).mr = s.mr ∧
    (recordEnded ok s).cv = s.cv ∧ (recordEnded ok s).now = s.now ∧ (recordEnded ok s).freeCount = s.freeCount ∧
    (recordEnded ok s).out = s.out ∧ (recordEnded ok s).pending = s.pending := by
  unfold recordEnded
  (try dsimp only)
  (repeat' split) <;> simp

@[simp] theorem removeHead_frame (s : State) :
    (removeHead s).pins = s.pins ∧ (removeHead s).cfg = s.cfg ∧ (removeHead s).smp.chainHead = s.smp.chainHead ∧
    (removeHead s).smp.progBase = s.smp.progBase ∧ (removeHead s).smp.noticeMask = s.smp.noticeMask ∧
    (removeHead s).smp.burstLimit = s.smp.burstLimit ∧ (removeHead s).smp.pollPeriod = s.smp.pollPeriod ∧
    (removeHead s).smp.soft = s.smp.soft ∧ (removeHead s).smp.writes = s.smp.writes ∧
    (removeHead s).smp.copies = s.smp.copies ∧ (removeHead s).tr = s.tr ∧ (removeHead s).re = s.re ∧
    (removeHead s).ps = s.ps ∧ (removeHead s).bt.splices = s.bt.splices ∧ (removeHead s).bt.pos = s.bt.pos ∧
    (removeHead s).bt.nextNumber = s.bt.nextNumber ∧ (removeHead s).bt.overflow = s.bt.overflow ∧
    (removeHead s).hc = s.hc ∧ (removeHead s).dc = s.dc ∧ (removeHead s).mr = s.mr ∧ (removeHead s).cv = s.cv ∧
    (removeHead s).now = s.now ∧ (removeHead s).freeCount = s.freeCount ∧ (removeHead s).out = s.out ∧
    (removeHead s).pending = s.pending := by
  unfold removeHead
  (try dsimp only)
  (repeat' split) <;> simp

@[simp] theorem finaliseIfDone_frame (id : Nat) (s : State) :
    (finaliseIfDone id s).pins = s.pins ∧ (finaliseIfDone id s).cfg = s.cfg ∧
    (finaliseIfDone id s).smp.chainHead = s.smp.chainHead ∧ (finaliseIfDone id s).smp.progBase = s.smp.progBase ∧
    (finaliseIfDone id s).smp.noticeMask = s.smp.noticeMask ∧ (finaliseIfDone id s).smp.burstLimit = s.smp.burstLimit ∧
    (finaliseIfDone id s).smp.pollPeriod = s.smp.pollPeriod ∧ (finaliseIfDone id s).smp.soft = s.smp.soft ∧
    (finaliseIfDone id s).smp.copies = s.smp.copies ∧ (finaliseIfDone id s).tr.reader = s.tr.reader ∧
    (finaliseIfDone id s).tr.pos = s.tr.pos ∧ (finaliseIfDone id s).tr.step = s.tr.step ∧
    (finaliseIfDone id s).tr.ticket = s.tr.ticket ∧ (finaliseIfDone id s).tr.pauseReq = s.tr.pauseReq ∧
    (finaliseIfDone id s).tr.haltReq = s.tr.haltReq ∧ (finaliseIfDone id s).re = s.re ∧ (finaliseIfDone id s).ps = s.ps ∧
    (finaliseIfDone id s).bt.track = s.bt.track ∧ (finaliseIfDone id s).bt.splices = s.bt.splices ∧
    (finaliseIfDone id s).bt.pos = s.bt.pos ∧ (finaliseIfDone id s).bt.nextNumber = s.bt.nextNumber ∧
    (finaliseIfDone id s).bt.overflow = s.bt.overflow ∧ (finaliseIfDone id s).bt.retiring = s.bt.retiring ∧
    (finaliseIfDone id s).hc = s.hc ∧ (finaliseIfDone id s).dc = s.dc ∧ (finaliseIfDone id s).mr.ccur = s.mr.ccur ∧
    (finaliseIfDone id s).mr.lock = s.mr.lock ∧ (finaliseIfDone id s).mr.strays = s.mr.strays ∧
    (finaliseIfDone id s).mr.lastRead = s.mr.lastRead ∧ (finaliseIfDone id s).mr.found = s.mr.found ∧
    (finaliseIfDone id s).mr.miss = s.mr.miss ∧ (finaliseIfDone id s).cv = s.cv ∧ (finaliseIfDone id s).now = s.now ∧
    (finaliseIfDone id s).freeCount = s.freeCount ∧ (finaliseIfDone id s).out = s.out ∧
    (finaliseIfDone id s).pending = s.pending := by
  unfold finaliseIfDone
  (try dsimp only)
  (repeat' split) <;> simp

@[simp] theorem exposeDrum_frame (s : State) :
    (exposeDrum s).pins = s.pins ∧ (exposeDrum s).cfg = s.cfg ∧ (exposeDrum s).smp = s.smp ∧ (exposeDrum s).tr = s.tr ∧
    (exposeDrum s).re = s.re ∧ (exposeDrum s).ps = s.ps ∧ (exposeDrum s).bt.splices = s.bt.splices ∧
    (exposeDrum s).bt.tallies = s.bt.tallies ∧ (exposeDrum s).bt.pos = s.bt.pos ∧
    (exposeDrum s).bt.nextNumber = s.bt.nextNumber ∧ (exposeDrum s).bt.overflow = s.bt.overflow ∧
    (exposeDrum s).bt.retiring = s.bt.retiring ∧ (exposeDrum s).hc = s.hc ∧ (exposeDrum s).dc = s.dc ∧
    (exposeDrum s).mr = s.mr ∧ (exposeDrum s).cv = s.cv ∧ (exposeDrum s).now = s.now ∧
    (exposeDrum s).freeCount = s.freeCount ∧ (exposeDrum s).out = s.out ∧ (exposeDrum s).pending = s.pending := by
  unfold exposeDrum
  (try dsimp only)
  (repeat' split) <;> simp

@[simp] theorem splicePulse_frame (s : State) :
    (splicePulse s).pins = s.pins ∧ (splicePulse s).cfg = s.cfg ∧ (splicePulse s).smp = s.smp ∧
    (splicePulse s).tr = s.tr ∧ (splicePulse s).re = s.re ∧ (splicePulse s).ps = s.ps ∧
    (splicePulse s).bt.tallies = s.bt.tallies ∧ (splicePulse s).bt.pos = s.bt.pos ∧
    (splicePulse s).bt.nextNumber = s.bt.nextNumber ∧ (splicePulse s).bt.retiring = s.bt.retiring ∧
    (splicePulse s).hc = s.hc ∧ (splicePulse s).dc = s.dc ∧ (splicePulse s).mr = s.mr ∧ (splicePulse s).cv = s.cv ∧
    (splicePulse s).now = s.now ∧ (splicePulse s).freeCount = s.freeCount ∧ (splicePulse s).out = s.out ∧
    (splicePulse s).pending = s.pending := by
  unfold splicePulse
  (try dsimp only)
  (repeat' split) <;> simp

@[simp] theorem removeSplices_frame (s : State) :
    (removeSplices s).pins = s.pins ∧ (removeSplices s).cfg = s.cfg ∧ (removeSplices s).smp = s.smp ∧
    (removeSplices s).tr = s.tr ∧ (removeSplices s).re = s.re ∧ (removeSplices s).ps = s.ps ∧
    (removeSplices s).bt.track = s.bt.track ∧ (removeSplices s).bt.tallies = s.bt.tallies ∧
    (removeSplices s).bt.pos = s.bt.pos ∧ (removeSplices s).bt.nextNumber = s.bt.nextNumber ∧
    (removeSplices s).bt.retiring = s.bt.retiring ∧ (removeSplices s).hc = s.hc ∧ (removeSplices s).dc = s.dc ∧
    (removeSplices s).mr = s.mr ∧ (removeSplices s).cv = s.cv ∧ (removeSplices s).now = s.now ∧
    (removeSplices s).freeCount = s.freeCount ∧ (removeSplices s).out = s.out ∧ (removeSplices s).pending = s.pending := by
  unfold removeSplices
  (try dsimp only)
  (repeat' split) <;> simp

@[simp] theorem endPrinting_frame (n : Nat) (s : State) :
    (endPrinting n s).pins = s.pins ∧ (endPrinting n s).cfg = s.cfg ∧ (endPrinting n s).smp = s.smp ∧
    (endPrinting n s).tr = s.tr ∧ (endPrinting n s).re = s.re ∧ (endPrinting n s).ps = s.ps ∧
    (endPrinting n s).bt.splices = s.bt.splices ∧ (endPrinting n s).bt.tallies = s.bt.tallies ∧
    (endPrinting n s).bt.pos = s.bt.pos ∧ (endPrinting n s).bt.nextNumber = s.bt.nextNumber ∧
    (endPrinting n s).bt.overflow = s.bt.overflow ∧ (endPrinting n s).bt.retiring = s.bt.retiring ∧
    (endPrinting n s).hc = s.hc ∧ (endPrinting n s).dc = s.dc ∧ (endPrinting n s).mr = s.mr ∧
    (endPrinting n s).cv = s.cv ∧ (endPrinting n s).now = s.now ∧ (endPrinting n s).freeCount = s.freeCount ∧
    (endPrinting n s).out = s.out ∧ (endPrinting n s).pending = s.pending := by
  unfold endPrinting
  (try dsimp only)
  (repeat' split) <;> simp

@[simp] theorem nipEvent_frame (n : Nat) (s : State) :
    (nipEvent n s).pins = s.pins ∧ (nipEvent n s).cfg = s.cfg ∧ (nipEvent n s).smp = s.smp ∧ (nipEvent n s).tr = s.tr ∧
    (nipEvent n s).re = s.re ∧ (nipEvent n s).ps = s.ps ∧ (nipEvent n s).bt.splices = s.bt.splices ∧
    (nipEvent n s).bt.tallies = s.bt.tallies ∧ (nipEvent n s).bt.pos = s.bt.pos ∧
    (nipEvent n s).bt.nextNumber = s.bt.nextNumber ∧ (nipEvent n s).bt.overflow = s.bt.overflow ∧
    (nipEvent n s).bt.retiring = s.bt.retiring ∧ (nipEvent n s).hc = s.hc ∧ (nipEvent n s).dc = s.dc ∧
    (nipEvent n s).mr = s.mr ∧ (nipEvent n s).cv = s.cv ∧ (nipEvent n s).now = s.now ∧
    (nipEvent n s).freeCount = s.freeCount ∧ (nipEvent n s).out = s.out ∧ (nipEvent n s).pending = s.pending := by
  unfold nipEvent
  (try dsimp only)
  (repeat' split) <;> simp

@[simp] theorem exitEvent_frame (n : Nat) (s : State) :
    (exitEvent n s).pins = s.pins ∧ (exitEvent n s).cfg = s.cfg ∧ (exitEvent n s).smp = s.smp ∧
    (exitEvent n s).tr = s.tr ∧ (exitEvent n s).re = s.re ∧ (exitEvent n s).ps = s.ps ∧
    (exitEvent n s).bt.splices = s.bt.splices ∧ (exitEvent n s).bt.tallies = s.bt.tallies ∧
    (exitEvent n s).bt.pos = s.bt.pos ∧ (exitEvent n s).bt.nextNumber = s.bt.nextNumber ∧
    (exitEvent n s).bt.overflow = s.bt.overflow ∧ (exitEvent n s).bt.retiring = s.bt.retiring ∧
    (exitEvent n s).hc = s.hc ∧ (exitEvent n s).dc = s.dc ∧ (exitEvent n s).mr = s.mr ∧ (exitEvent n s).cv = s.cv ∧
    (exitEvent n s).now = s.now ∧ (exitEvent n s).freeCount = s.freeCount ∧ (exitEvent n s).out = s.out ∧
    (exitEvent n s).pending = s.pending := by
  unfold exitEvent
  (try dsimp only)
  (repeat' split) <;> simp

@[simp] theorem trailEvent_frame (n : Nat) (s : State) :
    (trailEvent n s).pins = s.pins ∧ (trailEvent n s).cfg = s.cfg ∧ (trailEvent n s).smp = s.smp ∧
    (trailEvent n s).tr = s.tr ∧ (trailEvent n s).re = s.re ∧ (trailEvent n s).ps = s.ps ∧
    (trailEvent n s).bt.splices = s.bt.splices ∧ (trailEvent n s).bt.tallies = s.bt.tallies ∧
    (trailEvent n s).bt.pos = s.bt.pos ∧ (trailEvent n s).bt.nextNumber = s.bt.nextNumber ∧
    (trailEvent n s).bt.overflow = s.bt.overflow ∧ (trailEvent n s).bt.retiring = s.bt.retiring ∧
    (trailEvent n s).hc = s.hc ∧ (trailEvent n s).dc = s.dc ∧ (trailEvent n s).mr = s.mr ∧ (trailEvent n s).cv = s.cv ∧
    (trailEvent n s).now = s.now ∧ (trailEvent n s).freeCount = s.freeCount ∧ (trailEvent n s).out = s.out ∧
    (trailEvent n s).pending = s.pending := by
  unfold trailEvent
  (try dsimp only)
  (repeat' split) <;> simp

@[simp] theorem modSlot_frame (i : Fin 8) (f : ProfileSlot → ProfileSlot) (s : State) :
    (modSlot i f s).pins = s.pins ∧ (modSlot i f s).cfg = s.cfg ∧ (modSlot i f s).smp = s.smp ∧
    (modSlot i f s).tr = s.tr ∧ (modSlot i f s).re = s.re ∧ (modSlot i f s).ps.staging = s.ps.staging ∧
    (modSlot i f s).bt = s.bt ∧ (modSlot i f s).hc = s.hc ∧ (modSlot i f s).dc = s.dc ∧ (modSlot i f s).mr = s.mr ∧
    (modSlot i f s).cv = s.cv ∧ (modSlot i f s).now = s.now ∧ (modSlot i f s).freeCount = s.freeCount ∧
    (modSlot i f s).out = s.out ∧ (modSlot i f s).pending = s.pending := by
  unfold modSlot
  (try dsimp only)
  (repeat' split) <;> simp

@[simp] theorem copyEnded_frame (ws : List Word) (s : State) :
    (copyEnded ws s).pins = s.pins ∧ (copyEnded ws s).cfg = s.cfg ∧ (copyEnded ws s).smp.chainHead = s.smp.chainHead ∧
    (copyEnded ws s).smp.progBase = s.smp.progBase ∧ (copyEnded ws s).smp.noticeMask = s.smp.noticeMask ∧
    (copyEnded ws s).smp.burstLimit = s.smp.burstLimit ∧ (copyEnded ws s).smp.pollPeriod = s.smp.pollPeriod ∧
    (copyEnded ws s).smp.soft = s.smp.soft ∧ (copyEnded ws s).smp.copies = s.smp.copies ∧
    (copyEnded ws s).tr.reader = s.tr.reader ∧ (copyEnded ws s).tr.pos = s.tr.pos ∧ (copyEnded ws s).tr.step = s.tr.step ∧
    (copyEnded ws s).tr.pauseReq = s.tr.pauseReq ∧ (copyEnded ws s).tr.haltReq = s.tr.haltReq ∧
    (copyEnded ws s).re = s.re ∧ (copyEnded ws s).bt = s.bt ∧ (copyEnded ws s).hc = s.hc ∧ (copyEnded ws s).dc = s.dc ∧
    (copyEnded ws s).mr = s.mr ∧ (copyEnded ws s).cv = s.cv ∧ (copyEnded ws s).now = s.now ∧
    (copyEnded ws s).freeCount = s.freeCount ∧ (copyEnded ws s).out = s.out ∧ (copyEnded ws s).pending = s.pending := by
  unfold copyEnded
  (try dsimp only)
  (repeat' split) <;> simp

@[simp] theorem copyFailed_frame (s : State) :
    (copyFailed s).pins = s.pins ∧ (copyFailed s).cfg = s.cfg ∧ (copyFailed s).smp.chainHead = s.smp.chainHead ∧
    (copyFailed s).smp.progBase = s.smp.progBase ∧ (copyFailed s).smp.noticeMask = s.smp.noticeMask ∧
    (copyFailed s).smp.burstLimit = s.smp.burstLimit ∧ (copyFailed s).smp.pollPeriod = s.smp.pollPeriod ∧
    (copyFailed s).smp.soft = s.smp.soft ∧ (copyFailed s).smp.copies = s.smp.copies ∧
    (copyFailed s).tr.reader = s.tr.reader ∧ (copyFailed s).tr.pos = s.tr.pos ∧ (copyFailed s).tr.step = s.tr.step ∧
    (copyFailed s).tr.pauseReq = s.tr.pauseReq ∧ (copyFailed s).tr.haltReq = s.tr.haltReq ∧ (copyFailed s).re = s.re ∧
    (copyFailed s).ps.slots = s.ps.slots ∧ (copyFailed s).bt = s.bt ∧ (copyFailed s).hc = s.hc ∧
    (copyFailed s).dc = s.dc ∧ (copyFailed s).mr = s.mr ∧ (copyFailed s).cv = s.cv ∧ (copyFailed s).now = s.now ∧
    (copyFailed s).freeCount = s.freeCount ∧ (copyFailed s).out = s.out ∧ (copyFailed s).pending = s.pending := by
  unfold copyFailed
  (try dsimp only)
  (repeat' split) <;> simp

@[simp] theorem trimRequest_frame (n : Nat) (s : State) :
    (trimRequest n s).pins = s.pins ∧ (trimRequest n s).cfg = s.cfg ∧ (trimRequest n s).smp = s.smp ∧
    (trimRequest n s).tr = s.tr ∧ (trimRequest n s).re = s.re ∧ (trimRequest n s).ps.staging = s.ps.staging ∧
    (trimRequest n s).bt = s.bt ∧ (trimRequest n s).hc = s.hc ∧ (trimRequest n s).dc = s.dc ∧
    (trimRequest n s).mr = s.mr ∧ (trimRequest n s).cv = s.cv ∧ (trimRequest n s).now = s.now ∧
    (trimRequest n s).freeCount = s.freeCount ∧ (trimRequest n s).out = s.out ∧ (trimRequest n s).pending = s.pending := by
  unfold trimRequest
  (try dsimp only)
  (repeat' split) <;> simp

@[simp] theorem queueMeasure_frame (seq : Nat) (s : State) :
    (queueMeasure seq s).pins = s.pins ∧ (queueMeasure seq s).cfg = s.cfg ∧ (queueMeasure seq s).smp = s.smp ∧
    (queueMeasure seq s).tr = s.tr ∧ (queueMeasure seq s).re = s.re ∧ (queueMeasure seq s).ps = s.ps ∧
    (queueMeasure seq s).bt = s.bt ∧ (queueMeasure seq s).hc = s.hc ∧ (queueMeasure seq s).dc = s.dc ∧
    (queueMeasure seq s).mr = s.mr ∧ (queueMeasure seq s).cv.list = s.cv.list ∧
    (queueMeasure seq s).cv.drift = s.cv.drift ∧ (queueMeasure seq s).cv.status = s.cv.status ∧
    (queueMeasure seq s).now = s.now ∧ (queueMeasure seq s).freeCount = s.freeCount ∧
    (queueMeasure seq s).pending = s.pending := by
  unfold queueMeasure
  (try dsimp only)
  (repeat' split) <;> simp

@[simp] theorem offerPatch_frame (n : Nat) (s : State) :
    (offerPatch n s).pins = s.pins ∧ (offerPatch n s).cfg = s.cfg ∧ (offerPatch n s).smp = s.smp ∧
    (offerPatch n s).tr = s.tr ∧ (offerPatch n s).re = s.re ∧ (offerPatch n s).ps = s.ps ∧
    (offerPatch n s).bt.splices = s.bt.splices ∧ (offerPatch n s).bt.tallies = s.bt.tallies ∧
    (offerPatch n s).bt.pos = s.bt.pos ∧ (offerPatch n s).bt.nextNumber = s.bt.nextNumber ∧
    (offerPatch n s).bt.overflow = s.bt.overflow ∧ (offerPatch n s).bt.retiring = s.bt.retiring ∧
    (offerPatch n s).hc = s.hc ∧ (offerPatch n s).dc = s.dc ∧ (offerPatch n s).mr = s.mr ∧
    (offerPatch n s).cv.drift = s.cv.drift ∧ (offerPatch n s).cv.status = s.cv.status ∧ (offerPatch n s).now = s.now ∧
    (offerPatch n s).freeCount = s.freeCount ∧ (offerPatch n s).pending = s.pending := by
  unfold offerPatch
  (try dsimp only)
  (repeat' split) <;> simp

@[simp] theorem patchEvent_frame (n : Nat) (s : State) :
    (patchEvent n s).pins = s.pins ∧ (patchEvent n s).cfg = s.cfg ∧ (patchEvent n s).smp = s.smp ∧
    (patchEvent n s).tr = s.tr ∧ (patchEvent n s).re = s.re ∧ (patchEvent n s).ps = s.ps ∧
    (patchEvent n s).bt.splices = s.bt.splices ∧ (patchEvent n s).bt.tallies = s.bt.tallies ∧
    (patchEvent n s).bt.pos = s.bt.pos ∧ (patchEvent n s).bt.nextNumber = s.bt.nextNumber ∧
    (patchEvent n s).bt.overflow = s.bt.overflow ∧ (patchEvent n s).bt.retiring = s.bt.retiring ∧
    (patchEvent n s).hc = s.hc ∧ (patchEvent n s).dc = s.dc ∧ (patchEvent n s).mr = s.mr ∧
    (patchEvent n s).cv.drift = s.cv.drift ∧ (patchEvent n s).cv.status = s.cv.status ∧ (patchEvent n s).now = s.now ∧
    (patchEvent n s).freeCount = s.freeCount ∧ (patchEvent n s).pending = s.pending := by
  unfold patchEvent
  (try dsimp only)
  (repeat' split) <;> simp

@[simp] theorem bandEvents_frame (n : Nat) (s : State) :
    (bandEvents s n).pins = s.pins ∧ (bandEvents s n).cfg = s.cfg ∧ (bandEvents s n).smp = s.smp ∧
    (bandEvents s n).tr = s.tr ∧ (bandEvents s n).re = s.re ∧ (bandEvents s n).ps = s.ps ∧
    (bandEvents s n).bt.splices = s.bt.splices ∧ (bandEvents s n).bt.tallies = s.bt.tallies ∧
    (bandEvents s n).bt.pos = s.bt.pos ∧ (bandEvents s n).bt.nextNumber = s.bt.nextNumber ∧
    (bandEvents s n).bt.overflow = s.bt.overflow ∧ (bandEvents s n).bt.retiring = s.bt.retiring ∧
    (bandEvents s n).hc = s.hc ∧ (bandEvents s n).dc = s.dc ∧ (bandEvents s n).mr = s.mr ∧
    (bandEvents s n).cv.drift = s.cv.drift ∧ (bandEvents s n).cv.status = s.cv.status ∧ (bandEvents s n).now = s.now ∧
    (bandEvents s n).freeCount = s.freeCount ∧ (bandEvents s n).pending = s.pending := by
  simp [bandEvents]

@[simp] theorem trackEvents_frame (s : State) :
    (trackEvents s).pins = s.pins ∧ (trackEvents s).cfg = s.cfg ∧ (trackEvents s).smp = s.smp ∧
    (trackEvents s).tr = s.tr ∧ (trackEvents s).re = s.re ∧ (trackEvents s).ps = s.ps ∧
    (trackEvents s).bt.splices = s.bt.splices ∧ (trackEvents s).bt.tallies = s.bt.tallies ∧
    (trackEvents s).bt.pos = s.bt.pos ∧ (trackEvents s).bt.nextNumber = s.bt.nextNumber ∧
    (trackEvents s).bt.overflow = s.bt.overflow ∧ (trackEvents s).bt.retiring = s.bt.retiring ∧
    (trackEvents s).hc = s.hc ∧ (trackEvents s).dc = s.dc ∧ (trackEvents s).mr = s.mr ∧
    (trackEvents s).cv.drift = s.cv.drift ∧ (trackEvents s).cv.status = s.cv.status ∧ (trackEvents s).now = s.now ∧
    (trackEvents s).freeCount = s.freeCount ∧ (trackEvents s).pending = s.pending := by
  exact ⟨foldl_keeps bandEvents (fun t => t.pins) (fun t n => by simp) _ s,
    foldl_keeps bandEvents (fun t => t.cfg) (fun t n => by simp) _ s,
    foldl_keeps bandEvents (fun t => t.smp) (fun t n => by simp) _ s,
    foldl_keeps bandEvents (fun t => t.tr) (fun t n => by simp) _ s,
    foldl_keeps bandEvents (fun t => t.re) (fun t n => by simp) _ s,
    foldl_keeps bandEvents (fun t => t.ps) (fun t n => by simp) _ s,
    foldl_keeps bandEvents (fun t => t.bt.splices) (fun t n => by simp) _ s,
    foldl_keeps bandEvents (fun t => t.bt.tallies) (fun t n => by simp) _ s,
    foldl_keeps bandEvents (fun t => t.bt.pos) (fun t n => by simp) _ s,
    foldl_keeps bandEvents (fun t => t.bt.nextNumber) (fun t n => by simp) _ s,
    foldl_keeps bandEvents (fun t => t.bt.overflow) (fun t n => by simp) _ s,
    foldl_keeps bandEvents (fun t => t.bt.retiring) (fun t n => by simp) _ s,
    foldl_keeps bandEvents (fun t => t.hc) (fun t n => by simp) _ s,
    foldl_keeps bandEvents (fun t => t.dc) (fun t n => by simp) _ s,
    foldl_keeps bandEvents (fun t => t.mr) (fun t n => by simp) _ s,
    foldl_keeps bandEvents (fun t => t.cv.drift) (fun t n => by simp) _ s,
    foldl_keeps bandEvents (fun t => t.cv.status) (fun t n => by simp) _ s,
    foldl_keeps bandEvents (fun t => t.now) (fun t n => by simp) _ s,
    foldl_keeps bandEvents (fun t => t.freeCount) (fun t n => by simp) _ s,
    foldl_keeps bandEvents (fun t => t.pending) (fun t n => by simp) _ s⟩

@[simp] theorem positionEvents_frame (s : State) :
    (positionEvents s).pins = s.pins ∧ (positionEvents s).cfg = s.cfg ∧ (positionEvents s).smp = s.smp ∧
    (positionEvents s).tr = s.tr ∧ (positionEvents s).re = s.re ∧ (positionEvents s).ps = s.ps ∧
    (positionEvents s).bt.tallies = s.bt.tallies ∧ (positionEvents s).bt.pos = s.bt.pos ∧
    (positionEvents s).bt.nextNumber = s.bt.nextNumber ∧ (positionEvents s).bt.retiring = s.bt.retiring ∧
    (positionEvents s).hc = s.hc ∧ (positionEvents s).dc = s.dc ∧ (positionEvents s).mr = s.mr ∧
    (positionEvents s).cv.drift = s.cv.drift ∧ (positionEvents s).cv.status = s.cv.status ∧
    (positionEvents s).now = s.now ∧ (positionEvents s).pending = s.pending := by
  unfold positionEvents
  (try dsimp only)
  (repeat' split) <;> simp

@[simp] theorem driftSetTest_frame (s : State) :
    (driftSetTest s).pins = s.pins ∧ (driftSetTest s).cfg = s.cfg ∧ (driftSetTest s).smp.chainHead = s.smp.chainHead ∧
    (driftSetTest s).smp.progBase = s.smp.progBase ∧ (driftSetTest s).smp.noticeMask = s.smp.noticeMask ∧
    (driftSetTest s).smp.burstLimit = s.smp.burstLimit ∧ (driftSetTest s).smp.pollPeriod = s.smp.pollPeriod ∧
    (driftSetTest s).smp.soft = s.smp.soft ∧ (driftSetTest s).smp.writes = s.smp.writes ∧
    (driftSetTest s).smp.copies = s.smp.copies ∧ (driftSetTest s).tr = s.tr ∧ (driftSetTest s).re = s.re ∧
    (driftSetTest s).ps = s.ps ∧ (driftSetTest s).bt = s.bt ∧ (driftSetTest s).hc = s.hc ∧ (driftSetTest s).dc = s.dc ∧
    (driftSetTest s).mr = s.mr ∧ (driftSetTest s).cv.list = s.cv.list ∧ (driftSetTest s).cv.status = s.cv.status ∧
    (driftSetTest s).now = s.now ∧ (driftSetTest s).freeCount = s.freeCount ∧ (driftSetTest s).out = s.out ∧
    (driftSetTest s).pending = s.pending := by
  unfold driftSetTest
  (try dsimp only)
  (repeat' split) <;> simp

@[simp] theorem driftClearTest_frame (s : State) :
    (driftClearTest s).pins = s.pins ∧ (driftClearTest s).cfg = s.cfg ∧
    (driftClearTest s).smp.chainHead = s.smp.chainHead ∧ (driftClearTest s).smp.progBase = s.smp.progBase ∧
    (driftClearTest s).smp.noticeMask = s.smp.noticeMask ∧ (driftClearTest s).smp.burstLimit = s.smp.burstLimit ∧
    (driftClearTest s).smp.pollPeriod = s.smp.pollPeriod ∧ (driftClearTest s).smp.soft = s.smp.soft ∧
    (driftClearTest s).smp.writes = s.smp.writes ∧ (driftClearTest s).smp.copies = s.smp.copies ∧
    (driftClearTest s).tr = s.tr ∧ (driftClearTest s).re = s.re ∧ (driftClearTest s).ps = s.ps ∧
    (driftClearTest s).bt = s.bt ∧ (driftClearTest s).hc = s.hc ∧ (driftClearTest s).dc = s.dc ∧
    (driftClearTest s).mr = s.mr ∧ (driftClearTest s).cv.list = s.cv.list ∧ (driftClearTest s).cv.status = s.cv.status ∧
    (driftClearTest s).now = s.now ∧ (driftClearTest s).freeCount = s.freeCount ∧ (driftClearTest s).out = s.out ∧
    (driftClearTest s).pending = s.pending := by
  unfold driftClearTest
  (try dsimp only)
  (repeat' split) <;> simp

@[simp] theorem countDrift_frame (fail : Bool) (s : State) :
    (countDrift fail s).pins = s.pins ∧ (countDrift fail s).cfg = s.cfg ∧
    (countDrift fail s).smp.chainHead = s.smp.chainHead ∧ (countDrift fail s).smp.progBase = s.smp.progBase ∧
    (countDrift fail s).smp.noticeMask = s.smp.noticeMask ∧ (countDrift fail s).smp.burstLimit = s.smp.burstLimit ∧
    (countDrift fail s).smp.pollPeriod = s.smp.pollPeriod ∧ (countDrift fail s).smp.soft = s.smp.soft ∧
    (countDrift fail s).smp.writes = s.smp.writes ∧ (countDrift fail s).smp.copies = s.smp.copies ∧
    (countDrift fail s).tr = s.tr ∧ (countDrift fail s).re = s.re ∧ (countDrift fail s).ps = s.ps ∧
    (countDrift fail s).bt = s.bt ∧ (countDrift fail s).hc = s.hc ∧ (countDrift fail s).dc = s.dc ∧
    (countDrift fail s).mr = s.mr ∧ (countDrift fail s).cv.list = s.cv.list ∧
    (countDrift fail s).cv.status = s.cv.status ∧ (countDrift fail s).now = s.now ∧
    (countDrift fail s).freeCount = s.freeCount ∧ (countDrift fail s).out = s.out ∧
    (countDrift fail s).pending = s.pending := by
  unfold countDrift
  (try dsimp only)
  (repeat' split) <;> simp

@[simp] theorem resolve_frame (n : Nat) (s : State) :
    (resolve n s).pins = s.pins ∧ (resolve n s).cfg = s.cfg ∧ (resolve n s).smp.chainHead = s.smp.chainHead ∧
    (resolve n s).smp.progBase = s.smp.progBase ∧ (resolve n s).smp.noticeMask = s.smp.noticeMask ∧
    (resolve n s).smp.burstLimit = s.smp.burstLimit ∧ (resolve n s).smp.pollPeriod = s.smp.pollPeriod ∧
    (resolve n s).smp.soft = s.smp.soft ∧ (resolve n s).smp.copies = s.smp.copies ∧ (resolve n s).tr = s.tr ∧
    (resolve n s).re = s.re ∧ (resolve n s).ps = s.ps ∧ (resolve n s).bt.splices = s.bt.splices ∧
    (resolve n s).bt.pos = s.bt.pos ∧ (resolve n s).bt.nextNumber = s.bt.nextNumber ∧
    (resolve n s).bt.overflow = s.bt.overflow ∧ (resolve n s).hc = s.hc ∧ (resolve n s).dc = s.dc ∧
    (resolve n s).mr = s.mr ∧ (resolve n s).cv = s.cv ∧ (resolve n s).now = s.now ∧
    (resolve n s).freeCount = s.freeCount ∧ (resolve n s).out = s.out ∧ (resolve n s).pending = s.pending := by
  unfold resolve
  (try dsimp only)
  (repeat' split) <;> simp

@[simp] theorem takeReply_frame (n : Nat) (ok : Bool) (l a b : Int) (s : State) :
    (takeReply n ok l a b s).pins = s.pins ∧ (takeReply n ok l a b s).cfg = s.cfg ∧
    (takeReply n ok l a b s).smp.chainHead = s.smp.chainHead ∧ (takeReply n ok l a b s).smp.progBase = s.smp.progBase ∧
    (takeReply n ok l a b s).smp.noticeMask = s.smp.noticeMask ∧
    (takeReply n ok l a b s).smp.burstLimit = s.smp.burstLimit ∧
    (takeReply n ok l a b s).smp.pollPeriod = s.smp.pollPeriod ∧ (takeReply n ok l a b s).smp.soft = s.smp.soft ∧
    (takeReply n ok l a b s).smp.copies = s.smp.copies ∧ (takeReply n ok l a b s).tr = s.tr ∧
    (takeReply n ok l a b s).re = s.re ∧ (takeReply n ok l a b s).ps.staging = s.ps.staging ∧
    (takeReply n ok l a b s).bt.splices = s.bt.splices ∧ (takeReply n ok l a b s).bt.pos = s.bt.pos ∧
    (takeReply n ok l a b s).bt.nextNumber = s.bt.nextNumber ∧ (takeReply n ok l a b s).bt.overflow = s.bt.overflow ∧
    (takeReply n ok l a b s).hc = s.hc ∧ (takeReply n ok l a b s).dc = s.dc ∧ (takeReply n ok l a b s).mr = s.mr ∧
    (takeReply n ok l a b s).cv.list = s.cv.list ∧ (takeReply n ok l a b s).cv.status = s.cv.status ∧
    (takeReply n ok l a b s).now = s.now ∧ (takeReply n ok l a b s).freeCount = s.freeCount ∧
    (takeReply n ok l a b s).out = s.out ∧ (takeReply n ok l a b s).pending = s.pending := by
  unfold takeReply
  (try dsimp only)
  (repeat' split) <;> simp

@[simp] theorem replyArrival_frame (seq : Nat) (ok : Bool) (l a b : Int) (s : State) :
    (replyArrival seq ok l a b s).pins = s.pins ∧ (replyArrival seq ok l a b s).cfg = s.cfg ∧
    (replyArrival seq ok l a b s).smp.chainHead = s.smp.chainHead ∧
    (replyArrival seq ok l a b s).smp.progBase = s.smp.progBase ∧
    (replyArrival seq ok l a b s).smp.noticeMask = s.smp.noticeMask ∧
    (replyArrival seq ok l a b s).smp.burstLimit = s.smp.burstLimit ∧
    (replyArrival seq ok l a b s).smp.pollPeriod = s.smp.pollPeriod ∧
    (replyArrival seq ok l a b s).smp.soft = s.smp.soft ∧ (replyArrival seq ok l a b s).smp.copies = s.smp.copies ∧
    (replyArrival seq ok l a b s).tr = s.tr ∧ (replyArrival seq ok l a b s).re = s.re ∧
    (replyArrival seq ok l a b s).ps.staging = s.ps.staging ∧ (replyArrival seq ok l a b s).bt.splices = s.bt.splices ∧
    (replyArrival seq ok l a b s).bt.pos = s.bt.pos ∧ (replyArrival seq ok l a b s).bt.nextNumber = s.bt.nextNumber ∧
    (replyArrival seq ok l a b s).bt.overflow = s.bt.overflow ∧ (replyArrival seq ok l a b s).hc = s.hc ∧
    (replyArrival seq ok l a b s).dc = s.dc ∧ (replyArrival seq ok l a b s).mr = s.mr ∧
    (replyArrival seq ok l a b s).cv.status = s.cv.status ∧ (replyArrival seq ok l a b s).now = s.now ∧
    (replyArrival seq ok l a b s).freeCount = s.freeCount ∧ (replyArrival seq ok l a b s).out = s.out ∧
    (replyArrival seq ok l a b s).pending = s.pending := by
  unfold replyArrival
  (try dsimp only)
  (repeat' split) <;> simp

@[simp] theorem timeoutHead_frame (s : State) :
    (timeoutHead s).pins = s.pins ∧ (timeoutHead s).cfg = s.cfg ∧ (timeoutHead s).smp.chainHead = s.smp.chainHead ∧
    (timeoutHead s).smp.progBase = s.smp.progBase ∧ (timeoutHead s).smp.noticeMask = s.smp.noticeMask ∧
    (timeoutHead s).smp.burstLimit = s.smp.burstLimit ∧ (timeoutHead s).smp.pollPeriod = s.smp.pollPeriod ∧
    (timeoutHead s).smp.soft = s.smp.soft ∧ (timeoutHead s).smp.copies = s.smp.copies ∧ (timeoutHead s).tr = s.tr ∧
    (timeoutHead s).re = s.re ∧ (timeoutHead s).ps = s.ps ∧ (timeoutHead s).bt.splices = s.bt.splices ∧
    (timeoutHead s).bt.pos = s.bt.pos ∧ (timeoutHead s).bt.nextNumber = s.bt.nextNumber ∧
    (timeoutHead s).bt.overflow = s.bt.overflow ∧ (timeoutHead s).hc = s.hc ∧ (timeoutHead s).dc = s.dc ∧
    (timeoutHead s).mr = s.mr ∧ (timeoutHead s).cv.drift = s.cv.drift ∧ (timeoutHead s).cv.status = s.cv.status ∧
    (timeoutHead s).now = s.now ∧ (timeoutHead s).freeCount = s.freeCount ∧ (timeoutHead s).out = s.out ∧
    (timeoutHead s).pending = s.pending := by
  unfold timeoutHead
  (try dsimp only)
  (repeat' split) <;> simp

@[simp] theorem badFrame_frame (s : State) :
    (badFrame s).pins = s.pins ∧ (badFrame s).cfg = s.cfg ∧ (badFrame s).smp = s.smp ∧ (badFrame s).tr = s.tr ∧
    (badFrame s).re = s.re ∧ (badFrame s).ps = s.ps ∧ (badFrame s).bt = s.bt ∧ (badFrame s).hc = s.hc ∧
    (badFrame s).dc = s.dc ∧ (badFrame s).mr = s.mr ∧ (badFrame s).cv.list = s.cv.list ∧
    (badFrame s).cv.drift = s.cv.drift ∧ (badFrame s).cv.status = s.cv.status ∧ (badFrame s).now = s.now ∧
    (badFrame s).freeCount = s.freeCount ∧ (badFrame s).out = s.out ∧ (badFrame s).pending = s.pending := by
  unfold badFrame
  (try dsimp only)
  (repeat' split) <;> simp

@[simp] theorem restartSilence_frame (s : State) :
    (restartSilence s).pins = s.pins ∧ (restartSilence s).cfg = s.cfg ∧ (restartSilence s).smp = s.smp ∧
    (restartSilence s).tr = s.tr ∧ (restartSilence s).re = s.re ∧ (restartSilence s).ps = s.ps ∧
    (restartSilence s).bt = s.bt ∧ (restartSilence s).hc = s.hc ∧ (restartSilence s).dc = s.dc ∧
    (restartSilence s).mr = s.mr ∧ (restartSilence s).cv.list = s.cv.list ∧ (restartSilence s).cv.drift = s.cv.drift ∧
    (restartSilence s).cv.status = s.cv.status ∧ (restartSilence s).now = s.now ∧
    (restartSilence s).freeCount = s.freeCount ∧ (restartSilence s).out = s.out ∧ (restartSilence s).pending = s.pending := by
  unfold restartSilence
  (try dsimp only)
  (repeat' split) <;> simp

@[simp] theorem gapTest_frame (s : State) :
    (gapTest s).pins = s.pins ∧ (gapTest s).cfg = s.cfg ∧ (gapTest s).smp = s.smp ∧ (gapTest s).tr = s.tr ∧
    (gapTest s).re = s.re ∧ (gapTest s).ps = s.ps ∧ (gapTest s).bt = s.bt ∧ (gapTest s).hc = s.hc ∧
    (gapTest s).dc = s.dc ∧ (gapTest s).mr = s.mr ∧ (gapTest s).cv.list = s.cv.list ∧ (gapTest s).cv.drift = s.cv.drift ∧
    (gapTest s).cv.status = s.cv.status ∧ (gapTest s).now = s.now ∧ (gapTest s).freeCount = s.freeCount ∧
    (gapTest s).out = s.out ∧ (gapTest s).pending = s.pending := by
  unfold gapTest
  (try dsimp only)
  (repeat' split) <;> simp

@[simp] theorem takeByte_frame (b : Byte) (framing : Bool) (s : State) :
    (takeByte b framing s).pins = s.pins ∧ (takeByte b framing s).cfg = s.cfg ∧
    (takeByte b framing s).smp.chainHead = s.smp.chainHead ∧ (takeByte b framing s).smp.progBase = s.smp.progBase ∧
    (takeByte b framing s).smp.noticeMask = s.smp.noticeMask ∧ (takeByte b framing s).smp.burstLimit = s.smp.burstLimit ∧
    (takeByte b framing s).smp.pollPeriod = s.smp.pollPeriod ∧ (takeByte b framing s).smp.soft = s.smp.soft ∧
    (takeByte b framing s).smp.copies = s.smp.copies ∧ (takeByte b framing s).tr = s.tr ∧
    (takeByte b framing s).re = s.re ∧ (takeByte b framing s).ps.staging = s.ps.staging ∧
    (takeByte b framing s).bt.splices = s.bt.splices ∧ (takeByte b framing s).bt.pos = s.bt.pos ∧
    (takeByte b framing s).bt.nextNumber = s.bt.nextNumber ∧ (takeByte b framing s).bt.overflow = s.bt.overflow ∧
    (takeByte b framing s).hc = s.hc ∧ (takeByte b framing s).dc = s.dc ∧ (takeByte b framing s).mr = s.mr ∧
    (takeByte b framing s).now = s.now ∧ (takeByte b framing s).freeCount = s.freeCount ∧
    (takeByte b framing s).out = s.out ∧ (takeByte b framing s).pending = s.pending := by
  unfold takeByte
  (try dsimp only)
  (repeat' split) <;> simp

@[simp] theorem resolveMark_frame (n : Nat) (c : Int) (flag : Option Flag) (s : State) :
    (resolveMark n c flag s).pins = s.pins ∧ (resolveMark n c flag s).cfg = s.cfg ∧ (resolveMark n c flag s).smp = s.smp ∧
    (resolveMark n c flag s).tr = s.tr ∧ (resolveMark n c flag s).re = s.re ∧ (resolveMark n c flag s).ps = s.ps ∧
    (resolveMark n c flag s).bt.splices = s.bt.splices ∧ (resolveMark n c flag s).bt.tallies = s.bt.tallies ∧
    (resolveMark n c flag s).bt.pos = s.bt.pos ∧ (resolveMark n c flag s).bt.nextNumber = s.bt.nextNumber ∧
    (resolveMark n c flag s).bt.overflow = s.bt.overflow ∧ (resolveMark n c flag s).bt.retiring = s.bt.retiring ∧
    (resolveMark n c flag s).hc = s.hc ∧ (resolveMark n c flag s).dc = s.dc ∧ (resolveMark n c flag s).mr = s.mr ∧
    (resolveMark n c flag s).cv = s.cv ∧ (resolveMark n c flag s).now = s.now ∧
    (resolveMark n c flag s).freeCount = s.freeCount ∧ (resolveMark n c flag s).out = s.out ∧
    (resolveMark n c flag s).pending = s.pending := by
  unfold resolveMark
  (try dsimp only)
  (repeat' split) <;> simp

@[simp] theorem setLock_frame (l : LockState) (s : State) :
    (setLock l s).pins = s.pins ∧ (setLock l s).cfg = s.cfg ∧ (setLock l s).smp.chainHead = s.smp.chainHead ∧
    (setLock l s).smp.progBase = s.smp.progBase ∧ (setLock l s).smp.noticeMask = s.smp.noticeMask ∧
    (setLock l s).smp.burstLimit = s.smp.burstLimit ∧ (setLock l s).smp.pollPeriod = s.smp.pollPeriod ∧
    (setLock l s).smp.soft = s.smp.soft ∧ (setLock l s).smp.writes = s.smp.writes ∧
    (setLock l s).smp.copies = s.smp.copies ∧ (setLock l s).tr = s.tr ∧ (setLock l s).re = s.re ∧
    (setLock l s).ps = s.ps ∧ (setLock l s).bt = s.bt ∧ (setLock l s).hc = s.hc ∧ (setLock l s).dc = s.dc ∧
    (setLock l s).mr.ccur = s.mr.ccur ∧ (setLock l s).mr.errors = s.mr.errors ∧ (setLock l s).mr.strays = s.mr.strays ∧
    (setLock l s).mr.counterCopy = s.mr.counterCopy ∧ (setLock l s).mr.lastRead = s.mr.lastRead ∧
    (setLock l s).cv = s.cv ∧ (setLock l s).now = s.now ∧ (setLock l s).freeCount = s.freeCount ∧
    (setLock l s).out = s.out ∧ (setLock l s).pending = s.pending := by
  unfold setLock
  (try dsimp only)
  (repeat' split) <;> simp

@[simp] theorem lockAcquireTest_frame (s : State) :
    (lockAcquireTest s).pins = s.pins ∧ (lockAcquireTest s).cfg = s.cfg ∧
    (lockAcquireTest s).smp.chainHead = s.smp.chainHead ∧ (lockAcquireTest s).smp.progBase = s.smp.progBase ∧
    (lockAcquireTest s).smp.noticeMask = s.smp.noticeMask ∧ (lockAcquireTest s).smp.burstLimit = s.smp.burstLimit ∧
    (lockAcquireTest s).smp.pollPeriod = s.smp.pollPeriod ∧ (lockAcquireTest s).smp.soft = s.smp.soft ∧
    (lockAcquireTest s).smp.writes = s.smp.writes ∧ (lockAcquireTest s).smp.copies = s.smp.copies ∧
    (lockAcquireTest s).tr = s.tr ∧ (lockAcquireTest s).re = s.re ∧ (lockAcquireTest s).ps = s.ps ∧
    (lockAcquireTest s).bt = s.bt ∧ (lockAcquireTest s).hc = s.hc ∧ (lockAcquireTest s).dc = s.dc ∧
    (lockAcquireTest s).mr.ccur = s.mr.ccur ∧ (lockAcquireTest s).mr.errors = s.mr.errors ∧
    (lockAcquireTest s).mr.strays = s.mr.strays ∧ (lockAcquireTest s).mr.counterCopy = s.mr.counterCopy ∧
    (lockAcquireTest s).mr.lastRead = s.mr.lastRead ∧ (lockAcquireTest s).cv = s.cv ∧ (lockAcquireTest s).now = s.now ∧
    (lockAcquireTest s).freeCount = s.freeCount ∧ (lockAcquireTest s).out = s.out ∧
    (lockAcquireTest s).pending = s.pending := by
  unfold lockAcquireTest
  (try dsimp only)
  (repeat' split) <;> simp

@[simp] theorem lockLoseTest_frame (s : State) :
    (lockLoseTest s).pins = s.pins ∧ (lockLoseTest s).cfg = s.cfg ∧ (lockLoseTest s).smp.chainHead = s.smp.chainHead ∧
    (lockLoseTest s).smp.progBase = s.smp.progBase ∧ (lockLoseTest s).smp.noticeMask = s.smp.noticeMask ∧
    (lockLoseTest s).smp.burstLimit = s.smp.burstLimit ∧ (lockLoseTest s).smp.pollPeriod = s.smp.pollPeriod ∧
    (lockLoseTest s).smp.soft = s.smp.soft ∧ (lockLoseTest s).smp.writes = s.smp.writes ∧
    (lockLoseTest s).smp.copies = s.smp.copies ∧ (lockLoseTest s).tr = s.tr ∧ (lockLoseTest s).re = s.re ∧
    (lockLoseTest s).ps = s.ps ∧ (lockLoseTest s).bt = s.bt ∧ (lockLoseTest s).hc = s.hc ∧ (lockLoseTest s).dc = s.dc ∧
    (lockLoseTest s).mr.ccur = s.mr.ccur ∧ (lockLoseTest s).mr.errors = s.mr.errors ∧
    (lockLoseTest s).mr.strays = s.mr.strays ∧ (lockLoseTest s).mr.counterCopy = s.mr.counterCopy ∧
    (lockLoseTest s).mr.lastRead = s.mr.lastRead ∧ (lockLoseTest s).cv = s.cv ∧ (lockLoseTest s).now = s.now ∧
    (lockLoseTest s).freeCount = s.freeCount ∧ (lockLoseTest s).out = s.out ∧ (lockLoseTest s).pending = s.pending := by
  unfold lockLoseTest
  (try dsimp only)
  (repeat' split) <;> simp

@[simp] theorem countFound_frame (s : State) :
    (countFound s).pins = s.pins ∧ (countFound s).cfg = s.cfg ∧ (countFound s).smp.chainHead = s.smp.chainHead ∧
    (countFound s).smp.progBase = s.smp.progBase ∧ (countFound s).smp.noticeMask = s.smp.noticeMask ∧
    (countFound s).smp.burstLimit = s.smp.burstLimit ∧ (countFound s).smp.pollPeriod = s.smp.pollPeriod ∧
    (countFound s).smp.soft = s.smp.soft ∧ (countFound s).smp.writes = s.smp.writes ∧
    (countFound s).smp.copies = s.smp.copies ∧ (countFound s).tr = s.tr ∧ (countFound s).re = s.re ∧
    (countFound s).ps = s.ps ∧ (countFound s).bt = s.bt ∧ (countFound s).hc = s.hc ∧ (countFound s).dc = s.dc ∧
    (countFound s).mr.ccur = s.mr.ccur ∧ (countFound s).mr.errors = s.mr.errors ∧ (countFound s).mr.strays = s.mr.strays ∧
    (countFound s).mr.counterCopy = s.mr.counterCopy ∧ (countFound s).mr.lastRead = s.mr.lastRead ∧
    (countFound s).cv = s.cv ∧ (countFound s).now = s.now ∧ (countFound s).freeCount = s.freeCount ∧
    (countFound s).out = s.out ∧ (countFound s).pending = s.pending := by
  unfold countFound
  (try dsimp only)
  (repeat' split) <;> simp

@[simp] theorem countMiss_frame (s : State) :
    (countMiss s).pins = s.pins ∧ (countMiss s).cfg = s.cfg ∧ (countMiss s).smp.chainHead = s.smp.chainHead ∧
    (countMiss s).smp.progBase = s.smp.progBase ∧ (countMiss s).smp.noticeMask = s.smp.noticeMask ∧
    (countMiss s).smp.burstLimit = s.smp.burstLimit ∧ (countMiss s).smp.pollPeriod = s.smp.pollPeriod ∧
    (countMiss s).smp.soft = s.smp.soft ∧ (countMiss s).smp.writes = s.smp.writes ∧
    (countMiss s).smp.copies = s.smp.copies ∧ (countMiss s).tr = s.tr ∧ (countMiss s).re = s.re ∧
    (countMiss s).ps = s.ps ∧ (countMiss s).bt = s.bt ∧ (countMiss s).hc = s.hc ∧ (countMiss s).dc = s.dc ∧
    (countMiss s).mr.ccur = s.mr.ccur ∧ (countMiss s).mr.errors = s.mr.errors ∧ (countMiss s).mr.strays = s.mr.strays ∧
    (countMiss s).mr.counterCopy = s.mr.counterCopy ∧ (countMiss s).mr.lastRead = s.mr.lastRead ∧
    (countMiss s).cv = s.cv ∧ (countMiss s).now = s.now ∧ (countMiss s).freeCount = s.freeCount ∧
    (countMiss s).out = s.out ∧ (countMiss s).pending = s.pending := by
  unfold countMiss
  (try dsimp only)
  (repeat' split) <;> simp

@[simp] theorem addError_frame (s : State) :
    (addError s).pins = s.pins ∧ (addError s).cfg = s.cfg ∧ (addError s).smp.chainHead = s.smp.chainHead ∧
    (addError s).smp.progBase = s.smp.progBase ∧ (addError s).smp.noticeMask = s.smp.noticeMask ∧
    (addError s).smp.burstLimit = s.smp.burstLimit ∧ (addError s).smp.pollPeriod = s.smp.pollPeriod ∧
    (addError s).smp.soft = s.smp.soft ∧ (addError s).smp.writes = s.smp.writes ∧ (addError s).smp.copies = s.smp.copies ∧
    (addError s).tr = s.tr ∧ (addError s).re = s.re ∧ (addError s).ps = s.ps ∧ (addError s).bt = s.bt ∧
    (addError s).hc = s.hc ∧ (addError s).dc = s.dc ∧ (addError s).mr.ccur = s.mr.ccur ∧
    (addError s).mr.lock = s.mr.lock ∧ (addError s).mr.strays = s.mr.strays ∧
    (addError s).mr.counterCopy = s.mr.counterCopy ∧ (addError s).mr.lastRead = s.mr.lastRead ∧
    (addError s).mr.found = s.mr.found ∧ (addError s).mr.miss = s.mr.miss ∧ (addError s).cv = s.cv ∧
    (addError s).now = s.now ∧ (addError s).freeCount = s.freeCount ∧ (addError s).out = s.out ∧
    (addError s).pending = s.pending := by
  unfold addError
  (try dsimp only)
  (repeat' split) <;> simp

@[simp] theorem addErrorIf_frame (t : Bool) (s : State) :
    (addErrorIf t s).pins = s.pins ∧ (addErrorIf t s).cfg = s.cfg ∧ (addErrorIf t s).smp.chainHead = s.smp.chainHead ∧
    (addErrorIf t s).smp.progBase = s.smp.progBase ∧ (addErrorIf t s).smp.noticeMask = s.smp.noticeMask ∧
    (addErrorIf t s).smp.burstLimit = s.smp.burstLimit ∧ (addErrorIf t s).smp.pollPeriod = s.smp.pollPeriod ∧
    (addErrorIf t s).smp.soft = s.smp.soft ∧ (addErrorIf t s).smp.writes = s.smp.writes ∧
    (addErrorIf t s).smp.copies = s.smp.copies ∧ (addErrorIf t s).tr = s.tr ∧ (addErrorIf t s).re = s.re ∧
    (addErrorIf t s).ps = s.ps ∧ (addErrorIf t s).bt = s.bt ∧ (addErrorIf t s).hc = s.hc ∧ (addErrorIf t s).dc = s.dc ∧
    (addErrorIf t s).mr.ccur = s.mr.ccur ∧ (addErrorIf t s).mr.lock = s.mr.lock ∧
    (addErrorIf t s).mr.strays = s.mr.strays ∧ (addErrorIf t s).mr.counterCopy = s.mr.counterCopy ∧
    (addErrorIf t s).mr.lastRead = s.mr.lastRead ∧ (addErrorIf t s).mr.found = s.mr.found ∧
    (addErrorIf t s).mr.miss = s.mr.miss ∧ (addErrorIf t s).cv = s.cv ∧ (addErrorIf t s).now = s.now ∧
    (addErrorIf t s).freeCount = s.freeCount ∧ (addErrorIf t s).out = s.out ∧ (addErrorIf t s).pending = s.pending := by
  unfold addErrorIf
  (try dsimp only)
  (repeat' split) <;> simp

@[simp] theorem markMissed_frame (b : Band) (s : State) :
    (markMissed b s).pins = s.pins ∧ (markMissed b s).cfg = s.cfg ∧ (markMissed b s).smp.chainHead = s.smp.chainHead ∧
    (markMissed b s).smp.progBase = s.smp.progBase ∧ (markMissed b s).smp.noticeMask = s.smp.noticeMask ∧
    (markMissed b s).smp.burstLimit = s.smp.burstLimit ∧ (markMissed b s).smp.pollPeriod = s.smp.pollPeriod ∧
    (markMissed b s).smp.soft = s.smp.soft ∧ (markMissed b s).smp.writes = s.smp.writes ∧
    (markMissed b s).smp.copies = s.smp.copies ∧ (markMissed b s).tr = s.tr ∧ (markMissed b s).re = s.re ∧
    (markMissed b s).ps = s.ps ∧ (markMissed b s).bt.splices = s.bt.splices ∧ (markMissed b s).bt.tallies = s.bt.tallies ∧
    (markMissed b s).bt.pos = s.bt.pos ∧ (markMissed b s).bt.nextNumber = s.bt.nextNumber ∧
    (markMissed b s).bt.overflow = s.bt.overflow ∧ (markMissed b s).bt.retiring = s.bt.retiring ∧
    (markMissed b s).hc = s.hc ∧ (markMissed b s).dc = s.dc ∧ (markMissed b s).mr.ccur = s.mr.ccur ∧
    (markMissed b s).mr.strays = s.mr.strays ∧ (markMissed b s).mr.counterCopy = s.mr.counterCopy ∧
    (markMissed b s).mr.lastRead = s.mr.lastRead ∧ (markMissed b s).cv = s.cv ∧ (markMissed b s).now = s.now ∧
    (markMissed b s).freeCount = s.freeCount ∧ (markMissed b s).out = s.out ∧ (markMissed b s).pending = s.pending := by
  unfold markMissed
  (try dsimp only)
  (repeat' split) <;> simp

@[simp] theorem markStray_frame (s : State) :
    (markStray s).pins = s.pins ∧ (markStray s).cfg = s.cfg ∧ (markStray s).smp.chainHead = s.smp.chainHead ∧
    (markStray s).smp.progBase = s.smp.progBase ∧ (markStray s).smp.noticeMask = s.smp.noticeMask ∧
    (markStray s).smp.burstLimit = s.smp.burstLimit ∧ (markStray s).smp.pollPeriod = s.smp.pollPeriod ∧
    (markStray s).smp.soft = s.smp.soft ∧ (markStray s).smp.writes = s.smp.writes ∧
    (markStray s).smp.copies = s.smp.copies ∧ (markStray s).tr = s.tr ∧ (markStray s).re = s.re ∧
    (markStray s).ps = s.ps ∧ (markStray s).bt = s.bt ∧ (markStray s).hc = s.hc ∧ (markStray s).dc = s.dc ∧
    (markStray s).mr.ccur = s.mr.ccur ∧ (markStray s).mr.lock = s.mr.lock ∧
    (markStray s).mr.counterCopy = s.mr.counterCopy ∧ (markStray s).mr.lastRead = s.mr.lastRead ∧
    (markStray s).mr.found = s.mr.found ∧ (markStray s).mr.miss = s.mr.miss ∧ (markStray s).cv = s.cv ∧
    (markStray s).now = s.now ∧ (markStray s).freeCount = s.freeCount ∧ (markStray s).out = s.out ∧
    (markStray s).pending = s.pending := by
  unfold markStray
  (try dsimp only)
  (repeat' split) <;> simp

@[simp] theorem closeWindowsN_frame (n : Nat) (s : State) :
    (closeWindowsN n s).pins = s.pins ∧ (closeWindowsN n s).cfg = s.cfg ∧
    (closeWindowsN n s).smp.chainHead = s.smp.chainHead ∧ (closeWindowsN n s).smp.progBase = s.smp.progBase ∧
    (closeWindowsN n s).smp.noticeMask = s.smp.noticeMask ∧ (closeWindowsN n s).smp.burstLimit = s.smp.burstLimit ∧
    (closeWindowsN n s).smp.pollPeriod = s.smp.pollPeriod ∧ (closeWindowsN n s).smp.soft = s.smp.soft ∧
    (closeWindowsN n s).smp.writes = s.smp.writes ∧ (closeWindowsN n s).smp.copies = s.smp.copies ∧
    (closeWindowsN n s).tr = s.tr ∧ (closeWindowsN n s).re = s.re ∧ (closeWindowsN n s).ps = s.ps ∧
    (closeWindowsN n s).bt.splices = s.bt.splices ∧ (closeWindowsN n s).bt.tallies = s.bt.tallies ∧
    (closeWindowsN n s).bt.pos = s.bt.pos ∧ (closeWindowsN n s).bt.nextNumber = s.bt.nextNumber ∧
    (closeWindowsN n s).bt.overflow = s.bt.overflow ∧ (closeWindowsN n s).bt.retiring = s.bt.retiring ∧
    (closeWindowsN n s).hc = s.hc ∧ (closeWindowsN n s).dc = s.dc ∧ (closeWindowsN n s).mr.ccur = s.mr.ccur ∧
    (closeWindowsN n s).mr.strays = s.mr.strays ∧ (closeWindowsN n s).mr.counterCopy = s.mr.counterCopy ∧
    (closeWindowsN n s).mr.lastRead = s.mr.lastRead ∧ (closeWindowsN n s).cv = s.cv ∧ (closeWindowsN n s).now = s.now ∧
    (closeWindowsN n s).freeCount = s.freeCount ∧ (closeWindowsN n s).out = s.out ∧
    (closeWindowsN n s).pending = s.pending := by
  induction n generalizing s with
  | zero => simp [closeWindowsN]
  | succ n ih =>
    unfold closeWindowsN
    split
    · simp
    · split
      · simp [ih]
      · simp

@[simp] theorem closeWindows_frame (s : State) :
    (closeWindows s).pins = s.pins ∧ (closeWindows s).cfg = s.cfg ∧ (closeWindows s).smp.chainHead = s.smp.chainHead ∧
    (closeWindows s).smp.progBase = s.smp.progBase ∧ (closeWindows s).smp.noticeMask = s.smp.noticeMask ∧
    (closeWindows s).smp.burstLimit = s.smp.burstLimit ∧ (closeWindows s).smp.pollPeriod = s.smp.pollPeriod ∧
    (closeWindows s).smp.soft = s.smp.soft ∧ (closeWindows s).smp.writes = s.smp.writes ∧
    (closeWindows s).smp.copies = s.smp.copies ∧ (closeWindows s).tr = s.tr ∧ (closeWindows s).re = s.re ∧
    (closeWindows s).ps = s.ps ∧ (closeWindows s).bt.splices = s.bt.splices ∧ (closeWindows s).bt.tallies = s.bt.tallies ∧
    (closeWindows s).bt.pos = s.bt.pos ∧ (closeWindows s).bt.nextNumber = s.bt.nextNumber ∧
    (closeWindows s).bt.overflow = s.bt.overflow ∧ (closeWindows s).bt.retiring = s.bt.retiring ∧
    (closeWindows s).hc = s.hc ∧ (closeWindows s).dc = s.dc ∧ (closeWindows s).mr.ccur = s.mr.ccur ∧
    (closeWindows s).mr.strays = s.mr.strays ∧ (closeWindows s).mr.counterCopy = s.mr.counterCopy ∧
    (closeWindows s).mr.lastRead = s.mr.lastRead ∧ (closeWindows s).cv = s.cv ∧ (closeWindows s).now = s.now ∧
    (closeWindows s).freeCount = s.freeCount ∧ (closeWindows s).out = s.out ∧ (closeWindows s).pending = s.pending := by
  unfold closeWindows
  (try dsimp only)
  (repeat' split) <;> simp

@[simp] theorem takeCorrection_frame (e : Int) (s : State) :
    (takeCorrection e s).pins = s.pins ∧ (takeCorrection e s).cfg = s.cfg ∧ (takeCorrection e s).smp = s.smp ∧
    (takeCorrection e s).tr = s.tr ∧ (takeCorrection e s).re = s.re ∧ (takeCorrection e s).ps = s.ps ∧
    (takeCorrection e s).bt = s.bt ∧ (takeCorrection e s).hc = s.hc ∧ (takeCorrection e s).dc = s.dc ∧
    (takeCorrection e s).mr.lock = s.mr.lock ∧ (takeCorrection e s).mr.errors = s.mr.errors ∧
    (takeCorrection e s).mr.strays = s.mr.strays ∧ (takeCorrection e s).mr.counterCopy = s.mr.counterCopy ∧
    (takeCorrection e s).mr.lastRead = s.mr.lastRead ∧ (takeCorrection e s).mr.found = s.mr.found ∧
    (takeCorrection e s).mr.miss = s.mr.miss ∧ (takeCorrection e s).cv = s.cv ∧ (takeCorrection e s).now = s.now ∧
    (takeCorrection e s).freeCount = s.freeCount ∧ (takeCorrection e s).out = s.out ∧
    (takeCorrection e s).pending = s.pending := by
  unfold takeCorrection
  (try dsimp only)
  (repeat' split) <;> simp

@[simp] theorem markFound_frame (b : Band) (position : Nat) (s : State) :
    (markFound b position s).pins = s.pins ∧ (markFound b position s).cfg = s.cfg ∧
    (markFound b position s).smp.chainHead = s.smp.chainHead ∧ (markFound b position s).smp.progBase = s.smp.progBase ∧
    (markFound b position s).smp.noticeMask = s.smp.noticeMask ∧
    (markFound b position s).smp.burstLimit = s.smp.burstLimit ∧
    (markFound b position s).smp.pollPeriod = s.smp.pollPeriod ∧ (markFound b position s).smp.soft = s.smp.soft ∧
    (markFound b position s).smp.writes = s.smp.writes ∧ (markFound b position s).smp.copies = s.smp.copies ∧
    (markFound b position s).tr = s.tr ∧ (markFound b position s).re = s.re ∧ (markFound b position s).ps = s.ps ∧
    (markFound b position s).bt.splices = s.bt.splices ∧ (markFound b position s).bt.tallies = s.bt.tallies ∧
    (markFound b position s).bt.pos = s.bt.pos ∧ (markFound b position s).bt.nextNumber = s.bt.nextNumber ∧
    (markFound b position s).bt.overflow = s.bt.overflow ∧ (markFound b position s).bt.retiring = s.bt.retiring ∧
    (markFound b position s).hc = s.hc ∧ (markFound b position s).dc = s.dc ∧
    (markFound b position s).mr.strays = s.mr.strays ∧ (markFound b position s).mr.counterCopy = s.mr.counterCopy ∧
    (markFound b position s).cv = s.cv ∧ (markFound b position s).now = s.now ∧
    (markFound b position s).freeCount = s.freeCount ∧ (markFound b position s).out = s.out ∧
    (markFound b position s).pending = s.pending := by
  unfold markFound
  (try dsimp only)
  (repeat' split) <;> simp

@[simp] theorem markMismatch_frame (b : Band) (s : State) :
    (markMismatch b s).pins = s.pins ∧ (markMismatch b s).cfg = s.cfg ∧
    (markMismatch b s).smp.chainHead = s.smp.chainHead ∧ (markMismatch b s).smp.progBase = s.smp.progBase ∧
    (markMismatch b s).smp.noticeMask = s.smp.noticeMask ∧ (markMismatch b s).smp.burstLimit = s.smp.burstLimit ∧
    (markMismatch b s).smp.pollPeriod = s.smp.pollPeriod ∧ (markMismatch b s).smp.soft = s.smp.soft ∧
    (markMismatch b s).smp.writes = s.smp.writes ∧ (markMismatch b s).smp.copies = s.smp.copies ∧
    (markMismatch b s).tr = s.tr ∧ (markMismatch b s).re = s.re ∧ (markMismatch b s).ps = s.ps ∧
    (markMismatch b s).bt.splices = s.bt.splices ∧ (markMismatch b s).bt.tallies = s.bt.tallies ∧
    (markMismatch b s).bt.pos = s.bt.pos ∧ (markMismatch b s).bt.nextNumber = s.bt.nextNumber ∧
    (markMismatch b s).bt.overflow = s.bt.overflow ∧ (markMismatch b s).bt.retiring = s.bt.retiring ∧
    (markMismatch b s).hc = s.hc ∧ (markMismatch b s).dc = s.dc ∧ (markMismatch b s).mr.ccur = s.mr.ccur ∧
    (markMismatch b s).mr.strays = s.mr.strays ∧ (markMismatch b s).mr.counterCopy = s.mr.counterCopy ∧
    (markMismatch b s).cv = s.cv ∧ (markMismatch b s).now = s.now ∧ (markMismatch b s).freeCount = s.freeCount ∧
    (markMismatch b s).out = s.out ∧ (markMismatch b s).pending = s.pending := by
  unfold markMismatch
  (try dsimp only)
  (repeat' split) <;> simp

@[simp] theorem settleRead_frame (code : Byte) (ok : Bool) (position n : Nat) (s : State) :
    (settleRead code ok position n s).pins = s.pins ∧ (settleRead code ok position n s).cfg = s.cfg ∧
    (settleRead code ok position n s).smp.chainHead = s.smp.chainHead ∧
    (settleRead code ok position n s).smp.progBase = s.smp.progBase ∧
    (settleRead code ok position n s).smp.noticeMask = s.smp.noticeMask ∧
    (settleRead code ok position n s).smp.burstLimit = s.smp.burstLimit ∧
    (settleRead code ok position n s).smp.pollPeriod = s.smp.pollPeriod ∧
    (settleRead code ok position n s).smp.soft = s.smp.soft ∧
    (settleRead code ok position n s).smp.writes = s.smp.writes ∧
    (settleRead code ok position n s).smp.copies = s.smp.copies ∧ (settleRead code ok position n s).tr = s.tr ∧
    (settleRead code ok position n s).re = s.re ∧ (settleRead code ok position n s).ps = s.ps ∧
    (settleRead code ok position n s).bt.splices = s.bt.splices ∧
    (settleRead code ok position n s).bt.tallies = s.bt.tallies ∧ (settleRead code ok position n s).bt.pos = s.bt.pos ∧
    (settleRead code ok position n s).bt.nextNumber = s.bt.nextNumber ∧
    (settleRead code ok position n s).bt.overflow = s.bt.overflow ∧
    (settleRead code ok position n s).bt.retiring = s.bt.retiring ∧ (settleRead code ok position n s).hc = s.hc ∧
    (settleRead code ok position n s).dc = s.dc ∧ (settleRead code ok position n s).mr.counterCopy = s.mr.counterCopy ∧
    (settleRead code ok position n s).cv = s.cv ∧ (settleRead code ok position n s).now = s.now ∧
    (settleRead code ok position n s).freeCount = s.freeCount ∧ (settleRead code ok position n s).out = s.out ∧
    (settleRead code ok position n s).pending = s.pending := by
  induction n generalizing s with
  | zero => simp [settleRead]
  | succ n ih =>
    unfold settleRead
    dsimp only
    (repeat' split) <;> simp [ih]

@[simp] theorem takeMark_frame (code : Byte) (ok : Bool) (position : Nat) (s : State) :
    (takeMark code ok position s).pins = s.pins ∧ (takeMark code ok position s).cfg = s.cfg ∧
    (takeMark code ok position s).smp.chainHead = s.smp.chainHead ∧
    (takeMark code ok position s).smp.progBase = s.smp.progBase ∧
    (takeMark code ok position s).smp.noticeMask = s.smp.noticeMask ∧
    (takeMark code ok position s).smp.burstLimit = s.smp.burstLimit ∧
    (takeMark code ok position s).smp.pollPeriod = s.smp.pollPeriod ∧
    (takeMark code ok position s).smp.soft = s.smp.soft ∧ (takeMark code ok position s).smp.writes = s.smp.writes ∧
    (takeMark code ok position s).smp.copies = s.smp.copies ∧ (takeMark code ok position s).tr = s.tr ∧
    (takeMark code ok position s).re = s.re ∧ (takeMark code ok position s).ps = s.ps ∧
    (takeMark code ok position s).bt.splices = s.bt.splices ∧ (takeMark code ok position s).bt.tallies = s.bt.tallies ∧
    (takeMark code ok position s).bt.pos = s.bt.pos ∧ (takeMark code ok position s).bt.nextNumber = s.bt.nextNumber ∧
    (takeMark code ok position s).bt.overflow = s.bt.overflow ∧
    (takeMark code ok position s).bt.retiring = s.bt.retiring ∧ (takeMark code ok position s).hc = s.hc ∧
    (takeMark code ok position s).dc = s.dc ∧ (takeMark code ok position s).mr.counterCopy = s.mr.counterCopy ∧
    (takeMark code ok position s).cv = s.cv ∧ (takeMark code ok position s).now = s.now ∧
    (takeMark code ok position s).freeCount = s.freeCount ∧ (takeMark code ok position s).out = s.out ∧
    (takeMark code ok position s).pending = s.pending := by
  unfold takeMark
  (try dsimp only)
  (repeat' split) <;> simp

@[simp] theorem marksSoftReset_frame (s : State) :
    (marksSoftReset s).pins = s.pins ∧ (marksSoftReset s).cfg = s.cfg ∧
    (marksSoftReset s).smp.chainHead = s.smp.chainHead ∧ (marksSoftReset s).smp.progBase = s.smp.progBase ∧
    (marksSoftReset s).smp.noticeMask = s.smp.noticeMask ∧ (marksSoftReset s).smp.burstLimit = s.smp.burstLimit ∧
    (marksSoftReset s).smp.pollPeriod = s.smp.pollPeriod ∧ (marksSoftReset s).smp.soft = s.smp.soft ∧
    (marksSoftReset s).smp.writes = s.smp.writes ∧ (marksSoftReset s).smp.copies = s.smp.copies ∧
    (marksSoftReset s).tr = s.tr ∧ (marksSoftReset s).re = s.re ∧ (marksSoftReset s).ps = s.ps ∧
    (marksSoftReset s).bt = s.bt ∧ (marksSoftReset s).hc = s.hc ∧ (marksSoftReset s).dc = s.dc ∧
    (marksSoftReset s).mr.strays = s.mr.strays ∧ (marksSoftReset s).mr.counterCopy = s.mr.counterCopy ∧
    (marksSoftReset s).cv = s.cv ∧ (marksSoftReset s).now = s.now ∧ (marksSoftReset s).freeCount = s.freeCount ∧
    (marksSoftReset s).out = s.out ∧ (marksSoftReset s).pending = s.pending := by
  unfold marksSoftReset
  (try dsimp only)
  (repeat' split) <;> simp

@[simp] theorem setDrum_frame (d : DrumState) (s : State) :
    (setDrum d s).pins = s.pins ∧ (setDrum d s).cfg = s.cfg ∧ (setDrum d s).smp.chainHead = s.smp.chainHead ∧
    (setDrum d s).smp.progBase = s.smp.progBase ∧ (setDrum d s).smp.noticeMask = s.smp.noticeMask ∧
    (setDrum d s).smp.burstLimit = s.smp.burstLimit ∧ (setDrum d s).smp.pollPeriod = s.smp.pollPeriod ∧
    (setDrum d s).smp.soft = s.smp.soft ∧ (setDrum d s).smp.writes = s.smp.writes ∧
    (setDrum d s).smp.copies = s.smp.copies ∧ (setDrum d s).tr = s.tr ∧ (setDrum d s).re = s.re ∧
    (setDrum d s).ps = s.ps ∧ (setDrum d s).bt = s.bt ∧ (setDrum d s).hc.zones = s.hc.zones ∧
    (setDrum d s).hc.settle = s.hc.settle ∧ (setDrum d s).hc.ton = s.hc.ton ∧ (setDrum d s).hc.ramp = s.hc.ramp ∧
    (setDrum d s).hc.kp = s.hc.kp ∧ (setDrum d s).hc.ki = s.hc.ki ∧ (setDrum d s).hc.retain = s.hc.retain ∧
    (setDrum d s).dc = s.dc ∧ (setDrum d s).mr = s.mr ∧ (setDrum d s).cv = s.cv ∧ (setDrum d s).now = s.now ∧
    (setDrum d s).freeCount = s.freeCount ∧ (setDrum d s).out = s.out ∧ (setDrum d s).pending = s.pending := by
  unfold setDrum
  (try dsimp only)
  (repeat' split) <;> simp

@[simp] theorem modZones_frame (f : Zone → Zone) (s : State) :
    (modZones f s).pins = s.pins ∧ (modZones f s).cfg = s.cfg ∧ (modZones f s).smp = s.smp ∧ (modZones f s).tr = s.tr ∧
    (modZones f s).re = s.re ∧ (modZones f s).ps = s.ps ∧ (modZones f s).bt = s.bt ∧ (modZones f s).hc.drum = s.hc.drum ∧
    (modZones f s).hc.settle = s.hc.settle ∧ (modZones f s).hc.ton = s.hc.ton ∧ (modZones f s).hc.ramp = s.hc.ramp ∧
    (modZones f s).hc.kp = s.hc.kp ∧ (modZones f s).hc.ki = s.hc.ki ∧ (modZones f s).hc.retain = s.hc.retain ∧
    (modZones f s).dc = s.dc ∧ (modZones f s).mr = s.mr ∧ (modZones f s).cv = s.cv ∧ (modZones f s).now = s.now ∧
    (modZones f s).freeCount = s.freeCount ∧ (modZones f s).out = s.out ∧ (modZones f s).pending = s.pending := by
  unfold modZones
  (try dsimp only)
  (repeat' split) <;> simp

@[simp] theorem takeHeat_frame (ws : List Word) (s : State) :
    (takeHeat ws s).pins = s.pins ∧ (takeHeat ws s).cfg = s.cfg ∧ (takeHeat ws s).smp.chainHead = s.smp.chainHead ∧
    (takeHeat ws s).smp.progBase = s.smp.progBase ∧ (takeHeat ws s).smp.noticeMask = s.smp.noticeMask ∧
    (takeHeat ws s).smp.burstLimit = s.smp.burstLimit ∧ (takeHeat ws s).smp.pollPeriod = s.smp.pollPeriod ∧
    (takeHeat ws s).smp.soft = s.smp.soft ∧ (takeHeat ws s).smp.writes = s.smp.writes ∧
    (takeHeat ws s).smp.copies = s.smp.copies ∧ (takeHeat ws s).tr = s.tr ∧ (takeHeat ws s).re = s.re ∧
    (takeHeat ws s).ps = s.ps ∧ (takeHeat ws s).bt = s.bt ∧ (takeHeat ws s).dc = s.dc ∧ (takeHeat ws s).mr = s.mr ∧
    (takeHeat ws s).cv = s.cv ∧ (takeHeat ws s).now = s.now ∧ (takeHeat ws s).freeCount = s.freeCount ∧
    (takeHeat ws s).out = s.out ∧ (takeHeat ws s).pending = s.pending := by
  unfold takeHeat
  (try dsimp only)
  (repeat' split) <;> simp

@[simp] theorem tripDrum_frame (s : State) :
    (tripDrum s).pins = s.pins ∧ (tripDrum s).cfg = s.cfg ∧ (tripDrum s).smp.chainHead = s.smp.chainHead ∧
    (tripDrum s).smp.progBase = s.smp.progBase ∧ (tripDrum s).smp.noticeMask = s.smp.noticeMask ∧
    (tripDrum s).smp.burstLimit = s.smp.burstLimit ∧ (tripDrum s).smp.pollPeriod = s.smp.pollPeriod ∧
    (tripDrum s).smp.soft = s.smp.soft ∧ (tripDrum s).smp.writes = s.smp.writes ∧ (tripDrum s).smp.copies = s.smp.copies ∧
    (tripDrum s).tr = s.tr ∧ (tripDrum s).re = s.re ∧ (tripDrum s).ps = s.ps ∧ (tripDrum s).bt = s.bt ∧
    (tripDrum s).hc.settle = s.hc.settle ∧ (tripDrum s).hc.ton = s.hc.ton ∧ (tripDrum s).hc.ramp = s.hc.ramp ∧
    (tripDrum s).hc.kp = s.hc.kp ∧ (tripDrum s).hc.ki = s.hc.ki ∧ (tripDrum s).hc.retain = s.hc.retain ∧
    (tripDrum s).dc = s.dc ∧ (tripDrum s).mr = s.mr ∧ (tripDrum s).cv = s.cv ∧ (tripDrum s).now = s.now ∧
    (tripDrum s).freeCount = s.freeCount ∧ (tripDrum s).out = s.out ∧ (tripDrum s).pending = s.pending := by
  unfold tripDrum
  (try dsimp only)
  (repeat' split) <;> simp

@[simp] theorem settleTest_frame (s : State) :
    (settleTest s).pins = s.pins ∧ (settleTest s).cfg = s.cfg ∧ (settleTest s).smp.chainHead = s.smp.chainHead ∧
    (settleTest s).smp.progBase = s.smp.progBase ∧ (settleTest s).smp.noticeMask = s.smp.noticeMask ∧
    (settleTest s).smp.burstLimit = s.smp.burstLimit ∧ (settleTest s).smp.pollPeriod = s.smp.pollPeriod ∧
    (settleTest s).smp.soft = s.smp.soft ∧ (settleTest s).smp.writes = s.smp.writes ∧
    (settleTest s).smp.copies = s.smp.copies ∧ (settleTest s).tr = s.tr ∧ (settleTest s).re = s.re ∧
    (settleTest s).ps = s.ps ∧ (settleTest s).bt = s.bt ∧ (settleTest s).hc.zones = s.hc.zones ∧
    (settleTest s).hc.settle = s.hc.settle ∧ (settleTest s).hc.ton = s.hc.ton ∧ (settleTest s).hc.ramp = s.hc.ramp ∧
    (settleTest s).hc.kp = s.hc.kp ∧ (settleTest s).hc.ki = s.hc.ki ∧ (settleTest s).hc.retain = s.hc.retain ∧
    (settleTest s).dc = s.dc ∧ (settleTest s).mr = s.mr ∧ (settleTest s).cv = s.cv ∧ (settleTest s).now = s.now ∧
    (settleTest s).freeCount = s.freeCount ∧ (settleTest s).out = s.out ∧ (settleTest s).pending = s.pending := by
  unfold settleTest
  (try dsimp only)
  (repeat' split) <;> simp

@[simp] theorem judgeDrum_frame (s : State) :
    (judgeDrum s).pins = s.pins ∧ (judgeDrum s).cfg = s.cfg ∧ (judgeDrum s).smp.chainHead = s.smp.chainHead ∧
    (judgeDrum s).smp.progBase = s.smp.progBase ∧ (judgeDrum s).smp.noticeMask = s.smp.noticeMask ∧
    (judgeDrum s).smp.burstLimit = s.smp.burstLimit ∧ (judgeDrum s).smp.pollPeriod = s.smp.pollPeriod ∧
    (judgeDrum s).smp.soft = s.smp.soft ∧ (judgeDrum s).smp.writes = s.smp.writes ∧
    (judgeDrum s).smp.copies = s.smp.copies ∧ (judgeDrum s).tr = s.tr ∧ (judgeDrum s).re = s.re ∧
    (judgeDrum s).ps = s.ps ∧ (judgeDrum s).bt = s.bt ∧ (judgeDrum s).hc.zones = s.hc.zones ∧
    (judgeDrum s).hc.ton = s.hc.ton ∧ (judgeDrum s).hc.ramp = s.hc.ramp ∧ (judgeDrum s).hc.kp = s.hc.kp ∧
    (judgeDrum s).hc.ki = s.hc.ki ∧ (judgeDrum s).hc.retain = s.hc.retain ∧ (judgeDrum s).dc = s.dc ∧
    (judgeDrum s).mr = s.mr ∧ (judgeDrum s).cv = s.cv ∧ (judgeDrum s).now = s.now ∧
    (judgeDrum s).freeCount = s.freeCount ∧ (judgeDrum s).out = s.out ∧ (judgeDrum s).pending = s.pending := by
  unfold judgeDrum
  (try dsimp only)
  (repeat' split) <;> simp

@[simp] theorem takeReadings_frame (ch : Oct Channel) (s : State) :
    (takeReadings ch s).pins = s.pins ∧ (takeReadings ch s).cfg = s.cfg ∧ (takeReadings ch s).smp = s.smp ∧
    (takeReadings ch s).tr = s.tr ∧ (takeReadings ch s).re = s.re ∧ (takeReadings ch s).ps = s.ps ∧
    (takeReadings ch s).bt = s.bt ∧ (takeReadings ch s).hc.drum = s.hc.drum ∧
    (takeReadings ch s).hc.settle = s.hc.settle ∧ (takeReadings ch s).hc.ton = s.hc.ton ∧
    (takeReadings ch s).hc.ramp = s.hc.ramp ∧ (takeReadings ch s).hc.kp = s.hc.kp ∧ (takeReadings ch s).hc.ki = s.hc.ki ∧
    (takeReadings ch s).hc.retain = s.hc.retain ∧ (takeReadings ch s).dc = s.dc ∧ (takeReadings ch s).mr = s.mr ∧
    (takeReadings ch s).cv = s.cv ∧ (takeReadings ch s).now = s.now ∧ (takeReadings ch s).freeCount = s.freeCount ∧
    (takeReadings ch s).out = s.out ∧ (takeReadings ch s).pending = s.pending := by
  unfold takeReadings
  (try dsimp only)
  (repeat' split) <;> simp

@[simp] theorem doseStage_frame (s : State) :
    (doseStage s).pins = s.pins ∧ (doseStage s).cfg = s.cfg ∧ (doseStage s).smp = s.smp ∧ (doseStage s).tr = s.tr ∧
    (doseStage s).re = s.re ∧ (doseStage s).ps = s.ps ∧ (doseStage s).bt.splices = s.bt.splices ∧
    (doseStage s).bt.tallies = s.bt.tallies ∧ (doseStage s).bt.pos = s.bt.pos ∧
    (doseStage s).bt.nextNumber = s.bt.nextNumber ∧ (doseStage s).bt.overflow = s.bt.overflow ∧
    (doseStage s).bt.retiring = s.bt.retiring ∧ (doseStage s).hc = s.hc ∧ (doseStage s).dc = s.dc ∧
    (doseStage s).mr = s.mr ∧ (doseStage s).cv = s.cv ∧ (doseStage s).now = s.now ∧
    (doseStage s).freeCount = s.freeCount ∧ (doseStage s).out = s.out ∧ (doseStage s).pending = s.pending := by
  unfold doseStage
  (try dsimp only)
  (repeat' split) <;> simp

@[simp] theorem dutyStage_frame (s : State) :
    (dutyStage s).pins = s.pins ∧ (dutyStage s).cfg = s.cfg ∧ (dutyStage s).smp = s.smp ∧ (dutyStage s).tr = s.tr ∧
    (dutyStage s).re = s.re ∧ (dutyStage s).ps = s.ps ∧ (dutyStage s).bt = s.bt ∧ (dutyStage s).hc.drum = s.hc.drum ∧
    (dutyStage s).hc.settle = s.hc.settle ∧ (dutyStage s).hc.ton = s.hc.ton ∧ (dutyStage s).hc.ramp = s.hc.ramp ∧
    (dutyStage s).hc.kp = s.hc.kp ∧ (dutyStage s).hc.ki = s.hc.ki ∧ (dutyStage s).hc.retain = s.hc.retain ∧
    (dutyStage s).dc = s.dc ∧ (dutyStage s).mr = s.mr ∧ (dutyStage s).cv = s.cv ∧ (dutyStage s).now = s.now ∧
    (dutyStage s).freeCount = s.freeCount ∧ (dutyStage s).out = s.out ∧ (dutyStage s).pending = s.pending := by
  unfold dutyStage
  (try dsimp only)
  (repeat' split) <;> simp

@[simp] theorem heatStages_frame (ch : Oct Channel) (s : State) :
    (heatStages ch s).pins = s.pins ∧ (heatStages ch s).cfg = s.cfg ∧ (heatStages ch s).smp.chainHead = s.smp.chainHead ∧
    (heatStages ch s).smp.progBase = s.smp.progBase ∧ (heatStages ch s).smp.noticeMask = s.smp.noticeMask ∧
    (heatStages ch s).smp.burstLimit = s.smp.burstLimit ∧ (heatStages ch s).smp.pollPeriod = s.smp.pollPeriod ∧
    (heatStages ch s).smp.soft = s.smp.soft ∧ (heatStages ch s).smp.writes = s.smp.writes ∧
    (heatStages ch s).smp.copies = s.smp.copies ∧ (heatStages ch s).tr = s.tr ∧ (heatStages ch s).re = s.re ∧
    (heatStages ch s).ps = s.ps ∧ (heatStages ch s).bt.splices = s.bt.splices ∧
    (heatStages ch s).bt.tallies = s.bt.tallies ∧ (heatStages ch s).bt.pos = s.bt.pos ∧
    (heatStages ch s).bt.nextNumber = s.bt.nextNumber ∧ (heatStages ch s).bt.overflow = s.bt.overflow ∧
    (heatStages ch s).bt.retiring = s.bt.retiring ∧ (heatStages ch s).hc.ton = s.hc.ton ∧
    (heatStages ch s).hc.ramp = s.hc.ramp ∧ (heatStages ch s).hc.kp = s.hc.kp ∧ (heatStages ch s).hc.ki = s.hc.ki ∧
    (heatStages ch s).hc.retain = s.hc.retain ∧ (heatStages ch s).dc = s.dc ∧ (heatStages ch s).mr = s.mr ∧
    (heatStages ch s).cv = s.cv ∧ (heatStages ch s).now = s.now ∧ (heatStages ch s).freeCount = s.freeCount ∧
    (heatStages ch s).out = s.out ∧ (heatStages ch s).pending = s.pending := by
  unfold heatStages
  (try dsimp only)
  (repeat' split) <;> simp

@[simp] theorem clearDrum_frame (s : State) :
    (clearDrum s).pins = s.pins ∧ (clearDrum s).cfg = s.cfg ∧ (clearDrum s).smp.chainHead = s.smp.chainHead ∧
    (clearDrum s).smp.progBase = s.smp.progBase ∧ (clearDrum s).smp.noticeMask = s.smp.noticeMask ∧
    (clearDrum s).smp.burstLimit = s.smp.burstLimit ∧ (clearDrum s).smp.pollPeriod = s.smp.pollPeriod ∧
    (clearDrum s).smp.soft = s.smp.soft ∧ (clearDrum s).smp.writes = s.smp.writes ∧
    (clearDrum s).smp.copies = s.smp.copies ∧ (clearDrum s).tr = s.tr ∧ (clearDrum s).re = s.re ∧
    (clearDrum s).ps = s.ps ∧ (clearDrum s).bt = s.bt ∧ (clearDrum s).hc.ton = s.hc.ton ∧
    (clearDrum s).hc.ramp = s.hc.ramp ∧ (clearDrum s).hc.kp = s.hc.kp ∧ (clearDrum s).hc.ki = s.hc.ki ∧
    (clearDrum s).hc.retain = s.hc.retain ∧ (clearDrum s).dc = s.dc ∧ (clearDrum s).mr = s.mr ∧ (clearDrum s).cv = s.cv ∧
    (clearDrum s).now = s.now ∧ (clearDrum s).freeCount = s.freeCount ∧ (clearDrum s).out = s.out ∧
    (clearDrum s).pending = s.pending := by
  unfold clearDrum
  (try dsimp only)
  (repeat' split) <;> simp

@[simp] theorem heatSoftReset_frame (s : State) :
    (heatSoftReset s).pins = s.pins ∧ (heatSoftReset s).cfg = s.cfg ∧ (heatSoftReset s).smp.chainHead = s.smp.chainHead ∧
    (heatSoftReset s).smp.progBase = s.smp.progBase ∧ (heatSoftReset s).smp.noticeMask = s.smp.noticeMask ∧
    (heatSoftReset s).smp.burstLimit = s.smp.burstLimit ∧ (heatSoftReset s).smp.pollPeriod = s.smp.pollPeriod ∧
    (heatSoftReset s).smp.soft = s.smp.soft ∧ (heatSoftReset s).smp.writes = s.smp.writes ∧
    (heatSoftReset s).smp.copies = s.smp.copies ∧ (heatSoftReset s).tr = s.tr ∧ (heatSoftReset s).re = s.re ∧
    (heatSoftReset s).ps = s.ps ∧ (heatSoftReset s).bt = s.bt ∧ (heatSoftReset s).hc.settle = s.hc.settle ∧
    (heatSoftReset s).hc.ton = s.hc.ton ∧ (heatSoftReset s).hc.ramp = s.hc.ramp ∧ (heatSoftReset s).hc.kp = s.hc.kp ∧
    (heatSoftReset s).hc.ki = s.hc.ki ∧ (heatSoftReset s).hc.retain = s.hc.retain ∧ (heatSoftReset s).dc = s.dc ∧
    (heatSoftReset s).mr = s.mr ∧ (heatSoftReset s).cv = s.cv ∧ (heatSoftReset s).now = s.now ∧
    (heatSoftReset s).freeCount = s.freeCount ∧ (heatSoftReset s).out = s.out ∧ (heatSoftReset s).pending = s.pending := by
  unfold heatSoftReset
  (try dsimp only)
  (repeat' split) <;> simp

end Sys2Proof.Machine
end

