-- ==== Sys2Proof/Laws/FramesB.lean ====
section
/-! SUPPORT. Sys2Proof/Laws/FramesB.lean: for each operation of Stops, Raster, Soft, Drive, what it leaves unchanged: whole blocks, and the named
fields of the blocks it changes. Cite these instead of unfolding an operation. -/

namespace Sys2Proof.Machine

@[simp] theorem discardSlots_frame (p : RowSlot → Bool) (s : State) :
    (discardSlots p s).pins = s.pins ∧ (discardSlots p s).cfg = s.cfg ∧
    (discardSlots p s).smp.chainHead = s.smp.chainHead ∧ (discardSlots p s).smp.progBase = s.smp.progBase ∧
    (discardSlots p s).smp.noticeMask = s.smp.noticeMask ∧ (discardSlots p s).smp.burstLimit = s.smp.burstLimit ∧
    (discardSlots p s).smp.pollPeriod = s.smp.pollPeriod ∧ (discardSlots p s).smp.soft = s.smp.soft ∧
    (discardSlots p s).smp.writes = s.smp.writes ∧ (discardSlots p s).smp.copies = s.smp.copies ∧
    (discardSlots p s).tr = s.tr ∧ (discardSlots p s).re.raster = s.re.raster ∧ (discardSlots p s).re.seg = s.re.seg ∧
    (discardSlots p s).re.band = s.re.band ∧ (discardSlots p s).re.ending = s.re.ending ∧
    (discardSlots p s).re.printEnd = s.re.printEnd ∧ (discardSlots p s).re.lastStarted = s.re.lastStarted ∧
    (discardSlots p s).re.serial = s.re.serial ∧ (discardSlots p s).re.lowWater = s.re.lowWater ∧
    (discardSlots p s).re.underruns = s.re.underruns ∧ (discardSlots p s).re.gaps = s.re.gaps ∧
    (discardSlots p s).ps = s.ps ∧ (discardSlots p s).bt = s.bt ∧ (discardSlots p s).hc = s.hc ∧
    (discardSlots p s).dc = s.dc ∧ (discardSlots p s).mr = s.mr ∧ (discardSlots p s).cv = s.cv ∧
    (discardSlots p s).now = s.now ∧ (discardSlots p s).freeCount = s.freeCount ∧ (discardSlots p s).out = s.out ∧
    (discardSlots p s).pending = s.pending := by
  unfold discardSlots
  (try dsimp only)
  (repeat' split) <;> simp

@[simp] theorem clearSegment_frame (s : State) :
    (clearSegment s).pins = s.pins ∧ (clearSegment s).cfg = s.cfg ∧ (clearSegment s).smp.chainHead = s.smp.chainHead ∧
    (clearSegment s).smp.progBase = s.smp.progBase ∧ (clearSegment s).smp.noticeMask = s.smp.noticeMask ∧
    (clearSegment s).smp.burstLimit = s.smp.burstLimit ∧ (clearSegment s).smp.pollPeriod = s.smp.pollPeriod ∧
    (clearSegment s).smp.soft = s.smp.soft ∧ (clearSegment s).smp.writes = s.smp.writes ∧
    (clearSegment s).smp.copies = s.smp.copies ∧ (clearSegment s).tr.reader = s.tr.reader ∧
    (clearSegment s).tr.pos = s.tr.pos ∧ (clearSegment s).tr.step = s.tr.step ∧ (clearSegment s).tr.ticket = s.tr.ticket ∧
    (clearSegment s).tr.pauseReq = s.tr.pauseReq ∧ (clearSegment s).tr.haltReq = s.tr.haltReq ∧
    (clearSegment s).re.printEnd = s.re.printEnd ∧ (clearSegment s).re.lastStarted = s.re.lastStarted ∧
    (clearSegment s).re.serial = s.re.serial ∧ (clearSegment s).re.lowWater = s.re.lowWater ∧
    (clearSegment s).re.underruns = s.re.underruns ∧ (clearSegment s).re.gaps = s.re.gaps ∧ (clearSegment s).ps = s.ps ∧
    (clearSegment s).bt = s.bt ∧ (clearSegment s).hc = s.hc ∧ (clearSegment s).dc = s.dc ∧ (clearSegment s).mr = s.mr ∧
    (clearSegment s).cv = s.cv ∧ (clearSegment s).now = s.now ∧ (clearSegment s).freeCount = s.freeCount ∧
    (clearSegment s).out = s.out ∧ (clearSegment s).pending = s.pending := by
  unfold clearSegment
  (try dsimp only)
  (repeat' split) <;> simp

@[simp] theorem printedReport_frame (cause : EndCause) (s : State) :
    (printedReport cause s).pins = s.pins ∧ (printedReport cause s).cfg = s.cfg ∧
    (printedReport cause s).smp.chainHead = s.smp.chainHead ∧ (printedReport cause s).smp.progBase = s.smp.progBase ∧
    (printedReport cause s).smp.noticeMask = s.smp.noticeMask ∧
    (printedReport cause s).smp.burstLimit = s.smp.burstLimit ∧
    (printedReport cause s).smp.pollPeriod = s.smp.pollPeriod ∧ (printedReport cause s).smp.soft = s.smp.soft ∧
    (printedReport cause s).smp.copies = s.smp.copies ∧ (printedReport cause s).tr.pos = s.tr.pos ∧
    (printedReport cause s).tr.step = s.tr.step ∧ (printedReport cause s).tr.pauseReq = s.tr.pauseReq ∧
    (printedReport cause s).re.printEnd = s.re.printEnd ∧ (printedReport cause s).re.lastStarted = s.re.lastStarted ∧
    (printedReport cause s).re.serial = s.re.serial ∧ (printedReport cause s).re.lowWater = s.re.lowWater ∧
    (printedReport cause s).re.underruns = s.re.underruns ∧ (printedReport cause s).re.gaps = s.re.gaps ∧
    (printedReport cause s).ps = s.ps ∧ (printedReport cause s).bt.track = s.bt.track ∧
    (printedReport cause s).bt.splices = s.bt.splices ∧ (printedReport cause s).bt.pos = s.bt.pos ∧
    (printedReport cause s).bt.nextNumber = s.bt.nextNumber ∧ (printedReport cause s).bt.overflow = s.bt.overflow ∧
    (printedReport cause s).bt.retiring = s.bt.retiring ∧ (printedReport cause s).hc = s.hc ∧
    (printedReport cause s).dc = s.dc ∧ (printedReport cause s).mr.ccur = s.mr.ccur ∧
    (printedReport cause s).mr.lock = s.mr.lock ∧ (printedReport cause s).mr.strays = s.mr.strays ∧
    (printedReport cause s).mr.lastRead = s.mr.lastRead ∧ (printedReport cause s).mr.found = s.mr.found ∧
    (printedReport cause s).mr.miss = s.mr.miss ∧ (printedReport cause s).cv = s.cv ∧
    (printedReport cause s).now = s.now ∧ (printedReport cause s).freeCount = s.freeCount ∧
    (printedReport cause s).out = s.out ∧ (printedReport cause s).pending = s.pending := by
  unfold printedReport
  (try dsimp only)
  (repeat' split) <;> simp

@[simp] theorem refuseSegment_frame (s : State) :
    (refuseSegment s).pins = s.pins ∧ (refuseSegment s).cfg = s.cfg ∧ (refuseSegment s).smp.chainHead = s.smp.chainHead ∧
    (refuseSegment s).smp.progBase = s.smp.progBase ∧ (refuseSegment s).smp.noticeMask = s.smp.noticeMask ∧
    (refuseSegment s).smp.burstLimit = s.smp.burstLimit ∧ (refuseSegment s).smp.pollPeriod = s.smp.pollPeriod ∧
    (refuseSegment s).smp.soft = s.smp.soft ∧ (refuseSegment s).smp.copies = s.smp.copies ∧
    (refuseSegment s).tr.pos = s.tr.pos ∧ (refuseSegment s).tr.step = s.tr.step ∧
    (refuseSegment s).tr.pauseReq = s.tr.pauseReq ∧ (refuseSegment s).re.printEnd = s.re.printEnd ∧
    (refuseSegment s).re.lastStarted = s.re.lastStarted ∧ (refuseSegment s).re.serial = s.re.serial ∧
    (refuseSegment s).re.lowWater = s.re.lowWater ∧ (refuseSegment s).re.underruns = s.re.underruns ∧
    (refuseSegment s).re.gaps = s.re.gaps ∧ (refuseSegment s).ps = s.ps ∧ (refuseSegment s).bt.track = s.bt.track ∧
    (refuseSegment s).bt.splices = s.bt.splices ∧ (refuseSegment s).bt.pos = s.bt.pos ∧
    (refuseSegment s).bt.nextNumber = s.bt.nextNumber ∧ (refuseSegment s).bt.overflow = s.bt.overflow ∧
    (refuseSegment s).bt.retiring = s.bt.retiring ∧ (refuseSegment s).hc = s.hc ∧ (refuseSegment s).dc = s.dc ∧
    (refuseSegment s).mr.ccur = s.mr.ccur ∧ (refuseSegment s).mr.lock = s.mr.lock ∧
    (refuseSegment s).mr.strays = s.mr.strays ∧ (refuseSegment s).mr.lastRead = s.mr.lastRead ∧
    (refuseSegment s).mr.found = s.mr.found ∧ (refuseSegment s).mr.miss = s.mr.miss ∧ (refuseSegment s).cv = s.cv ∧
    (refuseSegment s).now = s.now ∧ (refuseSegment s).freeCount = s.freeCount ∧ (refuseSegment s).out = s.out ∧
    (refuseSegment s).pending = s.pending := by
  unfold refuseSegment
  (try dsimp only)
  (repeat' split) <;> simp

@[simp] theorem abortSegment_frame (s : State) :
    (abortSegment s).pins = s.pins ∧ (abortSegment s).cfg = s.cfg ∧ (abortSegment s).smp.chainHead = s.smp.chainHead ∧
    (abortSegment s).smp.progBase = s.smp.progBase ∧ (abortSegment s).smp.noticeMask = s.smp.noticeMask ∧
    (abortSegment s).smp.burstLimit = s.smp.burstLimit ∧ (abortSegment s).smp.pollPeriod = s.smp.pollPeriod ∧
    (abortSegment s).smp.soft = s.smp.soft ∧ (abortSegment s).smp.copies = s.smp.copies ∧
    (abortSegment s).tr.pos = s.tr.pos ∧ (abortSegment s).tr.step = s.tr.step ∧
    (abortSegment s).tr.pauseReq = s.tr.pauseReq ∧ (abortSegment s).re.printEnd = s.re.printEnd ∧
    (abortSegment s).re.lastStarted = s.re.lastStarted ∧ (abortSegment s).re.serial = s.re.serial ∧
    (abortSegment s).re.lowWater = s.re.lowWater ∧ (abortSegment s).re.underruns = s.re.underruns ∧
    (abortSegment s).re.gaps = s.re.gaps ∧ (abortSegment s).ps = s.ps ∧ (abortSegment s).bt.splices = s.bt.splices ∧
    (abortSegment s).bt.pos = s.bt.pos ∧ (abortSegment s).bt.nextNumber = s.bt.nextNumber ∧
    (abortSegment s).bt.overflow = s.bt.overflow ∧ (abortSegment s).bt.retiring = s.bt.retiring ∧
    (abortSegment s).hc = s.hc ∧ (abortSegment s).dc = s.dc ∧ (abortSegment s).mr.ccur = s.mr.ccur ∧
    (abortSegment s).mr.lock = s.mr.lock ∧ (abortSegment s).mr.strays = s.mr.strays ∧
    (abortSegment s).mr.lastRead = s.mr.lastRead ∧ (abortSegment s).mr.found = s.mr.found ∧
    (abortSegment s).mr.miss = s.mr.miss ∧ (abortSegment s).cv = s.cv ∧ (abortSegment s).now = s.now ∧
    (abortSegment s).freeCount = s.freeCount ∧ (abortSegment s).out = s.out ∧ (abortSegment s).pending = s.pending := by
  unfold abortSegment
  (try dsimp only)
  (repeat' split) <;> simp

@[simp] theorem setLine_frame (l : LineState) (s : State) :
    (setLine l s).pins = s.pins ∧ (setLine l s).cfg = s.cfg ∧ (setLine l s).smp.chainHead = s.smp.chainHead ∧
    (setLine l s).smp.progBase = s.smp.progBase ∧ (setLine l s).smp.noticeMask = s.smp.noticeMask ∧
    (setLine l s).smp.burstLimit = s.smp.burstLimit ∧ (setLine l s).smp.pollPeriod = s.smp.pollPeriod ∧
    (setLine l s).smp.soft = s.smp.soft ∧ (setLine l s).smp.writes = s.smp.writes ∧
    (setLine l s).smp.copies = s.smp.copies ∧ (setLine l s).tr = s.tr ∧ (setLine l s).re = s.re ∧
    (setLine l s).ps = s.ps ∧ (setLine l s).bt = s.bt ∧ (setLine l s).hc = s.hc ∧ (setLine l s).dc.nip = s.dc.nip ∧
    (setLine l s).dc.valve = s.dc.valve ∧ (setLine l s).dc.ref = s.dc.ref ∧ (setLine l s).dc.silence = s.dc.silence ∧
    (setLine l s).dc.stopKind = s.dc.stopKind ∧ (setLine l s).dc.setpoint = s.dc.setpoint ∧
    (setLine l s).dc.accel = s.dc.accel ∧ (setLine l s).dc.startCause = s.dc.startCause ∧ (setLine l s).mr = s.mr ∧
    (setLine l s).cv = s.cv ∧ (setLine l s).now = s.now ∧ (setLine l s).freeCount = s.freeCount ∧
    (setLine l s).out = s.out ∧ (setLine l s).pending = s.pending := by
  unfold setLine
  (try dsimp only)
  (repeat' split) <;> simp

@[simp] theorem setNip_frame (n : NipState) (s : State) :
    (setNip n s).pins = s.pins ∧ (setNip n s).cfg = s.cfg ∧ (setNip n s).smp.chainHead = s.smp.chainHead ∧
    (setNip n s).smp.progBase = s.smp.progBase ∧ (setNip n s).smp.noticeMask = s.smp.noticeMask ∧
    (setNip n s).smp.burstLimit = s.smp.burstLimit ∧ (setNip n s).smp.pollPeriod = s.smp.pollPeriod ∧
    (setNip n s).smp.soft = s.smp.soft ∧ (setNip n s).smp.writes = s.smp.writes ∧ (setNip n s).smp.copies = s.smp.copies ∧
    (setNip n s).tr = s.tr ∧ (setNip n s).re = s.re ∧ (setNip n s).ps = s.ps ∧ (setNip n s).bt.splices = s.bt.splices ∧
    (setNip n s).bt.tallies = s.bt.tallies ∧ (setNip n s).bt.pos = s.bt.pos ∧
    (setNip n s).bt.nextNumber = s.bt.nextNumber ∧ (setNip n s).bt.overflow = s.bt.overflow ∧
    (setNip n s).bt.retiring = s.bt.retiring ∧ (setNip n s).hc = s.hc ∧ (setNip n s).dc.line = s.dc.line ∧
    (setNip n s).dc.valve = s.dc.valve ∧ (setNip n s).dc.ref = s.dc.ref ∧ (setNip n s).dc.silence = s.dc.silence ∧
    (setNip n s).dc.stopKind = s.dc.stopKind ∧ (setNip n s).dc.setpoint = s.dc.setpoint ∧
    (setNip n s).dc.accel = s.dc.accel ∧ (setNip n s).dc.startCause = s.dc.startCause ∧ (setNip n s).mr = s.mr ∧
    (setNip n s).cv = s.cv ∧ (setNip n s).now = s.now ∧ (setNip n s).freeCount = s.freeCount ∧ (setNip n s).out = s.out ∧
    (setNip n s).pending = s.pending := by
  unfold setNip
  (try dsimp only)
  (repeat' split) <;> simp

@[simp] theorem nipOpenCommand_frame (s : State) :
    (nipOpenCommand s).pins = s.pins ∧ (nipOpenCommand s).cfg = s.cfg ∧
    (nipOpenCommand s).smp.chainHead = s.smp.chainHead ∧ (nipOpenCommand s).smp.progBase = s.smp.progBase ∧
    (nipOpenCommand s).smp.noticeMask = s.smp.noticeMask ∧ (nipOpenCommand s).smp.burstLimit = s.smp.burstLimit ∧
    (nipOpenCommand s).smp.pollPeriod = s.smp.pollPeriod ∧ (nipOpenCommand s).smp.soft = s.smp.soft ∧
    (nipOpenCommand s).smp.writes = s.smp.writes ∧ (nipOpenCommand s).smp.copies = s.smp.copies ∧
    (nipOpenCommand s).tr = s.tr ∧ (nipOpenCommand s).re = s.re ∧ (nipOpenCommand s).ps = s.ps ∧
    (nipOpenCommand s).bt.splices = s.bt.splices ∧ (nipOpenCommand s).bt.tallies = s.bt.tallies ∧
    (nipOpenCommand s).bt.pos = s.bt.pos ∧ (nipOpenCommand s).bt.nextNumber = s.bt.nextNumber ∧
    (nipOpenCommand s).bt.overflow = s.bt.overflow ∧ (nipOpenCommand s).bt.retiring = s.bt.retiring ∧
    (nipOpenCommand s).hc = s.hc ∧ (nipOpenCommand s).dc.line = s.dc.line ∧ (nipOpenCommand s).dc.ref = s.dc.ref ∧
    (nipOpenCommand s).dc.silence = s.dc.silence ∧ (nipOpenCommand s).dc.stopKind = s.dc.stopKind ∧
    (nipOpenCommand s).dc.setpoint = s.dc.setpoint ∧ (nipOpenCommand s).dc.accel = s.dc.accel ∧
    (nipOpenCommand s).dc.startCause = s.dc.startCause ∧ (nipOpenCommand s).mr = s.mr ∧ (nipOpenCommand s).cv = s.cv ∧
    (nipOpenCommand s).now = s.now ∧ (nipOpenCommand s).freeCount = s.freeCount ∧ (nipOpenCommand s).out = s.out ∧
    (nipOpenCommand s).pending = s.pending := by
  unfold nipOpenCommand
  (try dsimp only)
  (repeat' split) <;> simp

@[simp] theorem nipCloseCommand_frame (s : State) :
    (nipCloseCommand s).pins = s.pins ∧ (nipCloseCommand s).cfg = s.cfg ∧
    (nipCloseCommand s).smp.chainHead = s.smp.chainHead ∧ (nipCloseCommand s).smp.progBase = s.smp.progBase ∧
    (nipCloseCommand s).smp.noticeMask = s.smp.noticeMask ∧ (nipCloseCommand s).smp.burstLimit = s.smp.burstLimit ∧
    (nipCloseCommand s).smp.pollPeriod = s.smp.pollPeriod ∧ (nipCloseCommand s).smp.soft = s.smp.soft ∧
    (nipCloseCommand s).smp.writes = s.smp.writes ∧ (nipCloseCommand s).smp.copies = s.smp.copies ∧
    (nipCloseCommand s).tr = s.tr ∧ (nipCloseCommand s).re = s.re ∧ (nipCloseCommand s).ps = s.ps ∧
    (nipCloseCommand s).bt.splices = s.bt.splices ∧ (nipCloseCommand s).bt.tallies = s.bt.tallies ∧
    (nipCloseCommand s).bt.pos = s.bt.pos ∧ (nipCloseCommand s).bt.nextNumber = s.bt.nextNumber ∧
    (nipCloseCommand s).bt.overflow = s.bt.overflow ∧ (nipCloseCommand s).bt.retiring = s.bt.retiring ∧
    (nipCloseCommand s).hc = s.hc ∧ (nipCloseCommand s).dc.line = s.dc.line ∧ (nipCloseCommand s).dc.ref = s.dc.ref ∧
    (nipCloseCommand s).dc.silence = s.dc.silence ∧ (nipCloseCommand s).dc.stopKind = s.dc.stopKind ∧
    (nipCloseCommand s).dc.setpoint = s.dc.setpoint ∧ (nipCloseCommand s).dc.accel = s.dc.accel ∧
    (nipCloseCommand s).dc.startCause = s.dc.startCause ∧ (nipCloseCommand s).mr = s.mr ∧ (nipCloseCommand s).cv = s.cv ∧
    (nipCloseCommand s).now = s.now ∧ (nipCloseCommand s).freeCount = s.freeCount ∧ (nipCloseCommand s).out = s.out ∧
    (nipCloseCommand s).pending = s.pending := by
  unfold nipCloseCommand
  (try dsimp only)
  (repeat' split) <;> simp

@[simp] theorem zeroLoops_frame (s : State) :
    (zeroLoops s).pins = s.pins ∧ (zeroLoops s).cfg = s.cfg ∧ (zeroLoops s).smp = s.smp ∧ (zeroLoops s).tr = s.tr ∧
    (zeroLoops s).re = s.re ∧ (zeroLoops s).ps = s.ps ∧ (zeroLoops s).bt = s.bt ∧ (zeroLoops s).hc = s.hc ∧
    (zeroLoops s).dc.line = s.dc.line ∧ (zeroLoops s).dc.nip = s.dc.nip ∧ (zeroLoops s).dc.valve = s.dc.valve ∧
    (zeroLoops s).dc.ref = s.dc.ref ∧ (zeroLoops s).dc.silence = s.dc.silence ∧
    (zeroLoops s).dc.stopKind = s.dc.stopKind ∧ (zeroLoops s).dc.setpoint = s.dc.setpoint ∧
    (zeroLoops s).dc.accel = s.dc.accel ∧ (zeroLoops s).dc.startCause = s.dc.startCause ∧ (zeroLoops s).mr = s.mr ∧
    (zeroLoops s).cv = s.cv ∧ (zeroLoops s).now = s.now ∧ (zeroLoops s).freeCount = s.freeCount ∧
    (zeroLoops s).out = s.out ∧ (zeroLoops s).pending = s.pending := by
  unfold zeroLoops
  (try dsimp only)
  (repeat' split) <;> simp

@[simp] theorem settleStop_frame (s : State) :
    (settleStop s).pins = s.pins ∧ (settleStop s).cfg = s.cfg ∧ (settleStop s).smp.chainHead = s.smp.chainHead ∧
    (settleStop s).smp.progBase = s.smp.progBase ∧ (settleStop s).smp.noticeMask = s.smp.noticeMask ∧
    (settleStop s).smp.burstLimit = s.smp.burstLimit ∧ (settleStop s).smp.pollPeriod = s.smp.pollPeriod ∧
    (settleStop s).smp.soft = s.smp.soft ∧ (settleStop s).smp.copies = s.smp.copies ∧
    (settleStop s).tr.reader = s.tr.reader ∧ (settleStop s).tr.pos = s.tr.pos ∧ (settleStop s).tr.step = s.tr.step ∧
    (settleStop s).tr.pauseReq = s.tr.pauseReq ∧ (settleStop s).tr.haltReq = s.tr.haltReq ∧ (settleStop s).re = s.re ∧
    (settleStop s).ps = s.ps ∧ (settleStop s).bt = s.bt ∧ (settleStop s).hc = s.hc ∧ (settleStop s).dc = s.dc ∧
    (settleStop s).mr = s.mr ∧ (settleStop s).cv = s.cv ∧ (settleStop s).now = s.now ∧
    (settleStop s).freeCount = s.freeCount ∧ (settleStop s).out = s.out ∧ (settleStop s).pending = s.pending := by
  unfold settleStop
  (try dsimp only)
  (repeat' split) <;> simp

@[simp] theorem normalStop_frame (s : State) :
    (normalStop s).pins = s.pins ∧ (normalStop s).cfg = s.cfg ∧ (normalStop s).smp.chainHead = s.smp.chainHead ∧
    (normalStop s).smp.progBase = s.smp.progBase ∧ (normalStop s).smp.noticeMask = s.smp.noticeMask ∧
    (normalStop s).smp.burstLimit = s.smp.burstLimit ∧ (normalStop s).smp.pollPeriod = s.smp.pollPeriod ∧
    (normalStop s).smp.soft = s.smp.soft ∧ (normalStop s).smp.writes = s.smp.writes ∧
    (normalStop s).smp.copies = s.smp.copies ∧ (normalStop s).tr = s.tr ∧ (normalStop s).re = s.re ∧
    (normalStop s).ps = s.ps ∧ (normalStop s).bt.splices = s.bt.splices ∧ (normalStop s).bt.tallies = s.bt.tallies ∧
    (normalStop s).bt.pos = s.bt.pos ∧ (normalStop s).bt.nextNumber = s.bt.nextNumber ∧
    (normalStop s).bt.overflow = s.bt.overflow ∧ (normalStop s).bt.retiring = s.bt.retiring ∧ (normalStop s).hc = s.hc ∧
    (normalStop s).dc.ref = s.dc.ref ∧ (normalStop s).dc.silence = s.dc.silence ∧
    (normalStop s).dc.setpoint = s.dc.setpoint ∧ (normalStop s).dc.accel = s.dc.accel ∧
    (normalStop s).dc.startCause = s.dc.startCause ∧ (normalStop s).mr = s.mr ∧ (normalStop s).cv = s.cv ∧
    (normalStop s).now = s.now ∧ (normalStop s).freeCount = s.freeCount ∧ (normalStop s).out = s.out ∧
    (normalStop s).pending = s.pending := by
  unfold normalStop
  (try dsimp only)
  (repeat' split) <;> simp

@[simp] theorem drainEnd_frame (s : State) :
    (drainEnd s).pins = s.pins ∧ (drainEnd s).cfg = s.cfg ∧ (drainEnd s).smp.chainHead = s.smp.chainHead ∧
    (drainEnd s).smp.progBase = s.smp.progBase ∧ (drainEnd s).smp.noticeMask = s.smp.noticeMask ∧
    (drainEnd s).smp.burstLimit = s.smp.burstLimit ∧ (drainEnd s).smp.pollPeriod = s.smp.pollPeriod ∧
    (drainEnd s).smp.soft = s.smp.soft ∧ (drainEnd s).smp.writes = s.smp.writes ∧ (drainEnd s).smp.copies = s.smp.copies ∧
    (drainEnd s).tr = s.tr ∧ (drainEnd s).re = s.re ∧ (drainEnd s).ps = s.ps ∧ (drainEnd s).bt.splices = s.bt.splices ∧
    (drainEnd s).bt.tallies = s.bt.tallies ∧ (drainEnd s).bt.pos = s.bt.pos ∧
    (drainEnd s).bt.nextNumber = s.bt.nextNumber ∧ (drainEnd s).bt.overflow = s.bt.overflow ∧
    (drainEnd s).bt.retiring = s.bt.retiring ∧ (drainEnd s).hc = s.hc ∧ (drainEnd s).dc.ref = s.dc.ref ∧
    (drainEnd s).dc.silence = s.dc.silence ∧ (drainEnd s).dc.setpoint = s.dc.setpoint ∧
    (drainEnd s).dc.accel = s.dc.accel ∧ (drainEnd s).dc.startCause = s.dc.startCause ∧ (drainEnd s).mr = s.mr ∧
    (drainEnd s).cv = s.cv ∧ (drainEnd s).now = s.now ∧ (drainEnd s).freeCount = s.freeCount ∧ (drainEnd s).out = s.out ∧
    (drainEnd s).pending = s.pending := by
  unfold drainEnd
  (try dsimp only)
  (repeat' split) <;> simp

@[simp] theorem drainEntry_frame (s : State) :
    (drainEntry s).pins = s.pins ∧ (drainEntry s).cfg = s.cfg ∧ (drainEntry s).smp.chainHead = s.smp.chainHead ∧
    (drainEntry s).smp.progBase = s.smp.progBase ∧ (drainEntry s).smp.noticeMask = s.smp.noticeMask ∧
    (drainEntry s).smp.burstLimit = s.smp.burstLimit ∧ (drainEntry s).smp.pollPeriod = s.smp.pollPeriod ∧
    (drainEntry s).smp.soft = s.smp.soft ∧ (drainEntry s).smp.copies = s.smp.copies ∧ (drainEntry s).tr.pos = s.tr.pos ∧
    (drainEntry s).tr.step = s.tr.step ∧ (drainEntry s).tr.pauseReq = s.tr.pauseReq ∧
    (drainEntry s).re.printEnd = s.re.printEnd ∧ (drainEntry s).re.lastStarted = s.re.lastStarted ∧
    (drainEntry s).re.serial = s.re.serial ∧ (drainEntry s).re.lowWater = s.re.lowWater ∧
    (drainEntry s).re.underruns = s.re.underruns ∧ (drainEntry s).re.gaps = s.re.gaps ∧ (drainEntry s).ps = s.ps ∧
    (drainEntry s).bt.track = s.bt.track ∧ (drainEntry s).bt.splices = s.bt.splices ∧ (drainEntry s).bt.pos = s.bt.pos ∧
    (drainEntry s).bt.nextNumber = s.bt.nextNumber ∧ (drainEntry s).bt.overflow = s.bt.overflow ∧
    (drainEntry s).bt.retiring = s.bt.retiring ∧ (drainEntry s).hc = s.hc ∧ (drainEntry s).dc = s.dc ∧
    (drainEntry s).mr.ccur = s.mr.ccur ∧ (drainEntry s).mr.lock = s.mr.lock ∧ (drainEntry s).mr.strays = s.mr.strays ∧
    (drainEntry s).mr.lastRead = s.mr.lastRead ∧ (drainEntry s).mr.found = s.mr.found ∧
    (drainEntry s).mr.miss = s.mr.miss ∧ (drainEntry s).cv = s.cv ∧ (drainEntry s).now = s.now ∧
    (drainEntry s).freeCount = s.freeCount ∧ (drainEntry s).out = s.out ∧ (drainEntry s).pending = s.pending := by
  unfold drainEntry
  (try dsimp only)
  (repeat' split) <;> simp

@[simp] theorem stopRequest_frame (s : State) :
    (stopRequest s).pins = s.pins ∧ (stopRequest s).cfg = s.cfg ∧ (stopRequest s).smp.chainHead = s.smp.chainHead ∧
    (stopRequest s).smp.progBase = s.smp.progBase ∧ (stopRequest s).smp.noticeMask = s.smp.noticeMask ∧
    (stopRequest s).smp.burstLimit = s.smp.burstLimit ∧ (stopRequest s).smp.pollPeriod = s.smp.pollPeriod ∧
    (stopRequest s).smp.soft = s.smp.soft ∧ (stopRequest s).smp.copies = s.smp.copies ∧
    (stopRequest s).tr.pos = s.tr.pos ∧ (stopRequest s).tr.step = s.tr.step ∧
    (stopRequest s).tr.pauseReq = s.tr.pauseReq ∧ (stopRequest s).re.printEnd = s.re.printEnd ∧
    (stopRequest s).re.lastStarted = s.re.lastStarted ∧ (stopRequest s).re.serial = s.re.serial ∧
    (stopRequest s).re.lowWater = s.re.lowWater ∧ (stopRequest s).re.underruns = s.re.underruns ∧
    (stopRequest s).re.gaps = s.re.gaps ∧ (stopRequest s).ps = s.ps ∧ (stopRequest s).bt.splices = s.bt.splices ∧
    (stopRequest s).bt.pos = s.bt.pos ∧ (stopRequest s).bt.nextNumber = s.bt.nextNumber ∧
    (stopRequest s).bt.overflow = s.bt.overflow ∧ (stopRequest s).bt.retiring = s.bt.retiring ∧
    (stopRequest s).hc = s.hc ∧ (stopRequest s).dc.ref = s.dc.ref ∧ (stopRequest s).dc.silence = s.dc.silence ∧
    (stopRequest s).dc.setpoint = s.dc.setpoint ∧ (stopRequest s).dc.accel = s.dc.accel ∧
    (stopRequest s).dc.startCause = s.dc.startCause ∧ (stopRequest s).mr.ccur = s.mr.ccur ∧
    (stopRequest s).mr.lock = s.mr.lock ∧ (stopRequest s).mr.strays = s.mr.strays ∧
    (stopRequest s).mr.lastRead = s.mr.lastRead ∧ (stopRequest s).mr.found = s.mr.found ∧
    (stopRequest s).mr.miss = s.mr.miss ∧ (stopRequest s).cv = s.cv ∧ (stopRequest s).now = s.now ∧
    (stopRequest s).freeCount = s.freeCount ∧ (stopRequest s).out = s.out ∧ (stopRequest s).pending = s.pending := by
  unfold stopRequest
  (try dsimp only)
  (repeat' split) <;> simp

@[simp] theorem fastStop_frame (s : State) :
    (fastStop s).pins = s.pins ∧ (fastStop s).cfg = s.cfg ∧ (fastStop s).smp.chainHead = s.smp.chainHead ∧
    (fastStop s).smp.progBase = s.smp.progBase ∧ (fastStop s).smp.noticeMask = s.smp.noticeMask ∧
    (fastStop s).smp.burstLimit = s.smp.burstLimit ∧ (fastStop s).smp.pollPeriod = s.smp.pollPeriod ∧
    (fastStop s).smp.soft = s.smp.soft ∧ (fastStop s).smp.copies = s.smp.copies ∧ (fastStop s).tr.pos = s.tr.pos ∧
    (fastStop s).tr.step = s.tr.step ∧ (fastStop s).re.printEnd = s.re.printEnd ∧
    (fastStop s).re.lastStarted = s.re.lastStarted ∧ (fastStop s).re.serial = s.re.serial ∧
    (fastStop s).re.lowWater = s.re.lowWater ∧ (fastStop s).re.underruns = s.re.underruns ∧
    (fastStop s).re.gaps = s.re.gaps ∧ (fastStop s).ps = s.ps ∧ (fastStop s).bt.splices = s.bt.splices ∧
    (fastStop s).bt.pos = s.bt.pos ∧ (fastStop s).bt.nextNumber = s.bt.nextNumber ∧
    (fastStop s).bt.overflow = s.bt.overflow ∧ (fastStop s).bt.retiring = s.bt.retiring ∧ (fastStop s).hc = s.hc ∧
    (fastStop s).dc.ref = s.dc.ref ∧ (fastStop s).dc.silence = s.dc.silence ∧ (fastStop s).dc.setpoint = s.dc.setpoint ∧
    (fastStop s).dc.accel = s.dc.accel ∧ (fastStop s).dc.startCause = s.dc.startCause ∧ (fastStop s).mr.ccur = s.mr.ccur ∧
    (fastStop s).mr.lock = s.mr.lock ∧ (fastStop s).mr.strays = s.mr.strays ∧ (fastStop s).mr.lastRead = s.mr.lastRead ∧
    (fastStop s).mr.found = s.mr.found ∧ (fastStop s).mr.miss = s.mr.miss ∧ (fastStop s).cv = s.cv ∧
    (fastStop s).now = s.now ∧ (fastStop s).freeCount = s.freeCount ∧ (fastStop s).out = s.out ∧
    (fastStop s).pending = s.pending := by
  unfold fastStop
  (try dsimp only)
  (repeat' split) <;> simp

@[simp] theorem nipFault_frame (s : State) :
    (nipFault s).pins = s.pins ∧ (nipFault s).cfg = s.cfg ∧ (nipFault s).smp.chainHead = s.smp.chainHead ∧
    (nipFault s).smp.progBase = s.smp.progBase ∧ (nipFault s).smp.noticeMask = s.smp.noticeMask ∧
    (nipFault s).smp.burstLimit = s.smp.burstLimit ∧ (nipFault s).smp.pollPeriod = s.smp.pollPeriod ∧
    (nipFault s).smp.soft = s.smp.soft ∧ (nipFault s).smp.copies = s.smp.copies ∧ (nipFault s).tr.pos = s.tr.pos ∧
    (nipFault s).tr.step = s.tr.step ∧ (nipFault s).re.printEnd = s.re.printEnd ∧
    (nipFault s).re.lastStarted = s.re.lastStarted ∧ (nipFault s).re.serial = s.re.serial ∧
    (nipFault s).re.lowWater = s.re.lowWater ∧ (nipFault s).re.underruns = s.re.underruns ∧
    (nipFault s).re.gaps = s.re.gaps ∧ (nipFault s).ps = s.ps ∧ (nipFault s).bt.splices = s.bt.splices ∧
    (nipFault s).bt.pos = s.bt.pos ∧ (nipFault s).bt.nextNumber = s.bt.nextNumber ∧
    (nipFault s).bt.overflow = s.bt.overflow ∧ (nipFault s).bt.retiring = s.bt.retiring ∧ (nipFault s).hc = s.hc ∧
    (nipFault s).dc.ref = s.dc.ref ∧ (nipFault s).dc.silence = s.dc.silence ∧ (nipFault s).dc.setpoint = s.dc.setpoint ∧
    (nipFault s).dc.accel = s.dc.accel ∧ (nipFault s).dc.startCause = s.dc.startCause ∧ (nipFault s).mr.ccur = s.mr.ccur ∧
    (nipFault s).mr.lock = s.mr.lock ∧ (nipFault s).mr.strays = s.mr.strays ∧ (nipFault s).mr.lastRead = s.mr.lastRead ∧
    (nipFault s).mr.found = s.mr.found ∧ (nipFault s).mr.miss = s.mr.miss ∧ (nipFault s).cv = s.cv ∧
    (nipFault s).now = s.now ∧ (nipFault s).freeCount = s.freeCount ∧ (nipFault s).out = s.out ∧
    (nipFault s).pending = s.pending := by
  unfold nipFault
  (try dsimp only)
  (repeat' split) <;> simp

@[simp] theorem refuseStart_frame (c : StartCause) (s : State) :
    (refuseStart c s).pins = s.pins ∧ (refuseStart c s).cfg = s.cfg ∧ (refuseStart c s).smp.chainHead = s.smp.chainHead ∧
    (refuseStart c s).smp.progBase = s.smp.progBase ∧ (refuseStart c s).smp.noticeMask = s.smp.noticeMask ∧
    (refuseStart c s).smp.burstLimit = s.smp.burstLimit ∧ (refuseStart c s).smp.pollPeriod = s.smp.pollPeriod ∧
    (refuseStart c s).smp.soft = s.smp.soft ∧ (refuseStart c s).smp.writes = s.smp.writes ∧
    (refuseStart c s).smp.copies = s.smp.copies ∧ (refuseStart c s).tr = s.tr ∧ (refuseStart c s).re = s.re ∧
    (refuseStart c s).ps = s.ps ∧ (refuseStart c s).bt = s.bt ∧ (refuseStart c s).hc = s.hc ∧
    (refuseStart c s).dc.line = s.dc.line ∧ (refuseStart c s).dc.nip = s.dc.nip ∧
    (refuseStart c s).dc.valve = s.dc.valve ∧ (refuseStart c s).dc.ref = s.dc.ref ∧
    (refuseStart c s).dc.silence = s.dc.silence ∧ (refuseStart c s).dc.stopKind = s.dc.stopKind ∧
    (refuseStart c s).dc.setpoint = s.dc.setpoint ∧ (refuseStart c s).dc.accel = s.dc.accel ∧
    (refuseStart c s).mr = s.mr ∧ (refuseStart c s).cv = s.cv ∧ (refuseStart c s).now = s.now ∧
    (refuseStart c s).freeCount = s.freeCount ∧ (refuseStart c s).out = s.out ∧ (refuseStart c s).pending = s.pending := by
  unfold refuseStart
  (try dsimp only)
  (repeat' split) <;> simp

@[simp] theorem acceptStart_frame (s : State) :
    (acceptStart s).pins = s.pins ∧ (acceptStart s).cfg = s.cfg ∧ (acceptStart s).smp.chainHead = s.smp.chainHead ∧
    (acceptStart s).smp.progBase = s.smp.progBase ∧ (acceptStart s).smp.noticeMask = s.smp.noticeMask ∧
    (acceptStart s).smp.burstLimit = s.smp.burstLimit ∧ (acceptStart s).smp.pollPeriod = s.smp.pollPeriod ∧
    (acceptStart s).smp.soft = s.smp.soft ∧ (acceptStart s).smp.writes = s.smp.writes ∧
    (acceptStart s).smp.copies = s.smp.copies ∧ (acceptStart s).tr = s.tr ∧ (acceptStart s).re = s.re ∧
    (acceptStart s).ps = s.ps ∧ (acceptStart s).bt = s.bt ∧ (acceptStart s).hc = s.hc ∧
    (acceptStart s).dc.nip = s.dc.nip ∧ (acceptStart s).dc.valve = s.dc.valve ∧ (acceptStart s).dc.ref = s.dc.ref ∧
    (acceptStart s).dc.silence = s.dc.silence ∧ (acceptStart s).dc.stopKind = s.dc.stopKind ∧
    (acceptStart s).dc.setpoint = s.dc.setpoint ∧ (acceptStart s).dc.accel = s.dc.accel ∧ (acceptStart s).mr = s.mr ∧
    (acceptStart s).cv = s.cv ∧ (acceptStart s).now = s.now ∧ (acceptStart s).freeCount = s.freeCount ∧
    (acceptStart s).out = s.out ∧ (acceptStart s).pending = s.pending := by
  unfold acceptStart
  (try dsimp only)
  (repeat' split) <;> simp

@[simp] theorem autoStart_frame (s : State) :
    (autoStart s).pins = s.pins ∧ (autoStart s).cfg = s.cfg ∧ (autoStart s).smp.chainHead = s.smp.chainHead ∧
    (autoStart s).smp.progBase = s.smp.progBase ∧ (autoStart s).smp.noticeMask = s.smp.noticeMask ∧
    (autoStart s).smp.burstLimit = s.smp.burstLimit ∧ (autoStart s).smp.pollPeriod = s.smp.pollPeriod ∧
    (autoStart s).smp.soft = s.smp.soft ∧ (autoStart s).smp.copies = s.smp.copies ∧ (autoStart s).tr.pos = s.tr.pos ∧
    (autoStart s).tr.step = s.tr.step ∧ (autoStart s).tr.pauseReq = s.tr.pauseReq ∧
    (autoStart s).re.printEnd = s.re.printEnd ∧ (autoStart s).re.lastStarted = s.re.lastStarted ∧
    (autoStart s).re.serial = s.re.serial ∧ (autoStart s).re.lowWater = s.re.lowWater ∧
    (autoStart s).re.underruns = s.re.underruns ∧ (autoStart s).re.gaps = s.re.gaps ∧ (autoStart s).ps = s.ps ∧
    (autoStart s).bt.track = s.bt.track ∧ (autoStart s).bt.splices = s.bt.splices ∧ (autoStart s).bt.pos = s.bt.pos ∧
    (autoStart s).bt.nextNumber = s.bt.nextNumber ∧ (autoStart s).bt.overflow = s.bt.overflow ∧
    (autoStart s).bt.retiring = s.bt.retiring ∧ (autoStart s).hc = s.hc ∧ (autoStart s).dc.nip = s.dc.nip ∧
    (autoStart s).dc.valve = s.dc.valve ∧ (autoStart s).dc.ref = s.dc.ref ∧ (autoStart s).dc.silence = s.dc.silence ∧
    (autoStart s).dc.stopKind = s.dc.stopKind ∧ (autoStart s).dc.setpoint = s.dc.setpoint ∧
    (autoStart s).dc.accel = s.dc.accel ∧ (autoStart s).mr.ccur = s.mr.ccur ∧ (autoStart s).mr.lock = s.mr.lock ∧
    (autoStart s).mr.strays = s.mr.strays ∧ (autoStart s).mr.lastRead = s.mr.lastRead ∧
    (autoStart s).mr.found = s.mr.found ∧ (autoStart s).mr.miss = s.mr.miss ∧ (autoStart s).cv = s.cv ∧
    (autoStart s).now = s.now ∧ (autoStart s).freeCount = s.freeCount ∧ (autoStart s).out = s.out ∧
    (autoStart s).pending = s.pending := by
  unfold autoStart
  (try dsimp only)
  (repeat' split) <;> simp

@[simp] theorem enterStopped_frame (s : State) :
    (enterStopped s).pins = s.pins ∧ (enterStopped s).cfg = s.cfg ∧ (enterStopped s).smp.chainHead = s.smp.chainHead ∧
    (enterStopped s).smp.progBase = s.smp.progBase ∧ (enterStopped s).smp.noticeMask = s.smp.noticeMask ∧
    (enterStopped s).smp.burstLimit = s.smp.burstLimit ∧ (enterStopped s).smp.pollPeriod = s.smp.pollPeriod ∧
    (enterStopped s).smp.soft = s.smp.soft ∧ (enterStopped s).smp.copies = s.smp.copies ∧
    (enterStopped s).tr.pos = s.tr.pos ∧ (enterStopped s).tr.step = s.tr.step ∧
    (enterStopped s).tr.pauseReq = s.tr.pauseReq ∧ (enterStopped s).re.printEnd = s.re.printEnd ∧
    (enterStopped s).re.lastStarted = s.re.lastStarted ∧ (enterStopped s).re.serial = s.re.serial ∧
    (enterStopped s).re.lowWater = s.re.lowWater ∧ (enterStopped s).re.underruns = s.re.underruns ∧
    (enterStopped s).re.gaps = s.re.gaps ∧ (enterStopped s).ps = s.ps ∧ (enterStopped s).bt.track = s.bt.track ∧
    (enterStopped s).bt.splices = s.bt.splices ∧ (enterStopped s).bt.pos = s.bt.pos ∧
    (enterStopped s).bt.nextNumber = s.bt.nextNumber ∧ (enterStopped s).bt.overflow = s.bt.overflow ∧
    (enterStopped s).bt.retiring = s.bt.retiring ∧ (enterStopped s).hc = s.hc ∧ (enterStopped s).dc.nip = s.dc.nip ∧
    (enterStopped s).dc.valve = s.dc.valve ∧ (enterStopped s).dc.ref = s.dc.ref ∧
    (enterStopped s).dc.silence = s.dc.silence ∧ (enterStopped s).dc.stopKind = s.dc.stopKind ∧
    (enterStopped s).dc.setpoint = s.dc.setpoint ∧ (enterStopped s).dc.accel = s.dc.accel ∧
    (enterStopped s).mr.ccur = s.mr.ccur ∧ (enterStopped s).mr.lock = s.mr.lock ∧
    (enterStopped s).mr.strays = s.mr.strays ∧ (enterStopped s).mr.lastRead = s.mr.lastRead ∧
    (enterStopped s).mr.found = s.mr.found ∧ (enterStopped s).mr.miss = s.mr.miss ∧ (enterStopped s).cv = s.cv ∧
    (enterStopped s).now = s.now ∧ (enterStopped s).freeCount = s.freeCount ∧ (enterStopped s).out = s.out ∧
    (enterStopped s).pending = s.pending := by
  unfold enterStopped
  (try dsimp only)
  (repeat' split) <;> simp

@[simp] theorem enterTripped_frame (s : State) :
    (enterTripped s).pins = s.pins ∧ (enterTripped s).cfg = s.cfg ∧ (enterTripped s).smp.chainHead = s.smp.chainHead ∧
    (enterTripped s).smp.progBase = s.smp.progBase ∧ (enterTripped s).smp.noticeMask = s.smp.noticeMask ∧
    (enterTripped s).smp.burstLimit = s.smp.burstLimit ∧ (enterTripped s).smp.pollPeriod = s.smp.pollPeriod ∧
    (enterTripped s).smp.soft = s.smp.soft ∧ (enterTripped s).smp.copies = s.smp.copies ∧
    (enterTripped s).tr.reader = s.tr.reader ∧ (enterTripped s).tr.pos = s.tr.pos ∧ (enterTripped s).tr.step = s.tr.step ∧
    (enterTripped s).tr.pauseReq = s.tr.pauseReq ∧ (enterTripped s).tr.haltReq = s.tr.haltReq ∧
    (enterTripped s).re = s.re ∧ (enterTripped s).ps = s.ps ∧ (enterTripped s).bt = s.bt ∧ (enterTripped s).hc = s.hc ∧
    (enterTripped s).dc.nip = s.dc.nip ∧ (enterTripped s).dc.valve = s.dc.valve ∧ (enterTripped s).dc.ref = s.dc.ref ∧
    (enterTripped s).dc.silence = s.dc.silence ∧ (enterTripped s).dc.stopKind = s.dc.stopKind ∧
    (enterTripped s).dc.setpoint = s.dc.setpoint ∧ (enterTripped s).dc.accel = s.dc.accel ∧
    (enterTripped s).dc.startCause = s.dc.startCause ∧ (enterTripped s).mr = s.mr ∧ (enterTripped s).cv = s.cv ∧
    (enterTripped s).now = s.now ∧ (enterTripped s).freeCount = s.freeCount ∧ (enterTripped s).out = s.out ∧
    (enterTripped s).pending = s.pending := by
  unfold enterTripped
  (try dsimp only)
  (repeat' split) <;> simp

@[simp] theorem chainLook_frame (s : State) :
    (chainLook s).pins = s.pins ∧ (chainLook s).cfg = s.cfg ∧ (chainLook s).smp.chainHead = s.smp.chainHead ∧
    (chainLook s).smp.progBase = s.smp.progBase ∧ (chainLook s).smp.noticeMask = s.smp.noticeMask ∧
    (chainLook s).smp.burstLimit = s.smp.burstLimit ∧ (chainLook s).smp.pollPeriod = s.smp.pollPeriod ∧
    (chainLook s).smp.soft = s.smp.soft ∧ (chainLook s).smp.copies = s.smp.copies ∧ (chainLook s).tr.pos = s.tr.pos ∧
    (chainLook s).tr.step = s.tr.step ∧ (chainLook s).tr.pauseReq = s.tr.pauseReq ∧
    (chainLook s).re.printEnd = s.re.printEnd ∧ (chainLook s).re.lastStarted = s.re.lastStarted ∧
    (chainLook s).re.serial = s.re.serial ∧ (chainLook s).re.lowWater = s.re.lowWater ∧
    (chainLook s).re.underruns = s.re.underruns ∧ (chainLook s).re.gaps = s.re.gaps ∧ (chainLook s).ps = s.ps ∧
    (chainLook s).bt.track = s.bt.track ∧ (chainLook s).bt.splices = s.bt.splices ∧ (chainLook s).bt.pos = s.bt.pos ∧
    (chainLook s).bt.nextNumber = s.bt.nextNumber ∧ (chainLook s).bt.overflow = s.bt.overflow ∧
    (chainLook s).bt.retiring = s.bt.retiring ∧ (chainLook s).hc = s.hc ∧ (chainLook s).dc.nip = s.dc.nip ∧
    (chainLook s).dc.valve = s.dc.valve ∧ (chainLook s).dc.ref = s.dc.ref ∧ (chainLook s).dc.silence = s.dc.silence ∧
    (chainLook s).dc.stopKind = s.dc.stopKind ∧ (chainLook s).dc.setpoint = s.dc.setpoint ∧
    (chainLook s).dc.accel = s.dc.accel ∧ (chainLook s).mr.ccur = s.mr.ccur ∧ (chainLook s).mr.lock = s.mr.lock ∧
    (chainLook s).mr.strays = s.mr.strays ∧ (chainLook s).mr.lastRead = s.mr.lastRead ∧
    (chainLook s).mr.found = s.mr.found ∧ (chainLook s).mr.miss = s.mr.miss ∧ (chainLook s).cv = s.cv ∧
    (chainLook s).now = s.now ∧ (chainLook s).freeCount = s.freeCount ∧ (chainLook s).out = s.out ∧
    (chainLook s).pending = s.pending := by
  unfold chainLook
  (try dsimp only)
  (repeat' split) <;> simp

@[simp] theorem bandBoundary_frame (s : State) :
    (bandBoundary s).pins = s.pins ∧ (bandBoundary s).cfg = s.cfg ∧ (bandBoundary s).smp.chainHead = s.smp.chainHead ∧
    (bandBoundary s).smp.progBase = s.smp.progBase ∧ (bandBoundary s).smp.noticeMask = s.smp.noticeMask ∧
    (bandBoundary s).smp.burstLimit = s.smp.burstLimit ∧ (bandBoundary s).smp.pollPeriod = s.smp.pollPeriod ∧
    (bandBoundary s).smp.soft = s.smp.soft ∧ (bandBoundary s).smp.copies = s.smp.copies ∧
    (bandBoundary s).tr.pos = s.tr.pos ∧ (bandBoundary s).tr.step = s.tr.step ∧
    (bandBoundary s).tr.pauseReq = s.tr.pauseReq ∧ (bandBoundary s).re.printEnd = s.re.printEnd ∧
    (bandBoundary s).re.lastStarted = s.re.lastStarted ∧ (bandBoundary s).re.serial = s.re.serial ∧
    (bandBoundary s).re.lowWater = s.re.lowWater ∧ (bandBoundary s).re.underruns = s.re.underruns ∧
    (bandBoundary s).re.gaps = s.re.gaps ∧ (bandBoundary s).ps = s.ps ∧ (bandBoundary s).bt.track = s.bt.track ∧
    (bandBoundary s).bt.splices = s.bt.splices ∧ (bandBoundary s).bt.pos = s.bt.pos ∧
    (bandBoundary s).bt.nextNumber = s.bt.nextNumber ∧ (bandBoundary s).bt.overflow = s.bt.overflow ∧
    (bandBoundary s).bt.retiring = s.bt.retiring ∧ (bandBoundary s).hc = s.hc ∧ (bandBoundary s).dc.nip = s.dc.nip ∧
    (bandBoundary s).dc.valve = s.dc.valve ∧ (bandBoundary s).dc.ref = s.dc.ref ∧
    (bandBoundary s).dc.silence = s.dc.silence ∧ (bandBoundary s).dc.stopKind = s.dc.stopKind ∧
    (bandBoundary s).dc.setpoint = s.dc.setpoint ∧ (bandBoundary s).dc.accel = s.dc.accel ∧
    (bandBoundary s).mr.ccur = s.mr.ccur ∧ (bandBoundary s).mr.lock = s.mr.lock ∧
    (bandBoundary s).mr.strays = s.mr.strays ∧ (bandBoundary s).mr.lastRead = s.mr.lastRead ∧
    (bandBoundary s).mr.found = s.mr.found ∧ (bandBoundary s).mr.miss = s.mr.miss ∧ (bandBoundary s).cv = s.cv ∧
    (bandBoundary s).now = s.now ∧ (bandBoundary s).freeCount = s.freeCount ∧ (bandBoundary s).out = s.out ∧
    (bandBoundary s).pending = s.pending := by
  unfold bandBoundary
  (try dsimp only)
  (repeat' split) <;> simp

@[simp] theorem fetchOne_frame (s : State) :
    (fetchOne s).pins = s.pins ∧ (fetchOne s).cfg = s.cfg ∧ (fetchOne s).smp = s.smp ∧ (fetchOne s).tr = s.tr ∧
    (fetchOne s).re.raster = s.re.raster ∧ (fetchOne s).re.seg = s.re.seg ∧ (fetchOne s).re.band = s.re.band ∧
    (fetchOne s).re.ending = s.re.ending ∧ (fetchOne s).re.printEnd = s.re.printEnd ∧
    (fetchOne s).re.lastStarted = s.re.lastStarted ∧ (fetchOne s).re.serial = s.re.serial ∧
    (fetchOne s).re.lowWater = s.re.lowWater ∧ (fetchOne s).re.underruns = s.re.underruns ∧
    (fetchOne s).re.gaps = s.re.gaps ∧ (fetchOne s).ps = s.ps ∧ (fetchOne s).bt = s.bt ∧ (fetchOne s).hc = s.hc ∧
    (fetchOne s).dc = s.dc ∧ (fetchOne s).mr = s.mr ∧ (fetchOne s).cv = s.cv ∧ (fetchOne s).now = s.now ∧
    (fetchOne s).freeCount = s.freeCount ∧ (fetchOne s).out = s.out ∧ (fetchOne s).pending = s.pending := by
  unfold fetchOne
  (try dsimp only)
  (repeat' split) <;> simp

@[simp] theorem fetchRun_frame (s : State) :
    (fetchRun s).pins = s.pins ∧ (fetchRun s).cfg = s.cfg ∧ (fetchRun s).smp = s.smp ∧ (fetchRun s).tr = s.tr ∧
    (fetchRun s).re.raster = s.re.raster ∧ (fetchRun s).re.seg = s.re.seg ∧ (fetchRun s).re.band = s.re.band ∧
    (fetchRun s).re.ending = s.re.ending ∧ (fetchRun s).re.printEnd = s.re.printEnd ∧
    (fetchRun s).re.lastStarted = s.re.lastStarted ∧ (fetchRun s).re.serial = s.re.serial ∧
    (fetchRun s).re.lowWater = s.re.lowWater ∧ (fetchRun s).re.underruns = s.re.underruns ∧
    (fetchRun s).re.gaps = s.re.gaps ∧ (fetchRun s).ps = s.ps ∧ (fetchRun s).bt = s.bt ∧ (fetchRun s).hc = s.hc ∧
    (fetchRun s).dc = s.dc ∧ (fetchRun s).mr = s.mr ∧ (fetchRun s).cv = s.cv ∧ (fetchRun s).now = s.now ∧
    (fetchRun s).freeCount = s.freeCount ∧ (fetchRun s).out = s.out ∧ (fetchRun s).pending = s.pending := by
  exact ⟨times_keeps fetchOne (fun t => t.pins) (fun t => by simp) _ s,
    times_keeps fetchOne (fun t => t.cfg) (fun t => by simp) _ s,
    times_keeps fetchOne (fun t => t.smp) (fun t => by simp) _ s,
    times_keeps fetchOne (fun t => t.tr) (fun t => by simp) _ s,
    times_keeps fetchOne (fun t => t.re.raster) (fun t => by simp) _ s,
    times_keeps fetchOne (fun t => t.re.seg) (fun t => by simp) _ s,
    times_keeps fetchOne (fun t => t.re.band) (fun t => by simp) _ s,
    times_keeps fetchOne (fun t => t.re.ending) (fun t => by simp) _ s,
    times_keeps fetchOne (fun t => t.re.printEnd) (fun t => by simp) _ s,
    times_keeps fetchOne (fun t => t.re.lastStarted) (fun t => by simp) _ s,
    times_keeps fetchOne (fun t => t.re.serial) (fun t => by simp) _ s,
    times_keeps fetchOne (fun t => t.re.lowWater) (fun t => by simp) _ s,
    times_keeps fetchOne (fun t => t.re.underruns) (fun t => by simp) _ s,
    times_keeps fetchOne (fun t => t.re.gaps) (fun t => by simp) _ s,
    times_keeps fetchOne (fun t => t.ps) (fun t => by simp) _ s,
    times_keeps fetchOne (fun t => t.bt) (fun t => by simp) _ s,
    times_keeps fetchOne (fun t => t.hc) (fun t => by simp) _ s,
    times_keeps fetchOne (fun t => t.dc) (fun t => by simp) _ s,
    times_keeps fetchOne (fun t => t.mr) (fun t => by simp) _ s,
    times_keeps fetchOne (fun t => t.cv) (fun t => by simp) _ s,
    times_keeps fetchOne (fun t => t.now) (fun t => by simp) _ s,
    times_keeps fetchOne (fun t => t.freeCount) (fun t => by simp) _ s,
    times_keeps fetchOne (fun t => t.out) (fun t => by simp) _ s,
    times_keeps fetchOne (fun t => t.pending) (fun t => by simp) _ s⟩

@[simp] theorem sendRow_frame (levels : List (Ink Nat)) (mark : Option Nat) (s : State) :
    (sendRow levels mark s).pins = s.pins ∧ (sendRow levels mark s).cfg = s.cfg ∧ (sendRow levels mark s).smp = s.smp ∧
    (sendRow levels mark s).tr = s.tr ∧ (sendRow levels mark s).re = s.re ∧ (sendRow levels mark s).ps = s.ps ∧
    (sendRow levels mark s).bt = s.bt ∧ (sendRow levels mark s).hc = s.hc ∧ (sendRow levels mark s).dc = s.dc ∧
    (sendRow levels mark s).mr = s.mr ∧ (sendRow levels mark s).cv = s.cv ∧ (sendRow levels mark s).now = s.now ∧
    (sendRow levels mark s).freeCount = s.freeCount ∧ (sendRow levels mark s).pending = s.pending := by
  unfold sendRow
  (try dsimp only)
  (repeat' split) <;> simp

@[simp] theorem consumeRow_frame (s : State) :
    (consumeRow s).pins = s.pins ∧ (consumeRow s).cfg = s.cfg ∧ (consumeRow s).smp = s.smp ∧ (consumeRow s).tr = s.tr ∧
    (consumeRow s).re.raster = s.re.raster ∧ (consumeRow s).re.seg = s.re.seg ∧ (consumeRow s).re.band = s.re.band ∧
    (consumeRow s).re.ending = s.re.ending ∧ (consumeRow s).re.printEnd = s.re.printEnd ∧
    (consumeRow s).re.lastStarted = s.re.lastStarted ∧ (consumeRow s).re.serial = s.re.serial ∧
    (consumeRow s).re.lowWater = s.re.lowWater ∧ (consumeRow s).re.underruns = s.re.underruns ∧
    (consumeRow s).re.gaps = s.re.gaps ∧ (consumeRow s).ps = s.ps ∧ (consumeRow s).bt = s.bt ∧ (consumeRow s).hc = s.hc ∧
    (consumeRow s).dc = s.dc ∧ (consumeRow s).mr = s.mr ∧ (consumeRow s).cv = s.cv ∧ (consumeRow s).now = s.now ∧
    (consumeRow s).freeCount = s.freeCount ∧ (consumeRow s).out = s.out ∧ (consumeRow s).pending = s.pending := by
  unfold consumeRow
  (try dsimp only)
  (repeat' split) <;> simp

@[simp] theorem underrun_frame (c : BandContext) (s : State) :
    (underrun c s).pins = s.pins ∧ (underrun c s).cfg = s.cfg ∧ (underrun c s).smp.chainHead = s.smp.chainHead ∧
    (underrun c s).smp.progBase = s.smp.progBase ∧ (underrun c s).smp.noticeMask = s.smp.noticeMask ∧
    (underrun c s).smp.burstLimit = s.smp.burstLimit ∧ (underrun c s).smp.pollPeriod = s.smp.pollPeriod ∧
    (underrun c s).smp.soft = s.smp.soft ∧ (underrun c s).smp.writes = s.smp.writes ∧
    (underrun c s).smp.copies = s.smp.copies ∧ (underrun c s).tr = s.tr ∧ (underrun c s).re.raster = s.re.raster ∧
    (underrun c s).re.seg = s.re.seg ∧ (underrun c s).re.ending = s.re.ending ∧
    (underrun c s).re.printEnd = s.re.printEnd ∧ (underrun c s).re.lastStarted = s.re.lastStarted ∧
    (underrun c s).re.serial = s.re.serial ∧ (underrun c s).re.lowWater = s.re.lowWater ∧
    (underrun c s).re.gaps = s.re.gaps ∧ (underrun c s).ps = s.ps ∧ (underrun c s).bt.splices = s.bt.splices ∧
    (underrun c s).bt.tallies = s.bt.tallies ∧ (underrun c s).bt.pos = s.bt.pos ∧
    (underrun c s).bt.nextNumber = s.bt.nextNumber ∧ (underrun c s).bt.overflow = s.bt.overflow ∧
    (underrun c s).bt.retiring = s.bt.retiring ∧ (underrun c s).hc = s.hc ∧ (underrun c s).dc = s.dc ∧
    (underrun c s).mr = s.mr ∧ (underrun c s).cv = s.cv ∧ (underrun c s).now = s.now ∧
    (underrun c s).freeCount = s.freeCount ∧ (underrun c s).out = s.out ∧ (underrun c s).pending = s.pending := by
  unfold underrun
  (try dsimp only)
  (repeat' split) <;> simp

@[simp] theorem countLowWater_frame (s : State) :
    (countLowWater s).pins = s.pins ∧ (countLowWater s).cfg = s.cfg ∧ (countLowWater s).smp = s.smp ∧
    (countLowWater s).tr = s.tr ∧ (countLowWater s).re.slots = s.re.slots ∧ (countLowWater s).re.raster = s.re.raster ∧
    (countLowWater s).re.seg = s.re.seg ∧ (countLowWater s).re.band = s.re.band ∧
    (countLowWater s).re.ending = s.re.ending ∧ (countLowWater s).re.printEnd = s.re.printEnd ∧
    (countLowWater s).re.lastStarted = s.re.lastStarted ∧ (countLowWater s).re.serial = s.re.serial ∧
    (countLowWater s).re.underruns = s.re.underruns ∧ (countLowWater s).re.gaps = s.re.gaps ∧
    (countLowWater s).ps = s.ps ∧ (countLowWater s).bt = s.bt ∧ (countLowWater s).hc = s.hc ∧
    (countLowWater s).dc = s.dc ∧ (countLowWater s).mr = s.mr ∧ (countLowWater s).cv = s.cv ∧
    (countLowWater s).now = s.now ∧ (countLowWater s).freeCount = s.freeCount ∧ (countLowWater s).out = s.out ∧
    (countLowWater s).pending = s.pending := by
  unfold countLowWater
  (try dsimp only)
  (repeat' split) <;> simp

@[simp] theorem fireRow_frame (g : Segment) (c : BandContext) (x : RowSlot) (s : State) :
    (fireRow g c x s).pins = s.pins ∧ (fireRow g c x s).cfg = s.cfg ∧ (fireRow g c x s).smp = s.smp ∧
    (fireRow g c x s).tr = s.tr ∧ (fireRow g c x s).re.raster = s.re.raster ∧ (fireRow g c x s).re.seg = s.re.seg ∧
    (fireRow g c x s).re.band = s.re.band ∧ (fireRow g c x s).re.ending = s.re.ending ∧
    (fireRow g c x s).re.printEnd = s.re.printEnd ∧ (fireRow g c x s).re.lastStarted = s.re.lastStarted ∧
    (fireRow g c x s).re.serial = s.re.serial ∧ (fireRow g c x s).re.underruns = s.re.underruns ∧
    (fireRow g c x s).re.gaps = s.re.gaps ∧ (fireRow g c x s).ps = s.ps ∧ (fireRow g c x s).bt.splices = s.bt.splices ∧
    (fireRow g c x s).bt.tallies = s.bt.tallies ∧ (fireRow g c x s).bt.pos = s.bt.pos ∧
    (fireRow g c x s).bt.nextNumber = s.bt.nextNumber ∧ (fireRow g c x s).bt.overflow = s.bt.overflow ∧
    (fireRow g c x s).bt.retiring = s.bt.retiring ∧ (fireRow g c x s).hc = s.hc ∧ (fireRow g c x s).dc = s.dc ∧
    (fireRow g c x s).mr = s.mr ∧ (fireRow g c x s).cv = s.cv ∧ (fireRow g c x s).now = s.now ∧
    (fireRow g c x s).freeCount = s.freeCount ∧ (fireRow g c x s).pending = s.pending := by
  unfold fireRow
  (try dsimp only)
  (repeat' split) <;> simp

@[simp] theorem rowOutcome_frame (g : Segment) (c : BandContext) (s : State) :
    (rowOutcome g c s).pins = s.pins ∧ (rowOutcome g c s).cfg = s.cfg ∧
    (rowOutcome g c s).smp.chainHead = s.smp.chainHead ∧ (rowOutcome g c s).smp.progBase = s.smp.progBase ∧
    (rowOutcome g c s).smp.noticeMask = s.smp.noticeMask ∧ (rowOutcome g c s).smp.burstLimit = s.smp.burstLimit ∧
    (rowOutcome g c s).smp.pollPeriod = s.smp.pollPeriod ∧ (rowOutcome g c s).smp.soft = s.smp.soft ∧
    (rowOutcome g c s).smp.writes = s.smp.writes ∧ (rowOutcome g c s).smp.copies = s.smp.copies ∧
    (rowOutcome g c s).tr = s.tr ∧ (rowOutcome g c s).re.raster = s.re.raster ∧ (rowOutcome g c s).re.seg = s.re.seg ∧
    (rowOutcome g c s).re.ending = s.re.ending ∧ (rowOutcome g c s).re.printEnd = s.re.printEnd ∧
    (rowOutcome g c s).re.lastStarted = s.re.lastStarted ∧ (rowOutcome g c s).re.serial = s.re.serial ∧
    (rowOutcome g c s).re.gaps = s.re.gaps ∧ (rowOutcome g c s).ps = s.ps ∧ (rowOutcome g c s).bt.splices = s.bt.splices ∧
    (rowOutcome g c s).bt.tallies = s.bt.tallies ∧ (rowOutcome g c s).bt.pos = s.bt.pos ∧
    (rowOutcome g c s).bt.nextNumber = s.bt.nextNumber ∧ (rowOutcome g c s).bt.overflow = s.bt.overflow ∧
    (rowOutcome g c s).bt.retiring = s.bt.retiring ∧ (rowOutcome g c s).hc = s.hc ∧ (rowOutcome g c s).dc = s.dc ∧
    (rowOutcome g c s).mr = s.mr ∧ (rowOutcome g c s).cv = s.cv ∧ (rowOutcome g c s).now = s.now ∧
    (rowOutcome g c s).freeCount = s.freeCount ∧ (rowOutcome g c s).pending = s.pending := by
  unfold rowOutcome
  (try dsimp only)
  (repeat' split) <;> simp

@[simp] theorem bandEnd_frame (g : Segment) (c : BandContext) (s : State) :
    (bandEnd g c s).pins = s.pins ∧ (bandEnd g c s).cfg = s.cfg ∧ (bandEnd g c s).smp.chainHead = s.smp.chainHead ∧
    (bandEnd g c s).smp.progBase = s.smp.progBase ∧ (bandEnd g c s).smp.noticeMask = s.smp.noticeMask ∧
    (bandEnd g c s).smp.burstLimit = s.smp.burstLimit ∧ (bandEnd g c s).smp.pollPeriod = s.smp.pollPeriod ∧
    (bandEnd g c s).smp.soft = s.smp.soft ∧ (bandEnd g c s).smp.copies = s.smp.copies ∧
    (bandEnd g c s).tr.pos = s.tr.pos ∧ (bandEnd g c s).tr.step = s.tr.step ∧
    (bandEnd g c s).tr.pauseReq = s.tr.pauseReq ∧ (bandEnd g c s).re.printEnd = s.re.printEnd ∧
    (bandEnd g c s).re.lastStarted = s.re.lastStarted ∧ (bandEnd g c s).re.serial = s.re.serial ∧
    (bandEnd g c s).re.lowWater = s.re.lowWater ∧ (bandEnd g c s).re.underruns = s.re.underruns ∧
    (bandEnd g c s).re.gaps = s.re.gaps ∧ (bandEnd g c s).ps = s.ps ∧ (bandEnd g c s).bt.splices = s.bt.splices ∧
    (bandEnd g c s).bt.pos = s.bt.pos ∧ (bandEnd g c s).bt.nextNumber = s.bt.nextNumber ∧
    (bandEnd g c s).bt.overflow = s.bt.overflow ∧ (bandEnd g c s).bt.retiring = s.bt.retiring ∧
    (bandEnd g c s).hc = s.hc ∧ (bandEnd g c s).dc.nip = s.dc.nip ∧ (bandEnd g c s).dc.valve = s.dc.valve ∧
    (bandEnd g c s).dc.ref = s.dc.ref ∧ (bandEnd g c s).dc.silence = s.dc.silence ∧
    (bandEnd g c s).dc.stopKind = s.dc.stopKind ∧ (bandEnd g c s).dc.setpoint = s.dc.setpoint ∧
    (bandEnd g c s).dc.accel = s.dc.accel ∧ (bandEnd g c s).mr.ccur = s.mr.ccur ∧ (bandEnd g c s).mr.lock = s.mr.lock ∧
    (bandEnd g c s).mr.strays = s.mr.strays ∧ (bandEnd g c s).mr.lastRead = s.mr.lastRead ∧
    (bandEnd g c s).mr.found = s.mr.found ∧ (bandEnd g c s).mr.miss = s.mr.miss ∧ (bandEnd g c s).cv = s.cv ∧
    (bandEnd g c s).now = s.now ∧ (bandEnd g c s).freeCount = s.freeCount ∧ (bandEnd g c s).out = s.out ∧
    (bandEnd g c s).pending = s.pending := by
  unfold bandEnd
  (try dsimp only)
  (repeat' split) <;> simp

@[simp] theorem rowEvent_frame (s : State) :
    (rowEvent s).pins = s.pins ∧ (rowEvent s).cfg = s.cfg ∧ (rowEvent s).smp.chainHead = s.smp.chainHead ∧
    (rowEvent s).smp.progBase = s.smp.progBase ∧ (rowEvent s).smp.noticeMask = s.smp.noticeMask ∧
    (rowEvent s).smp.burstLimit = s.smp.burstLimit ∧ (rowEvent s).smp.pollPeriod = s.smp.pollPeriod ∧
    (rowEvent s).smp.soft = s.smp.soft ∧ (rowEvent s).smp.copies = s.smp.copies ∧ (rowEvent s).tr.pos = s.tr.pos ∧
    (rowEvent s).tr.step = s.tr.step ∧ (rowEvent s).tr.pauseReq = s.tr.pauseReq ∧
    (rowEvent s).re.printEnd = s.re.printEnd ∧ (rowEvent s).re.lastStarted = s.re.lastStarted ∧
    (rowEvent s).re.serial = s.re.serial ∧ (rowEvent s).re.gaps = s.re.gaps ∧ (rowEvent s).ps = s.ps ∧
    (rowEvent s).bt.splices = s.bt.splices ∧ (rowEvent s).bt.pos = s.bt.pos ∧
    (rowEvent s).bt.nextNumber = s.bt.nextNumber ∧ (rowEvent s).bt.overflow = s.bt.overflow ∧
    (rowEvent s).bt.retiring = s.bt.retiring ∧ (rowEvent s).hc = s.hc ∧ (rowEvent s).dc.nip = s.dc.nip ∧
    (rowEvent s).dc.valve = s.dc.valve ∧ (rowEvent s).dc.ref = s.dc.ref ∧ (rowEvent s).dc.silence = s.dc.silence ∧
    (rowEvent s).dc.stopKind = s.dc.stopKind ∧ (rowEvent s).dc.setpoint = s.dc.setpoint ∧
    (rowEvent s).dc.accel = s.dc.accel ∧ (rowEvent s).mr.ccur = s.mr.ccur ∧ (rowEvent s).mr.lock = s.mr.lock ∧
    (rowEvent s).mr.strays = s.mr.strays ∧ (rowEvent s).mr.lastRead = s.mr.lastRead ∧ (rowEvent s).mr.found = s.mr.found ∧
    (rowEvent s).mr.miss = s.mr.miss ∧ (rowEvent s).cv = s.cv ∧ (rowEvent s).now = s.now ∧
    (rowEvent s).freeCount = s.freeCount ∧ (rowEvent s).pending = s.pending := by
  unfold rowEvent
  (try dsimp only)
  (repeat' split) <;> simp

@[simp] theorem rowEvents_frame (s : State) :
    (rowEvents s).pins = s.pins ∧ (rowEvents s).cfg = s.cfg ∧ (rowEvents s).smp.chainHead = s.smp.chainHead ∧
    (rowEvents s).smp.progBase = s.smp.progBase ∧ (rowEvents s).smp.noticeMask = s.smp.noticeMask ∧
    (rowEvents s).smp.burstLimit = s.smp.burstLimit ∧ (rowEvents s).smp.pollPeriod = s.smp.pollPeriod ∧
    (rowEvents s).smp.soft = s.smp.soft ∧ (rowEvents s).smp.copies = s.smp.copies ∧ (rowEvents s).tr.pos = s.tr.pos ∧
    (rowEvents s).tr.step = s.tr.step ∧ (rowEvents s).tr.pauseReq = s.tr.pauseReq ∧
    (rowEvents s).re.printEnd = s.re.printEnd ∧ (rowEvents s).re.lastStarted = s.re.lastStarted ∧
    (rowEvents s).re.serial = s.re.serial ∧ (rowEvents s).re.gaps = s.re.gaps ∧ (rowEvents s).ps = s.ps ∧
    (rowEvents s).bt.splices = s.bt.splices ∧ (rowEvents s).bt.pos = s.bt.pos ∧
    (rowEvents s).bt.nextNumber = s.bt.nextNumber ∧ (rowEvents s).bt.overflow = s.bt.overflow ∧
    (rowEvents s).bt.retiring = s.bt.retiring ∧ (rowEvents s).hc = s.hc ∧ (rowEvents s).dc.nip = s.dc.nip ∧
    (rowEvents s).dc.valve = s.dc.valve ∧ (rowEvents s).dc.ref = s.dc.ref ∧ (rowEvents s).dc.silence = s.dc.silence ∧
    (rowEvents s).dc.stopKind = s.dc.stopKind ∧ (rowEvents s).dc.setpoint = s.dc.setpoint ∧
    (rowEvents s).dc.accel = s.dc.accel ∧ (rowEvents s).mr.ccur = s.mr.ccur ∧ (rowEvents s).mr.lock = s.mr.lock ∧
    (rowEvents s).mr.strays = s.mr.strays ∧ (rowEvents s).mr.lastRead = s.mr.lastRead ∧
    (rowEvents s).mr.found = s.mr.found ∧ (rowEvents s).mr.miss = s.mr.miss ∧ (rowEvents s).cv = s.cv ∧
    (rowEvents s).now = s.now ∧ (rowEvents s).freeCount = s.freeCount ∧ (rowEvents s).pending = s.pending := by
  exact ⟨times_keeps rowEvent (fun t => t.pins) (fun t => by simp) _ s,
    times_keeps rowEvent (fun t => t.cfg) (fun t => by simp) _ s,
    times_keeps rowEvent (fun t => t.smp.chainHead) (fun t => by simp) _ s,
    times_keeps rowEvent (fun t => t.smp.progBase) (fun t => by simp) _ s,
    times_keeps rowEvent (fun t => t.smp.noticeMask) (fun t => by simp) _ s,
    times_keeps rowEvent (fun t => t.smp.burstLimit) (fun t => by simp) _ s,
    times_keeps rowEvent (fun t => t.smp.pollPeriod) (fun t => by simp) _ s,
    times_keeps rowEvent (fun t => t.smp.soft) (fun t => by simp) _ s,
    times_keeps rowEvent (fun t => t.smp.copies) (fun t => by simp) _ s,
    times_keeps rowEvent (fun t => t.tr.pos) (fun t => by simp) _ s,
    times_keeps rowEvent (fun t => t.tr.step) (fun t => by simp) _ s,
    times_keeps rowEvent (fun t => t.tr.pauseReq) (fun t => by simp) _ s,
    times_keeps rowEvent (fun t => t.re.printEnd) (fun t => by simp) _ s,
    times_keeps rowEvent (fun t => t.re.lastStarted) (fun t => by simp) _ s,
    times_keeps rowEvent (fun t => t.re.serial) (fun t => by simp) _ s,
    times_keeps rowEvent (fun t => t.re.gaps) (fun t => by simp) _ s,
    times_keeps rowEvent (fun t => t.ps) (fun t => by simp) _ s,
    times_keeps rowEvent (fun t => t.bt.splices) (fun t => by simp) _ s,
    times_keeps rowEvent (fun t => t.bt.pos) (fun t => by simp) _ s,
    times_keeps rowEvent (fun t => t.bt.nextNumber) (fun t => by simp) _ s,
    times_keeps rowEvent (fun t => t.bt.overflow) (fun t => by simp) _ s,
    times_keeps rowEvent (fun t => t.bt.retiring) (fun t => by simp) _ s,
    times_keeps rowEvent (fun t => t.hc) (fun t => by simp) _ s,
    times_keeps rowEvent (fun t => t.dc.nip) (fun t => by simp) _ s,
    times_keeps rowEvent (fun t => t.dc.valve) (fun t => by simp) _ s,
    times_keeps rowEvent (fun t => t.dc.ref) (fun t => by simp) _ s,
    times_keeps rowEvent (fun t => t.dc.silence) (fun t => by simp) _ s,
    times_keeps rowEvent (fun t => t.dc.stopKind) (fun t => by simp) _ s,
    times_keeps rowEvent (fun t => t.dc.setpoint) (fun t => by simp) _ s,
    times_keeps rowEvent (fun t => t.dc.accel) (fun t => by simp) _ s,
    times_keeps rowEvent (fun t => t.mr.ccur) (fun t => by simp) _ s,
    times_keeps rowEvent (fun t => t.mr.lock) (fun t => by simp) _ s,
    times_keeps rowEvent (fun t => t.mr.strays) (fun t => by simp) _ s,
    times_keeps rowEvent (fun t => t.mr.lastRead) (fun t => by simp) _ s,
    times_keeps rowEvent (fun t => t.mr.found) (fun t => by simp) _ s,
    times_keeps rowEvent (fun t => t.mr.miss) (fun t => by simp) _ s,
    times_keeps rowEvent (fun t => t.cv) (fun t => by simp) _ s,
    times_keeps rowEvent (fun t => t.now) (fun t => by simp) _ s,
    times_keeps rowEvent (fun t => t.freeCount) (fun t => by simp) _ s,
    times_keeps rowEvent (fun t => t.pending) (fun t => by simp) _ s⟩

@[simp] theorem appendBand_frame (b : Band) (s : State) :
    (appendBand b s).pins = s.pins ∧ (appendBand b s).cfg = s.cfg ∧ (appendBand b s).smp = s.smp ∧
    (appendBand b s).tr = s.tr ∧ (appendBand b s).re = s.re ∧ (appendBand b s).ps = s.ps ∧
    (appendBand b s).bt.splices = s.bt.splices ∧ (appendBand b s).bt.pos = s.bt.pos ∧
    (appendBand b s).bt.overflow = s.bt.overflow ∧ (appendBand b s).bt.retiring = s.bt.retiring ∧
    (appendBand b s).hc = s.hc ∧ (appendBand b s).dc = s.dc ∧ (appendBand b s).mr = s.mr ∧ (appendBand b s).cv = s.cv ∧
    (appendBand b s).now = s.now ∧ (appendBand b s).freeCount = s.freeCount ∧ (appendBand b s).out = s.out ∧
    (appendBand b s).pending = s.pending := by
  unfold appendBand
  (try dsimp only)
  (repeat' split) <;> simp

@[simp] theorem startBand_frame (g : Segment) (s : State) :
    (startBand g s).pins = s.pins ∧ (startBand g s).cfg = s.cfg ∧ (startBand g s).smp.chainHead = s.smp.chainHead ∧
    (startBand g s).smp.progBase = s.smp.progBase ∧ (startBand g s).smp.noticeMask = s.smp.noticeMask ∧
    (startBand g s).smp.burstLimit = s.smp.burstLimit ∧ (startBand g s).smp.pollPeriod = s.smp.pollPeriod ∧
    (startBand g s).smp.soft = s.smp.soft ∧ (startBand g s).smp.copies = s.smp.copies ∧
    (startBand g s).tr.pos = s.tr.pos ∧ (startBand g s).tr.step = s.tr.step ∧
    (startBand g s).tr.pauseReq = s.tr.pauseReq ∧ (startBand g s).re.serial = s.re.serial ∧
    (startBand g s).re.gaps = s.re.gaps ∧ (startBand g s).ps = s.ps ∧ (startBand g s).bt.splices = s.bt.splices ∧
    (startBand g s).bt.pos = s.bt.pos ∧ (startBand g s).bt.overflow = s.bt.overflow ∧
    (startBand g s).bt.retiring = s.bt.retiring ∧ (startBand g s).hc = s.hc ∧ (startBand g s).dc.nip = s.dc.nip ∧
    (startBand g s).dc.valve = s.dc.valve ∧ (startBand g s).dc.ref = s.dc.ref ∧
    (startBand g s).dc.silence = s.dc.silence ∧ (startBand g s).dc.stopKind = s.dc.stopKind ∧
    (startBand g s).dc.setpoint = s.dc.setpoint ∧ (startBand g s).dc.accel = s.dc.accel ∧
    (startBand g s).mr.ccur = s.mr.ccur ∧ (startBand g s).mr.lock = s.mr.lock ∧ (startBand g s).mr.strays = s.mr.strays ∧
    (startBand g s).mr.lastRead = s.mr.lastRead ∧ (startBand g s).mr.found = s.mr.found ∧
    (startBand g s).mr.miss = s.mr.miss ∧ (startBand g s).cv = s.cv ∧ (startBand g s).now = s.now ∧
    (startBand g s).freeCount = s.freeCount ∧ (startBand g s).pending = s.pending := by
  unfold startBand
  (try dsimp only)
  (repeat' split) <;> simp

@[simp] theorem tryBandStart_frame (s : State) :
    (tryBandStart s).pins = s.pins ∧ (tryBandStart s).cfg = s.cfg ∧ (tryBandStart s).smp.chainHead = s.smp.chainHead ∧
    (tryBandStart s).smp.progBase = s.smp.progBase ∧ (tryBandStart s).smp.noticeMask = s.smp.noticeMask ∧
    (tryBandStart s).smp.burstLimit = s.smp.burstLimit ∧ (tryBandStart s).smp.pollPeriod = s.smp.pollPeriod ∧
    (tryBandStart s).smp.soft = s.smp.soft ∧ (tryBandStart s).smp.copies = s.smp.copies ∧
    (tryBandStart s).tr.pos = s.tr.pos ∧ (tryBandStart s).tr.step = s.tr.step ∧
    (tryBandStart s).tr.pauseReq = s.tr.pauseReq ∧ (tryBandStart s).re.serial = s.re.serial ∧ (tryBandStart s).ps = s.ps ∧
    (tryBandStart s).bt.splices = s.bt.splices ∧ (tryBandStart s).bt.pos = s.bt.pos ∧
    (tryBandStart s).bt.overflow = s.bt.overflow ∧ (tryBandStart s).bt.retiring = s.bt.retiring ∧
    (tryBandStart s).hc = s.hc ∧ (tryBandStart s).dc.nip = s.dc.nip ∧ (tryBandStart s).dc.valve = s.dc.valve ∧
    (tryBandStart s).dc.ref = s.dc.ref ∧ (tryBandStart s).dc.silence = s.dc.silence ∧
    (tryBandStart s).dc.stopKind = s.dc.stopKind ∧ (tryBandStart s).dc.setpoint = s.dc.setpoint ∧
    (tryBandStart s).dc.accel = s.dc.accel ∧ (tryBandStart s).mr.ccur = s.mr.ccur ∧ (tryBandStart s).mr.lock = s.mr.lock ∧
    (tryBandStart s).mr.strays = s.mr.strays ∧ (tryBandStart s).mr.lastRead = s.mr.lastRead ∧
    (tryBandStart s).mr.found = s.mr.found ∧ (tryBandStart s).mr.miss = s.mr.miss ∧ (tryBandStart s).cv = s.cv ∧
    (tryBandStart s).now = s.now ∧ (tryBandStart s).freeCount = s.freeCount ∧ (tryBandStart s).pending = s.pending := by
  unfold tryBandStart
  (try dsimp only)
  (repeat' split) <;> simp

@[simp] theorem rowComplete_frame (ws : List Word) (s : State) :
    (rowComplete ws s).pins = s.pins ∧ (rowComplete ws s).cfg = s.cfg ∧
    (rowComplete ws s).smp.chainHead = s.smp.chainHead ∧ (rowComplete ws s).smp.progBase = s.smp.progBase ∧
    (rowComplete ws s).smp.noticeMask = s.smp.noticeMask ∧ (rowComplete ws s).smp.burstLimit = s.smp.burstLimit ∧
    (rowComplete ws s).smp.pollPeriod = s.smp.pollPeriod ∧ (rowComplete ws s).smp.soft = s.smp.soft ∧
    (rowComplete ws s).smp.copies = s.smp.copies ∧ (rowComplete ws s).tr.pos = s.tr.pos ∧
    (rowComplete ws s).tr.step = s.tr.step ∧ (rowComplete ws s).tr.pauseReq = s.tr.pauseReq ∧
    (rowComplete ws s).re.serial = s.re.serial ∧ (rowComplete ws s).ps = s.ps ∧
    (rowComplete ws s).bt.splices = s.bt.splices ∧ (rowComplete ws s).bt.pos = s.bt.pos ∧
    (rowComplete ws s).bt.overflow = s.bt.overflow ∧ (rowComplete ws s).bt.retiring = s.bt.retiring ∧
    (rowComplete ws s).hc = s.hc ∧ (rowComplete ws s).dc.nip = s.dc.nip ∧ (rowComplete ws s).dc.valve = s.dc.valve ∧
    (rowComplete ws s).dc.ref = s.dc.ref ∧ (rowComplete ws s).dc.silence = s.dc.silence ∧
    (rowComplete ws s).dc.stopKind = s.dc.stopKind ∧ (rowComplete ws s).dc.setpoint = s.dc.setpoint ∧
    (rowComplete ws s).dc.accel = s.dc.accel ∧ (rowComplete ws s).mr.ccur = s.mr.ccur ∧
    (rowComplete ws s).mr.lock = s.mr.lock ∧ (rowComplete ws s).mr.strays = s.mr.strays ∧
    (rowComplete ws s).mr.lastRead = s.mr.lastRead ∧ (rowComplete ws s).mr.found = s.mr.found ∧
    (rowComplete ws s).mr.miss = s.mr.miss ∧ (rowComplete ws s).cv = s.cv ∧ (rowComplete ws s).now = s.now ∧
    (rowComplete ws s).freeCount = s.freeCount ∧ (rowComplete ws s).pending = s.pending := by
  unfold rowComplete
  (try dsimp only)
  (repeat' split) <;> simp

@[simp] theorem clearDrain_frame (s : State) :
    (clearDrain s).pins = s.pins ∧ (clearDrain s).cfg = s.cfg ∧ (clearDrain s).smp = s.smp ∧ (clearDrain s).tr = s.tr ∧
    (clearDrain s).re.raster = s.re.raster ∧ (clearDrain s).re.seg = s.re.seg ∧ (clearDrain s).re.band = s.re.band ∧
    (clearDrain s).re.printEnd = s.re.printEnd ∧ (clearDrain s).re.lastStarted = s.re.lastStarted ∧
    (clearDrain s).re.serial = s.re.serial ∧ (clearDrain s).re.lowWater = s.re.lowWater ∧
    (clearDrain s).re.underruns = s.re.underruns ∧ (clearDrain s).re.gaps = s.re.gaps ∧ (clearDrain s).ps = s.ps ∧
    (clearDrain s).bt = s.bt ∧ (clearDrain s).hc = s.hc ∧ (clearDrain s).dc = s.dc ∧ (clearDrain s).mr = s.mr ∧
    (clearDrain s).cv = s.cv ∧ (clearDrain s).now = s.now ∧ (clearDrain s).freeCount = s.freeCount ∧
    (clearDrain s).out = s.out ∧ (clearDrain s).pending = s.pending := by
  unfold clearDrain
  (try dsimp only)
  (repeat' split) <;> simp

@[simp] theorem enterRunning_frame (s : State) :
    (enterRunning s).pins = s.pins ∧ (enterRunning s).cfg = s.cfg ∧ (enterRunning s).smp.chainHead = s.smp.chainHead ∧
    (enterRunning s).smp.progBase = s.smp.progBase ∧ (enterRunning s).smp.noticeMask = s.smp.noticeMask ∧
    (enterRunning s).smp.burstLimit = s.smp.burstLimit ∧ (enterRunning s).smp.pollPeriod = s.smp.pollPeriod ∧
    (enterRunning s).smp.soft = s.smp.soft ∧ (enterRunning s).smp.copies = s.smp.copies ∧
    (enterRunning s).tr.pos = s.tr.pos ∧ (enterRunning s).tr.step = s.tr.step ∧
    (enterRunning s).tr.pauseReq = s.tr.pauseReq ∧ (enterRunning s).re.serial = s.re.serial ∧ (enterRunning s).ps = s.ps ∧
    (enterRunning s).bt.splices = s.bt.splices ∧ (enterRunning s).bt.pos = s.bt.pos ∧
    (enterRunning s).bt.overflow = s.bt.overflow ∧ (enterRunning s).bt.retiring = s.bt.retiring ∧
    (enterRunning s).hc = s.hc ∧ (enterRunning s).dc.nip = s.dc.nip ∧ (enterRunning s).dc.valve = s.dc.valve ∧
    (enterRunning s).dc.ref = s.dc.ref ∧ (enterRunning s).dc.silence = s.dc.silence ∧
    (enterRunning s).dc.stopKind = s.dc.stopKind ∧ (enterRunning s).dc.setpoint = s.dc.setpoint ∧
    (enterRunning s).dc.accel = s.dc.accel ∧ (enterRunning s).mr.ccur = s.mr.ccur ∧ (enterRunning s).mr.lock = s.mr.lock ∧
    (enterRunning s).mr.strays = s.mr.strays ∧ (enterRunning s).mr.lastRead = s.mr.lastRead ∧
    (enterRunning s).mr.found = s.mr.found ∧ (enterRunning s).mr.miss = s.mr.miss ∧ (enterRunning s).cv = s.cv ∧
    (enterRunning s).now = s.now ∧ (enterRunning s).freeCount = s.freeCount ∧ (enterRunning s).pending = s.pending := by
  unfold enterRunning
  (try dsimp only)
  (repeat' split) <;> simp

@[simp] theorem endAtBoundary_frame (s : State) :
    (endAtBoundary s).pins = s.pins ∧ (endAtBoundary s).cfg = s.cfg ∧ (endAtBoundary s).smp.chainHead = s.smp.chainHead ∧
    (endAtBoundary s).smp.progBase = s.smp.progBase ∧ (endAtBoundary s).smp.noticeMask = s.smp.noticeMask ∧
    (endAtBoundary s).smp.burstLimit = s.smp.burstLimit ∧ (endAtBoundary s).smp.pollPeriod = s.smp.pollPeriod ∧
    (endAtBoundary s).smp.soft = s.smp.soft ∧ (endAtBoundary s).smp.writes = s.smp.writes ∧
    (endAtBoundary s).smp.copies = s.smp.copies ∧ (endAtBoundary s).tr = s.tr ∧
    (endAtBoundary s).re.raster = s.re.raster ∧ (endAtBoundary s).re.seg = s.re.seg ∧
    (endAtBoundary s).re.band = s.re.band ∧ (endAtBoundary s).re.printEnd = s.re.printEnd ∧
    (endAtBoundary s).re.lastStarted = s.re.lastStarted ∧ (endAtBoundary s).re.serial = s.re.serial ∧
    (endAtBoundary s).re.lowWater = s.re.lowWater ∧ (endAtBoundary s).re.underruns = s.re.underruns ∧
    (endAtBoundary s).re.gaps = s.re.gaps ∧ (endAtBoundary s).ps = s.ps ∧ (endAtBoundary s).bt = s.bt ∧
    (endAtBoundary s).hc = s.hc ∧ (endAtBoundary s).dc = s.dc ∧ (endAtBoundary s).mr = s.mr ∧
    (endAtBoundary s).cv = s.cv ∧ (endAtBoundary s).now = s.now ∧ (endAtBoundary s).freeCount = s.freeCount ∧
    (endAtBoundary s).out = s.out ∧ (endAtBoundary s).pending = s.pending := by
  unfold endAtBoundary
  (try dsimp only)
  (repeat' split) <;> simp

@[simp] theorem endNow_frame (s : State) :
    (endNow s).pins = s.pins ∧ (endNow s).cfg = s.cfg ∧ (endNow s).smp.chainHead = s.smp.chainHead ∧
    (endNow s).smp.progBase = s.smp.progBase ∧ (endNow s).smp.noticeMask = s.smp.noticeMask ∧
    (endNow s).smp.burstLimit = s.smp.burstLimit ∧ (endNow s).smp.pollPeriod = s.smp.pollPeriod ∧
    (endNow s).smp.soft = s.smp.soft ∧ (endNow s).smp.writes = s.smp.writes ∧ (endNow s).smp.copies = s.smp.copies ∧
    (endNow s).tr = s.tr ∧ (endNow s).re.raster = s.re.raster ∧ (endNow s).re.seg = s.re.seg ∧
    (endNow s).re.printEnd = s.re.printEnd ∧ (endNow s).re.lastStarted = s.re.lastStarted ∧
    (endNow s).re.serial = s.re.serial ∧ (endNow s).re.lowWater = s.re.lowWater ∧
    (endNow s).re.underruns = s.re.underruns ∧ (endNow s).re.gaps = s.re.gaps ∧ (endNow s).ps = s.ps ∧
    (endNow s).bt.splices = s.bt.splices ∧ (endNow s).bt.tallies = s.bt.tallies ∧ (endNow s).bt.pos = s.bt.pos ∧
    (endNow s).bt.nextNumber = s.bt.nextNumber ∧ (endNow s).bt.overflow = s.bt.overflow ∧
    (endNow s).bt.retiring = s.bt.retiring ∧ (endNow s).hc = s.hc ∧ (endNow s).dc = s.dc ∧ (endNow s).mr = s.mr ∧
    (endNow s).cv = s.cv ∧ (endNow s).now = s.now ∧ (endNow s).freeCount = s.freeCount ∧ (endNow s).out = s.out ∧
    (endNow s).pending = s.pending := by
  unfold endNow
  (try dsimp only)
  (repeat' split) <;> simp

@[simp] theorem applyEnd_frame (now : Bool) (s : State) :
    (applyEnd now s).pins = s.pins ∧ (applyEnd now s).cfg = s.cfg ∧ (applyEnd now s).smp.chainHead = s.smp.chainHead ∧
    (applyEnd now s).smp.progBase = s.smp.progBase ∧ (applyEnd now s).smp.noticeMask = s.smp.noticeMask ∧
    (applyEnd now s).smp.burstLimit = s.smp.burstLimit ∧ (applyEnd now s).smp.pollPeriod = s.smp.pollPeriod ∧
    (applyEnd now s).smp.soft = s.smp.soft ∧ (applyEnd now s).smp.copies = s.smp.copies ∧
    (applyEnd now s).tr.pos = s.tr.pos ∧ (applyEnd now s).tr.step = s.tr.step ∧
    (applyEnd now s).tr.pauseReq = s.tr.pauseReq ∧ (applyEnd now s).re.printEnd = s.re.printEnd ∧
    (applyEnd now s).re.lastStarted = s.re.lastStarted ∧ (applyEnd now s).re.serial = s.re.serial ∧
    (applyEnd now s).re.lowWater = s.re.lowWater ∧ (applyEnd now s).re.underruns = s.re.underruns ∧
    (applyEnd now s).re.gaps = s.re.gaps ∧ (applyEnd now s).ps = s.ps ∧ (applyEnd now s).bt.splices = s.bt.splices ∧
    (applyEnd now s).bt.pos = s.bt.pos ∧ (applyEnd now s).bt.nextNumber = s.bt.nextNumber ∧
    (applyEnd now s).bt.overflow = s.bt.overflow ∧ (applyEnd now s).bt.retiring = s.bt.retiring ∧
    (applyEnd now s).hc = s.hc ∧ (applyEnd now s).dc = s.dc ∧ (applyEnd now s).mr.ccur = s.mr.ccur ∧
    (applyEnd now s).mr.lock = s.mr.lock ∧ (applyEnd now s).mr.strays = s.mr.strays ∧
    (applyEnd now s).mr.lastRead = s.mr.lastRead ∧ (applyEnd now s).mr.found = s.mr.found ∧
    (applyEnd now s).mr.miss = s.mr.miss ∧ (applyEnd now s).cv = s.cv ∧ (applyEnd now s).now = s.now ∧
    (applyEnd now s).freeCount = s.freeCount ∧ (applyEnd now s).out = s.out ∧ (applyEnd now s).pending = s.pending := by
  unfold applyEnd
  (try dsimp only)
  (repeat' split) <;> simp

@[simp] theorem takeEnd_frame (now : Bool) (s : State) :
    (takeEnd now s).pins = s.pins ∧ (takeEnd now s).cfg = s.cfg ∧ (takeEnd now s).smp.chainHead = s.smp.chainHead ∧
    (takeEnd now s).smp.progBase = s.smp.progBase ∧ (takeEnd now s).smp.noticeMask = s.smp.noticeMask ∧
    (takeEnd now s).smp.burstLimit = s.smp.burstLimit ∧ (takeEnd now s).smp.pollPeriod = s.smp.pollPeriod ∧
    (takeEnd now s).smp.soft = s.smp.soft ∧ (takeEnd now s).smp.copies = s.smp.copies ∧
    (takeEnd now s).tr.pos = s.tr.pos ∧ (takeEnd now s).tr.step = s.tr.step ∧
    (takeEnd now s).tr.pauseReq = s.tr.pauseReq ∧ (takeEnd now s).re.printEnd = s.re.printEnd ∧
    (takeEnd now s).re.lastStarted = s.re.lastStarted ∧ (takeEnd now s).re.serial = s.re.serial ∧
    (takeEnd now s).re.lowWater = s.re.lowWater ∧ (takeEnd now s).re.underruns = s.re.underruns ∧
    (takeEnd now s).re.gaps = s.re.gaps ∧ (takeEnd now s).ps = s.ps ∧ (takeEnd now s).bt.splices = s.bt.splices ∧
    (takeEnd now s).bt.pos = s.bt.pos ∧ (takeEnd now s).bt.nextNumber = s.bt.nextNumber ∧
    (takeEnd now s).bt.overflow = s.bt.overflow ∧ (takeEnd now s).bt.retiring = s.bt.retiring ∧
    (takeEnd now s).hc = s.hc ∧ (takeEnd now s).dc = s.dc ∧ (takeEnd now s).mr.ccur = s.mr.ccur ∧
    (takeEnd now s).mr.lock = s.mr.lock ∧ (takeEnd now s).mr.strays = s.mr.strays ∧
    (takeEnd now s).mr.lastRead = s.mr.lastRead ∧ (takeEnd now s).mr.found = s.mr.found ∧
    (takeEnd now s).mr.miss = s.mr.miss ∧ (takeEnd now s).cv = s.cv ∧ (takeEnd now s).now = s.now ∧
    (takeEnd now s).freeCount = s.freeCount ∧ (takeEnd now s).out = s.out ∧ (takeEnd now s).pending = s.pending := by
  unfold takeEnd
  (try dsimp only)
  (repeat' split) <;> simp

@[simp] theorem verifierSoftReset_frame (s : State) :
    (verifierSoftReset s).pins = s.pins ∧ (verifierSoftReset s).cfg = s.cfg ∧
    (verifierSoftReset s).smp.chainHead = s.smp.chainHead ∧ (verifierSoftReset s).smp.progBase = s.smp.progBase ∧
    (verifierSoftReset s).smp.noticeMask = s.smp.noticeMask ∧ (verifierSoftReset s).smp.burstLimit = s.smp.burstLimit ∧
    (verifierSoftReset s).smp.pollPeriod = s.smp.pollPeriod ∧ (verifierSoftReset s).smp.soft = s.smp.soft ∧
    (verifierSoftReset s).smp.writes = s.smp.writes ∧ (verifierSoftReset s).smp.copies = s.smp.copies ∧
    (verifierSoftReset s).tr = s.tr ∧ (verifierSoftReset s).re = s.re ∧ (verifierSoftReset s).ps = s.ps ∧
    (verifierSoftReset s).bt = s.bt ∧ (verifierSoftReset s).hc = s.hc ∧ (verifierSoftReset s).dc = s.dc ∧
    (verifierSoftReset s).mr = s.mr ∧ (verifierSoftReset s).cv.status = s.cv.status ∧ (verifierSoftReset s).now = s.now ∧
    (verifierSoftReset s).freeCount = s.freeCount ∧ (verifierSoftReset s).out = s.out ∧
    (verifierSoftReset s).pending = s.pending := by
  unfold verifierSoftReset
  (try dsimp only)
  (repeat' split) <;> simp

@[simp] theorem storeSoftReset_frame (s : State) :
    (storeSoftReset s).pins = s.pins ∧ (storeSoftReset s).cfg = s.cfg ∧
    (storeSoftReset s).smp.chainHead = s.smp.chainHead ∧ (storeSoftReset s).smp.progBase = s.smp.progBase ∧
    (storeSoftReset s).smp.noticeMask = s.smp.noticeMask ∧ (storeSoftReset s).smp.burstLimit = s.smp.burstLimit ∧
    (storeSoftReset s).smp.pollPeriod = s.smp.pollPeriod ∧ (storeSoftReset s).smp.soft = s.smp.soft ∧
    (storeSoftReset s).smp.writes = s.smp.writes ∧ (storeSoftReset s).tr = s.tr ∧ (storeSoftReset s).re = s.re ∧
    (storeSoftReset s).ps.slots = s.ps.slots ∧ (storeSoftReset s).bt = s.bt ∧ (storeSoftReset s).hc = s.hc ∧
    (storeSoftReset s).dc = s.dc ∧ (storeSoftReset s).mr = s.mr ∧ (storeSoftReset s).cv = s.cv ∧
    (storeSoftReset s).now = s.now ∧ (storeSoftReset s).freeCount = s.freeCount ∧ (storeSoftReset s).out = s.out ∧
    (storeSoftReset s).pending = s.pending := by
  unfold storeSoftReset
  (try dsimp only)
  (repeat' split) <;> simp

@[simp] theorem readerSoftReset_frame (s : State) :
    (readerSoftReset s).pins = s.pins ∧ (readerSoftReset s).cfg = s.cfg ∧
    (readerSoftReset s).smp.chainHead = s.smp.chainHead ∧ (readerSoftReset s).smp.progBase = s.smp.progBase ∧
    (readerSoftReset s).smp.noticeMask = s.smp.noticeMask ∧ (readerSoftReset s).smp.burstLimit = s.smp.burstLimit ∧
    (readerSoftReset s).smp.pollPeriod = s.smp.pollPeriod ∧ (readerSoftReset s).smp.soft = s.smp.soft ∧
    (readerSoftReset s).smp.writes = s.smp.writes ∧ (readerSoftReset s).smp.copies = s.smp.copies ∧
    (readerSoftReset s).tr.reader = s.tr.reader ∧ (readerSoftReset s).tr.pos = s.tr.pos ∧
    (readerSoftReset s).tr.step = s.tr.step ∧ (readerSoftReset s).tr.pauseReq = s.tr.pauseReq ∧
    (readerSoftReset s).tr.haltReq = s.tr.haltReq ∧ (readerSoftReset s).re = s.re ∧ (readerSoftReset s).ps = s.ps ∧
    (readerSoftReset s).bt = s.bt ∧ (readerSoftReset s).hc = s.hc ∧ (readerSoftReset s).dc = s.dc ∧
    (readerSoftReset s).mr = s.mr ∧ (readerSoftReset s).cv = s.cv ∧ (readerSoftReset s).now = s.now ∧
    (readerSoftReset s).freeCount = s.freeCount ∧ (readerSoftReset s).out = s.out ∧
    (readerSoftReset s).pending = s.pending := by
  unfold readerSoftReset
  (try dsimp only)
  (repeat' split) <;> simp

@[simp] theorem nipFromSwitches_frame (s : State) :
    (nipFromSwitches s).pins = s.pins ∧ (nipFromSwitches s).cfg = s.cfg ∧
    (nipFromSwitches s).smp.chainHead = s.smp.chainHead ∧ (nipFromSwitches s).smp.progBase = s.smp.progBase ∧
    (nipFromSwitches s).smp.noticeMask = s.smp.noticeMask ∧ (nipFromSwitches s).smp.burstLimit = s.smp.burstLimit ∧
    (nipFromSwitches s).smp.pollPeriod = s.smp.pollPeriod ∧ (nipFromSwitches s).smp.soft = s.smp.soft ∧
    (nipFromSwitches s).smp.writes = s.smp.writes ∧ (nipFromSwitches s).smp.copies = s.smp.copies ∧
    (nipFromSwitches s).tr = s.tr ∧ (nipFromSwitches s).re = s.re ∧ (nipFromSwitches s).ps = s.ps ∧
    (nipFromSwitches s).bt.splices = s.bt.splices ∧ (nipFromSwitches s).bt.tallies = s.bt.tallies ∧
    (nipFromSwitches s).bt.pos = s.bt.pos ∧ (nipFromSwitches s).bt.nextNumber = s.bt.nextNumber ∧
    (nipFromSwitches s).bt.overflow = s.bt.overflow ∧ (nipFromSwitches s).bt.retiring = s.bt.retiring ∧
    (nipFromSwitches s).hc = s.hc ∧ (nipFromSwitches s).dc.line = s.dc.line ∧ (nipFromSwitches s).dc.valve = s.dc.valve ∧
    (nipFromSwitches s).dc.ref = s.dc.ref ∧ (nipFromSwitches s).dc.silence = s.dc.silence ∧
    (nipFromSwitches s).dc.stopKind = s.dc.stopKind ∧ (nipFromSwitches s).dc.setpoint = s.dc.setpoint ∧
    (nipFromSwitches s).dc.accel = s.dc.accel ∧ (nipFromSwitches s).dc.startCause = s.dc.startCause ∧
    (nipFromSwitches s).mr = s.mr ∧ (nipFromSwitches s).cv = s.cv ∧ (nipFromSwitches s).now = s.now ∧
    (nipFromSwitches s).freeCount = s.freeCount ∧ (nipFromSwitches s).out = s.out ∧
    (nipFromSwitches s).pending = s.pending := by
  unfold nipFromSwitches
  (try dsimp only)
  (repeat' split) <;> simp

@[simp] theorem driveSoftReset_frame (s : State) :
    (driveSoftReset s).pins = s.pins ∧ (driveSoftReset s).cfg = s.cfg ∧
    (driveSoftReset s).smp.chainHead = s.smp.chainHead ∧ (driveSoftReset s).smp.progBase = s.smp.progBase ∧
    (driveSoftReset s).smp.noticeMask = s.smp.noticeMask ∧ (driveSoftReset s).smp.burstLimit = s.smp.burstLimit ∧
    (driveSoftReset s).smp.pollPeriod = s.smp.pollPeriod ∧ (driveSoftReset s).smp.soft = s.smp.soft ∧
    (driveSoftReset s).smp.writes = s.smp.writes ∧ (driveSoftReset s).smp.copies = s.smp.copies ∧
    (driveSoftReset s).tr = s.tr ∧ (driveSoftReset s).re = s.re ∧ (driveSoftReset s).ps = s.ps ∧
    (driveSoftReset s).bt.splices = s.bt.splices ∧ (driveSoftReset s).bt.tallies = s.bt.tallies ∧
    (driveSoftReset s).bt.pos = s.bt.pos ∧ (driveSoftReset s).bt.nextNumber = s.bt.nextNumber ∧
    (driveSoftReset s).bt.overflow = s.bt.overflow ∧ (driveSoftReset s).bt.retiring = s.bt.retiring ∧
    (driveSoftReset s).hc = s.hc ∧ (driveSoftReset s).mr = s.mr ∧ (driveSoftReset s).cv = s.cv ∧
    (driveSoftReset s).now = s.now ∧ (driveSoftReset s).freeCount = s.freeCount ∧ (driveSoftReset s).out = s.out ∧
    (driveSoftReset s).pending = s.pending := by
  unfold driveSoftReset
  (try dsimp only)
  (repeat' split) <;> simp

@[simp] theorem softLast_frame (s : State) :
    (softLast s).pins = s.pins ∧ (softLast s).cfg = s.cfg ∧ (softLast s).smp.chainHead = s.smp.chainHead ∧
    (softLast s).smp.progBase = s.smp.progBase ∧ (softLast s).smp.noticeMask = s.smp.noticeMask ∧
    (softLast s).smp.burstLimit = s.smp.burstLimit ∧ (softLast s).smp.pollPeriod = s.smp.pollPeriod ∧
    (softLast s).smp.writes = s.smp.writes ∧ (softLast s).smp.copies = s.smp.copies ∧ (softLast s).tr.pos = s.tr.pos ∧
    (softLast s).tr.step = s.tr.step ∧ (softLast s).tr.ticket = s.tr.ticket ∧ (softLast s).re = s.re ∧
    (softLast s).ps = s.ps ∧ (softLast s).bt = s.bt ∧ (softLast s).hc = s.hc ∧ (softLast s).dc = s.dc ∧
    (softLast s).mr.strays = s.mr.strays ∧ (softLast s).mr.counterCopy = s.mr.counterCopy ∧ (softLast s).cv = s.cv ∧
    (softLast s).now = s.now ∧ (softLast s).freeCount = s.freeCount ∧ (softLast s).out = s.out ∧
    (softLast s).pending = s.pending := by
  simp [softLast]

/-- What MR, TR and the stage of the reset are once soft reset has reached both (07 R151, 09 R180, step 5). -/
theorem softLast_resets (s : State) :
    (softLast s).smp.soft = .settling ∧ (softLast s).mr.lock = .search ∧
    (softLast s).tr = { s.tr with reader := .idle, haltReq := false, pauseReq := false, awaitSeg := none, pollRunning := false,
                                  pollElapsed := 0 } := by
  simp [softLast, pollStop, enterIdle, marksSoftReset]
  (repeat' split) <;> simp

/-- Everything TR's last steps of a soft reset can do, and when (09 R180, steps 4 and 5, 10 R190): nothing, the FAILED RESET of a
ticket that is TAKEN, or the reset values of MR and TR, these only with no header write outstanding. -/
theorem softClose_cases (s : State) :
    (softClose s = s ∧ (s.smp.soft = .closing → (∃ t ∈ s.smp.copies, t.isReport = true) ∨
      ∃ t ∈ s.smp.writes, t.isHeaderWrite = true)) ∨
    (softClose s = finishTicket .failed .reset 0 s ∧ s.smp.soft = .closing ∧ ∃ t, s.tr.ticket = some t ∧ t.unsettled = true) ∨
    (softClose s = softLast s ∧ s.smp.soft = .closing ∧ ∀ t ∈ s.smp.writes, t.isHeaderWrite = false) := by
  unfold softClose
  split
  · rename_i h
    split
    · rename_i hd
      refine .inr (.inl ⟨rfl, h.1, ?_⟩)
      cases ht : s.tr.ticket <;> simp_all
    · split
      · rename_i hw
        exact .inl ⟨rfl, fun _ => .inr (by simpa using hw)⟩
      · rename_i hw
        exact .inr (.inr ⟨rfl, h.1, by simpa using hw⟩)
  · rename_i h
    refine .inl ⟨rfl, fun hc => .inl ?_⟩
    simpa [hc] using h

@[simp] theorem softClose_frame (s : State) :
    (softClose s).pins = s.pins ∧ (softClose s).cfg = s.cfg ∧ (softClose s).smp.chainHead = s.smp.chainHead ∧
    (softClose s).smp.progBase = s.smp.progBase ∧ (softClose s).smp.noticeMask = s.smp.noticeMask ∧
    (softClose s).smp.burstLimit = s.smp.burstLimit ∧ (softClose s).smp.pollPeriod = s.smp.pollPeriod ∧
    (softClose s).smp.copies = s.smp.copies ∧ (softClose s).tr.pos = s.tr.pos ∧ (softClose s).tr.step = s.tr.step ∧
    (softClose s).re = s.re ∧ (softClose s).ps = s.ps ∧ (softClose s).bt = s.bt ∧ (softClose s).hc = s.hc ∧
    (softClose s).dc = s.dc ∧ (softClose s).mr.strays = s.mr.strays ∧ (softClose s).mr.counterCopy = s.mr.counterCopy ∧
    (softClose s).cv = s.cv ∧ (softClose s).now = s.now ∧ (softClose s).freeCount = s.freeCount ∧
    (softClose s).out = s.out ∧ (softClose s).pending = s.pending := by
  unfold softClose
  (repeat' split) <;> simp

@[simp] theorem softSettle_frame (s : State) :
    (softSettle s).pins = s.pins ∧ (softSettle s).cfg = s.cfg ∧ (softSettle s).smp.chainHead = s.smp.chainHead ∧
    (softSettle s).smp.progBase = s.smp.progBase ∧ (softSettle s).smp.noticeMask = s.smp.noticeMask ∧
    (softSettle s).smp.burstLimit = s.smp.burstLimit ∧ (softSettle s).smp.pollPeriod = s.smp.pollPeriod ∧
    (softSettle s).smp.copies = s.smp.copies ∧ (softSettle s).tr.pos = s.tr.pos ∧ (softSettle s).tr.step = s.tr.step ∧
    (softSettle s).re = s.re ∧ (softSettle s).ps = s.ps ∧ (softSettle s).bt.track = s.bt.track ∧
    (softSettle s).bt.tallies = s.bt.tallies ∧ (softSettle s).bt.pos = s.bt.pos ∧
    (softSettle s).bt.nextNumber = s.bt.nextNumber ∧ (softSettle s).bt.retiring = s.bt.retiring ∧
    (softSettle s).hc = s.hc ∧ (softSettle s).dc = s.dc ∧ (softSettle s).mr.strays = s.mr.strays ∧
    (softSettle s).mr.counterCopy = s.mr.counterCopy ∧ (softSettle s).cv = s.cv ∧ (softSettle s).now = s.now ∧
    (softSettle s).freeCount = s.freeCount ∧ (softSettle s).out = s.out ∧ (softSettle s).pending = s.pending := by
  unfold softSettle
  (try dsimp only)
  (repeat' split) <;> simp

@[simp] theorem finaliseNext_frame (n : Nat) (s : State) :
    (finaliseNext n s).pins = s.pins ∧ (finaliseNext n s).cfg = s.cfg ∧
    (finaliseNext n s).smp.chainHead = s.smp.chainHead ∧ (finaliseNext n s).smp.progBase = s.smp.progBase ∧
    (finaliseNext n s).smp.noticeMask = s.smp.noticeMask ∧ (finaliseNext n s).smp.burstLimit = s.smp.burstLimit ∧
    (finaliseNext n s).smp.pollPeriod = s.smp.pollPeriod ∧ (finaliseNext n s).smp.copies = s.smp.copies ∧
    (finaliseNext n s).tr.pos = s.tr.pos ∧ (finaliseNext n s).tr.step = s.tr.step ∧ (finaliseNext n s).re = s.re ∧
    (finaliseNext n s).ps = s.ps ∧ (finaliseNext n s).bt.track = s.bt.track ∧ (finaliseNext n s).bt.pos = s.bt.pos ∧
    (finaliseNext n s).bt.nextNumber = s.bt.nextNumber ∧ (finaliseNext n s).bt.retiring = s.bt.retiring ∧
    (finaliseNext n s).hc = s.hc ∧ (finaliseNext n s).dc = s.dc ∧ (finaliseNext n s).mr.strays = s.mr.strays ∧
    (finaliseNext n s).cv = s.cv ∧ (finaliseNext n s).now = s.now ∧ (finaliseNext n s).freeCount = s.freeCount ∧
    (finaliseNext n s).out = s.out ∧ (finaliseNext n s).pending = s.pending := by
  induction n generalizing s with
  | zero => simp [finaliseNext]
  | succ n ih =>
    unfold finaliseNext
    split
    · simp
    · dsimp only
      split <;> simp [ih]

@[simp] theorem softFinalise_frame (s : State) :
    (softFinalise s).pins = s.pins ∧ (softFinalise s).cfg = s.cfg ∧ (softFinalise s).smp.chainHead = s.smp.chainHead ∧
    (softFinalise s).smp.progBase = s.smp.progBase ∧ (softFinalise s).smp.noticeMask = s.smp.noticeMask ∧
    (softFinalise s).smp.burstLimit = s.smp.burstLimit ∧ (softFinalise s).smp.pollPeriod = s.smp.pollPeriod ∧
    (softFinalise s).smp.copies = s.smp.copies ∧ (softFinalise s).tr.pos = s.tr.pos ∧
    (softFinalise s).tr.step = s.tr.step ∧ (softFinalise s).re = s.re ∧ (softFinalise s).ps = s.ps ∧
    (softFinalise s).bt.track = s.bt.track ∧ (softFinalise s).bt.pos = s.bt.pos ∧
    (softFinalise s).bt.nextNumber = s.bt.nextNumber ∧ (softFinalise s).bt.retiring = s.bt.retiring ∧
    (softFinalise s).hc = s.hc ∧ (softFinalise s).dc = s.dc ∧ (softFinalise s).mr.strays = s.mr.strays ∧
    (softFinalise s).cv = s.cv ∧ (softFinalise s).now = s.now ∧ (softFinalise s).freeCount = s.freeCount ∧
    (softFinalise s).out = s.out ∧ (softFinalise s).pending = s.pending := by
  unfold softFinalise
  (try dsimp only)
  (repeat' split) <;> simp

@[simp] theorem softWritten_frame (s : State) :
    (softWritten s).pins = s.pins ∧ (softWritten s).cfg = s.cfg ∧ (softWritten s).smp.chainHead = s.smp.chainHead ∧
    (softWritten s).smp.progBase = s.smp.progBase ∧ (softWritten s).smp.noticeMask = s.smp.noticeMask ∧
    (softWritten s).smp.burstLimit = s.smp.burstLimit ∧ (softWritten s).smp.pollPeriod = s.smp.pollPeriod ∧
    (softWritten s).smp.copies = s.smp.copies ∧ (softWritten s).tr.pos = s.tr.pos ∧ (softWritten s).tr.step = s.tr.step ∧
    (softWritten s).re = s.re ∧ (softWritten s).ps = s.ps ∧ (softWritten s).bt.track = s.bt.track ∧
    (softWritten s).bt.pos = s.bt.pos ∧ (softWritten s).bt.nextNumber = s.bt.nextNumber ∧
    (softWritten s).bt.retiring = s.bt.retiring ∧ (softWritten s).hc = s.hc ∧ (softWritten s).dc = s.dc ∧
    (softWritten s).mr.strays = s.mr.strays ∧ (softWritten s).cv = s.cv ∧ (softWritten s).now = s.now ∧
    (softWritten s).freeCount = s.freeCount ∧ (softWritten s).out = s.out ∧ (softWritten s).pending = s.pending := by
  unfold softWritten
  (try dsimp only)
  (repeat' split) <;> simp

@[simp] theorem softDiscard_frame (s : State) :
    (softDiscard s).pins = s.pins ∧ (softDiscard s).cfg = s.cfg ∧ (softDiscard s).smp.chainHead = s.smp.chainHead ∧
    (softDiscard s).smp.progBase = s.smp.progBase ∧ (softDiscard s).smp.noticeMask = s.smp.noticeMask ∧
    (softDiscard s).smp.burstLimit = s.smp.burstLimit ∧ (softDiscard s).smp.pollPeriod = s.smp.pollPeriod ∧
    (softDiscard s).smp.copies = s.smp.copies ∧ (softDiscard s).tr.pos = s.tr.pos ∧ (softDiscard s).tr.step = s.tr.step ∧
    (softDiscard s).re = s.re ∧ (softDiscard s).ps = s.ps ∧ (softDiscard s).bt.pos = s.bt.pos ∧
    (softDiscard s).bt.nextNumber = s.bt.nextNumber ∧ (softDiscard s).bt.retiring = s.bt.retiring ∧
    (softDiscard s).hc = s.hc ∧ (softDiscard s).dc = s.dc ∧ (softDiscard s).mr.strays = s.mr.strays ∧
    (softDiscard s).cv = s.cv ∧ (softDiscard s).now = s.now ∧ (softDiscard s).freeCount = s.freeCount ∧
    (softDiscard s).out = s.out ∧ (softDiscard s).pending = s.pending := by
  unfold softDiscard
  (try dsimp only)
  (repeat' split) <;> simp

@[simp] theorem softReach_frame (s : State) :
    (softReach s).pins = s.pins ∧ (softReach s).cfg = s.cfg ∧ (softReach s).smp.chainHead = s.smp.chainHead ∧
    (softReach s).smp.progBase = s.smp.progBase ∧ (softReach s).smp.noticeMask = s.smp.noticeMask ∧
    (softReach s).smp.burstLimit = s.smp.burstLimit ∧ (softReach s).smp.pollPeriod = s.smp.pollPeriod ∧
    (softReach s).tr.pos = s.tr.pos ∧ (softReach s).tr.step = s.tr.step ∧ (softReach s).re.printEnd = s.re.printEnd ∧
    (softReach s).re.lastStarted = s.re.lastStarted ∧ (softReach s).re.serial = s.re.serial ∧
    (softReach s).re.lowWater = s.re.lowWater ∧ (softReach s).re.underruns = s.re.underruns ∧
    (softReach s).re.gaps = s.re.gaps ∧ (softReach s).ps.slots = s.ps.slots ∧ (softReach s).bt.pos = s.bt.pos ∧
    (softReach s).bt.nextNumber = s.bt.nextNumber ∧ (softReach s).bt.retiring = s.bt.retiring ∧
    (softReach s).hc.settle = s.hc.settle ∧ (softReach s).hc.ton = s.hc.ton ∧ (softReach s).hc.ramp = s.hc.ramp ∧
    (softReach s).hc.kp = s.hc.kp ∧ (softReach s).hc.ki = s.hc.ki ∧ (softReach s).hc.retain = s.hc.retain ∧
    (softReach s).mr.strays = s.mr.strays ∧ (softReach s).cv.status = s.cv.status ∧ (softReach s).now = s.now ∧
    (softReach s).freeCount = s.freeCount ∧ (softReach s).out = s.out ∧ (softReach s).pending = s.pending := by
  unfold softReach
  (try dsimp only)
  (repeat' split) <;> simp

@[simp] theorem softStart_frame (s : State) :
    (softStart s).pins = s.pins ∧ (softStart s).cfg = s.cfg ∧ (softStart s).smp.chainHead = s.smp.chainHead ∧
    (softStart s).smp.progBase = s.smp.progBase ∧ (softStart s).smp.noticeMask = s.smp.noticeMask ∧
    (softStart s).smp.burstLimit = s.smp.burstLimit ∧ (softStart s).smp.pollPeriod = s.smp.pollPeriod ∧
    (softStart s).tr.pos = s.tr.pos ∧ (softStart s).tr.step = s.tr.step ∧ (softStart s).re.printEnd = s.re.printEnd ∧
    (softStart s).re.lastStarted = s.re.lastStarted ∧ (softStart s).re.serial = s.re.serial ∧
    (softStart s).re.lowWater = s.re.lowWater ∧ (softStart s).re.underruns = s.re.underruns ∧
    (softStart s).re.gaps = s.re.gaps ∧ (softStart s).ps.slots = s.ps.slots ∧ (softStart s).bt.pos = s.bt.pos ∧
    (softStart s).bt.nextNumber = s.bt.nextNumber ∧ (softStart s).bt.retiring = s.bt.retiring ∧
    (softStart s).hc.settle = s.hc.settle ∧ (softStart s).hc.ton = s.hc.ton ∧ (softStart s).hc.ramp = s.hc.ramp ∧
    (softStart s).hc.kp = s.hc.kp ∧ (softStart s).hc.ki = s.hc.ki ∧ (softStart s).hc.retain = s.hc.retain ∧
    (softStart s).mr.strays = s.mr.strays ∧ (softStart s).cv.status = s.cv.status ∧ (softStart s).now = s.now ∧
    (softStart s).freeCount = s.freeCount ∧ (softStart s).out = s.out ∧ (softStart s).pending = s.pending := by
  unfold softStart
  (try dsimp only)
  (repeat' split) <;> simp

@[simp] theorem softComplete_frame (s : State) :
    (softComplete s).pins = s.pins ∧ (softComplete s).cfg = s.cfg ∧ (softComplete s).smp.chainHead = s.smp.chainHead ∧
    (softComplete s).smp.progBase = s.smp.progBase ∧ (softComplete s).smp.noticeMask = s.smp.noticeMask ∧
    (softComplete s).smp.burstLimit = s.smp.burstLimit ∧ (softComplete s).smp.pollPeriod = s.smp.pollPeriod ∧
    (softComplete s).smp.writes = s.smp.writes ∧ (softComplete s).smp.copies = s.smp.copies ∧ (softComplete s).tr = s.tr ∧
    (softComplete s).re = s.re ∧ (softComplete s).ps = s.ps ∧ (softComplete s).bt = s.bt ∧ (softComplete s).hc = s.hc ∧
    (softComplete s).dc = s.dc ∧ (softComplete s).mr = s.mr ∧ (softComplete s).cv = s.cv ∧ (softComplete s).now = s.now ∧
    (softComplete s).freeCount = s.freeCount ∧ (softComplete s).out = s.out ∧ (softComplete s).pending = s.pending := by
  unfold softComplete
  (try dsimp only)
  (repeat' split) <;> simp

@[simp] theorem startRequest_frame (s : State) :
    (startRequest s).pins = s.pins ∧ (startRequest s).cfg = s.cfg ∧ (startRequest s).smp.chainHead = s.smp.chainHead ∧
    (startRequest s).smp.progBase = s.smp.progBase ∧ (startRequest s).smp.noticeMask = s.smp.noticeMask ∧
    (startRequest s).smp.burstLimit = s.smp.burstLimit ∧ (startRequest s).smp.pollPeriod = s.smp.pollPeriod ∧
    (startRequest s).smp.soft = s.smp.soft ∧ (startRequest s).smp.copies = s.smp.copies ∧
    (startRequest s).tr.pos = s.tr.pos ∧ (startRequest s).tr.step = s.tr.step ∧
    (startRequest s).tr.pauseReq = s.tr.pauseReq ∧ (startRequest s).re.serial = s.re.serial ∧ (startRequest s).ps = s.ps ∧
    (startRequest s).bt.splices = s.bt.splices ∧ (startRequest s).bt.pos = s.bt.pos ∧
    (startRequest s).bt.overflow = s.bt.overflow ∧ (startRequest s).bt.retiring = s.bt.retiring ∧
    (startRequest s).hc = s.hc ∧ (startRequest s).dc.nip = s.dc.nip ∧ (startRequest s).dc.valve = s.dc.valve ∧
    (startRequest s).dc.ref = s.dc.ref ∧ (startRequest s).dc.silence = s.dc.silence ∧
    (startRequest s).dc.stopKind = s.dc.stopKind ∧ (startRequest s).dc.setpoint = s.dc.setpoint ∧
    (startRequest s).dc.accel = s.dc.accel ∧ (startRequest s).mr.ccur = s.mr.ccur ∧ (startRequest s).mr.lock = s.mr.lock ∧
    (startRequest s).mr.strays = s.mr.strays ∧ (startRequest s).mr.lastRead = s.mr.lastRead ∧
    (startRequest s).mr.found = s.mr.found ∧ (startRequest s).mr.miss = s.mr.miss ∧ (startRequest s).cv = s.cv ∧
    (startRequest s).now = s.now ∧ (startRequest s).freeCount = s.freeCount ∧ (startRequest s).pending = s.pending := by
  unfold startRequest
  (try dsimp only)
  (repeat' split) <;> simp

@[simp] theorem speedZero_frame (s : State) :
    (speedZero s).pins = s.pins ∧ (speedZero s).cfg = s.cfg ∧ (speedZero s).smp.chainHead = s.smp.chainHead ∧
    (speedZero s).smp.progBase = s.smp.progBase ∧ (speedZero s).smp.noticeMask = s.smp.noticeMask ∧
    (speedZero s).smp.burstLimit = s.smp.burstLimit ∧ (speedZero s).smp.pollPeriod = s.smp.pollPeriod ∧
    (speedZero s).tr.pos = s.tr.pos ∧ (speedZero s).tr.step = s.tr.step ∧ (speedZero s).re.printEnd = s.re.printEnd ∧
    (speedZero s).re.lastStarted = s.re.lastStarted ∧ (speedZero s).re.serial = s.re.serial ∧
    (speedZero s).re.lowWater = s.re.lowWater ∧ (speedZero s).re.underruns = s.re.underruns ∧
    (speedZero s).re.gaps = s.re.gaps ∧ (speedZero s).ps.slots = s.ps.slots ∧ (speedZero s).bt.pos = s.bt.pos ∧
    (speedZero s).bt.nextNumber = s.bt.nextNumber ∧ (speedZero s).bt.retiring = s.bt.retiring ∧
    (speedZero s).hc.settle = s.hc.settle ∧ (speedZero s).hc.ton = s.hc.ton ∧ (speedZero s).hc.ramp = s.hc.ramp ∧
    (speedZero s).hc.kp = s.hc.kp ∧ (speedZero s).hc.ki = s.hc.ki ∧ (speedZero s).hc.retain = s.hc.retain ∧
    (speedZero s).mr.strays = s.mr.strays ∧ (speedZero s).cv.status = s.cv.status ∧ (speedZero s).now = s.now ∧
    (speedZero s).freeCount = s.freeCount ∧ (speedZero s).out = s.out ∧ (speedZero s).pending = s.pending := by
  unfold speedZero
  (try dsimp only)
  (repeat' split) <;> simp

@[simp] theorem speedZeroTest_frame (s : State) :
    (speedZeroTest s).pins = s.pins ∧ (speedZeroTest s).cfg = s.cfg ∧ (speedZeroTest s).smp.chainHead = s.smp.chainHead ∧
    (speedZeroTest s).smp.progBase = s.smp.progBase ∧ (speedZeroTest s).smp.noticeMask = s.smp.noticeMask ∧
    (speedZeroTest s).smp.burstLimit = s.smp.burstLimit ∧ (speedZeroTest s).smp.pollPeriod = s.smp.pollPeriod ∧
    (speedZeroTest s).tr.pos = s.tr.pos ∧ (speedZeroTest s).tr.step = s.tr.step ∧
    (speedZeroTest s).re.printEnd = s.re.printEnd ∧ (speedZeroTest s).re.lastStarted = s.re.lastStarted ∧
    (speedZeroTest s).re.serial = s.re.serial ∧ (speedZeroTest s).re.lowWater = s.re.lowWater ∧
    (speedZeroTest s).re.underruns = s.re.underruns ∧ (speedZeroTest s).re.gaps = s.re.gaps ∧
    (speedZeroTest s).ps.slots = s.ps.slots ∧ (speedZeroTest s).bt.pos = s.bt.pos ∧
    (speedZeroTest s).bt.nextNumber = s.bt.nextNumber ∧ (speedZeroTest s).bt.retiring = s.bt.retiring ∧
    (speedZeroTest s).hc.settle = s.hc.settle ∧ (speedZeroTest s).hc.ton = s.hc.ton ∧
    (speedZeroTest s).hc.ramp = s.hc.ramp ∧ (speedZeroTest s).hc.kp = s.hc.kp ∧ (speedZeroTest s).hc.ki = s.hc.ki ∧
    (speedZeroTest s).hc.retain = s.hc.retain ∧ (speedZeroTest s).mr.strays = s.mr.strays ∧
    (speedZeroTest s).cv.status = s.cv.status ∧ (speedZeroTest s).now = s.now ∧
    (speedZeroTest s).freeCount = s.freeCount ∧ (speedZeroTest s).out = s.out ∧ (speedZeroTest s).pending = s.pending := by
  unfold speedZeroTest
  (try dsimp only)
  (repeat' split) <;> simp

@[simp] theorem runningTest_frame (s : State) :
    (runningTest s).pins = s.pins ∧ (runningTest s).cfg = s.cfg ∧ (runningTest s).smp.chainHead = s.smp.chainHead ∧
    (runningTest s).smp.progBase = s.smp.progBase ∧ (runningTest s).smp.noticeMask = s.smp.noticeMask ∧
    (runningTest s).smp.burstLimit = s.smp.burstLimit ∧ (runningTest s).smp.pollPeriod = s.smp.pollPeriod ∧
    (runningTest s).smp.soft = s.smp.soft ∧ (runningTest s).smp.copies = s.smp.copies ∧
    (runningTest s).tr.pos = s.tr.pos ∧ (runningTest s).tr.step = s.tr.step ∧
    (runningTest s).tr.pauseReq = s.tr.pauseReq ∧ (runningTest s).re.serial = s.re.serial ∧ (runningTest s).ps = s.ps ∧
    (runningTest s).bt.splices = s.bt.splices ∧ (runningTest s).bt.pos = s.bt.pos ∧
    (runningTest s).bt.overflow = s.bt.overflow ∧ (runningTest s).bt.retiring = s.bt.retiring ∧
    (runningTest s).hc = s.hc ∧ (runningTest s).dc.nip = s.dc.nip ∧ (runningTest s).dc.valve = s.dc.valve ∧
    (runningTest s).dc.ref = s.dc.ref ∧ (runningTest s).dc.silence = s.dc.silence ∧
    (runningTest s).dc.stopKind = s.dc.stopKind ∧ (runningTest s).dc.setpoint = s.dc.setpoint ∧
    (runningTest s).dc.accel = s.dc.accel ∧ (runningTest s).mr.ccur = s.mr.ccur ∧ (runningTest s).mr.lock = s.mr.lock ∧
    (runningTest s).mr.strays = s.mr.strays ∧ (runningTest s).mr.lastRead = s.mr.lastRead ∧
    (runningTest s).mr.found = s.mr.found ∧ (runningTest s).mr.miss = s.mr.miss ∧ (runningTest s).cv = s.cv ∧
    (runningTest s).now = s.now ∧ (runningTest s).freeCount = s.freeCount ∧ (runningTest s).pending = s.pending := by
  unfold runningTest
  (try dsimp only)
  (repeat' split) <;> simp

@[simp] theorem nipCloseTest_frame (s : State) :
    (nipCloseTest s).pins = s.pins ∧ (nipCloseTest s).cfg = s.cfg ∧ (nipCloseTest s).smp.chainHead = s.smp.chainHead ∧
    (nipCloseTest s).smp.progBase = s.smp.progBase ∧ (nipCloseTest s).smp.noticeMask = s.smp.noticeMask ∧
    (nipCloseTest s).smp.burstLimit = s.smp.burstLimit ∧ (nipCloseTest s).smp.pollPeriod = s.smp.pollPeriod ∧
    (nipCloseTest s).smp.soft = s.smp.soft ∧ (nipCloseTest s).smp.writes = s.smp.writes ∧
    (nipCloseTest s).smp.copies = s.smp.copies ∧ (nipCloseTest s).tr = s.tr ∧ (nipCloseTest s).re = s.re ∧
    (nipCloseTest s).ps = s.ps ∧ (nipCloseTest s).bt.splices = s.bt.splices ∧ (nipCloseTest s).bt.tallies = s.bt.tallies ∧
    (nipCloseTest s).bt.pos = s.bt.pos ∧ (nipCloseTest s).bt.nextNumber = s.bt.nextNumber ∧
    (nipCloseTest s).bt.overflow = s.bt.overflow ∧ (nipCloseTest s).bt.retiring = s.bt.retiring ∧
    (nipCloseTest s).hc = s.hc ∧ (nipCloseTest s).dc.line = s.dc.line ∧ (nipCloseTest s).dc.ref = s.dc.ref ∧
    (nipCloseTest s).dc.silence = s.dc.silence ∧ (nipCloseTest s).dc.stopKind = s.dc.stopKind ∧
    (nipCloseTest s).dc.setpoint = s.dc.setpoint ∧ (nipCloseTest s).dc.accel = s.dc.accel ∧
    (nipCloseTest s).dc.startCause = s.dc.startCause ∧ (nipCloseTest s).mr = s.mr ∧ (nipCloseTest s).cv = s.cv ∧
    (nipCloseTest s).now = s.now ∧ (nipCloseTest s).freeCount = s.freeCount ∧ (nipCloseTest s).out = s.out ∧
    (nipCloseTest s).pending = s.pending := by
  unfold nipCloseTest
  (try dsimp only)
  (repeat' split) <;> simp

@[simp] theorem stepRef_frame (s : State) :
    (stepRef s).pins = s.pins ∧ (stepRef s).cfg = s.cfg ∧ (stepRef s).smp = s.smp ∧ (stepRef s).tr = s.tr ∧
    (stepRef s).re = s.re ∧ (stepRef s).ps = s.ps ∧ (stepRef s).bt = s.bt ∧ (stepRef s).hc = s.hc ∧
    (stepRef s).dc.line = s.dc.line ∧ (stepRef s).dc.nip = s.dc.nip ∧ (stepRef s).dc.valve = s.dc.valve ∧
    (stepRef s).dc.stopKind = s.dc.stopKind ∧ (stepRef s).dc.setpoint = s.dc.setpoint ∧
    (stepRef s).dc.accel = s.dc.accel ∧ (stepRef s).dc.startCause = s.dc.startCause ∧ (stepRef s).mr = s.mr ∧
    (stepRef s).cv = s.cv ∧ (stepRef s).now = s.now ∧ (stepRef s).freeCount = s.freeCount ∧ (stepRef s).out = s.out ∧
    (stepRef s).pending = s.pending := by
  unfold stepRef
  (try dsimp only)
  (repeat' split) <;> simp

@[simp] theorem refStage_frame (s : State) :
    (refStage s).pins = s.pins ∧ (refStage s).cfg = s.cfg ∧ (refStage s).smp.chainHead = s.smp.chainHead ∧
    (refStage s).smp.progBase = s.smp.progBase ∧ (refStage s).smp.noticeMask = s.smp.noticeMask ∧
    (refStage s).smp.burstLimit = s.smp.burstLimit ∧ (refStage s).smp.pollPeriod = s.smp.pollPeriod ∧
    (refStage s).tr.pos = s.tr.pos ∧ (refStage s).tr.step = s.tr.step ∧ (refStage s).re.serial = s.re.serial ∧
    (refStage s).ps.slots = s.ps.slots ∧ (refStage s).bt.pos = s.bt.pos ∧ (refStage s).bt.retiring = s.bt.retiring ∧
    (refStage s).hc.settle = s.hc.settle ∧ (refStage s).hc.ton = s.hc.ton ∧ (refStage s).hc.ramp = s.hc.ramp ∧
    (refStage s).hc.kp = s.hc.kp ∧ (refStage s).hc.ki = s.hc.ki ∧ (refStage s).hc.retain = s.hc.retain ∧
    (refStage s).mr.strays = s.mr.strays ∧ (refStage s).cv.status = s.cv.status ∧ (refStage s).now = s.now ∧
    (refStage s).freeCount = s.freeCount ∧ (refStage s).pending = s.pending := by
  unfold refStage
  (try dsimp only)
  (repeat' split) <;> simp

@[simp] theorem readStage_frame (cells : Webs LoadCell) (s : State) :
    (readStage cells s).pins = s.pins ∧ (readStage cells s).cfg = s.cfg ∧ (readStage cells s).smp = s.smp ∧
    (readStage cells s).tr = s.tr ∧ (readStage cells s).re = s.re ∧ (readStage cells s).ps = s.ps ∧
    (readStage cells s).bt = s.bt ∧ (readStage cells s).hc = s.hc ∧ (readStage cells s).dc.line = s.dc.line ∧
    (readStage cells s).dc.nip = s.dc.nip ∧ (readStage cells s).dc.valve = s.dc.valve ∧
    (readStage cells s).dc.ref = s.dc.ref ∧ (readStage cells s).dc.silence = s.dc.silence ∧
    (readStage cells s).dc.stopKind = s.dc.stopKind ∧ (readStage cells s).dc.setpoint = s.dc.setpoint ∧
    (readStage cells s).dc.accel = s.dc.accel ∧ (readStage cells s).dc.startCause = s.dc.startCause ∧
    (readStage cells s).mr = s.mr ∧ (readStage cells s).cv = s.cv ∧ (readStage cells s).now = s.now ∧
    (readStage cells s).freeCount = s.freeCount ∧ (readStage cells s).out = s.out ∧
    (readStage cells s).pending = s.pending := by
  unfold readStage
  (try dsimp only)
  (repeat' split) <;> simp

@[simp] theorem sensorStage_frame (s : State) :
    (sensorStage s).pins = s.pins ∧ (sensorStage s).cfg = s.cfg ∧ (sensorStage s).smp.chainHead = s.smp.chainHead ∧
    (sensorStage s).smp.progBase = s.smp.progBase ∧ (sensorStage s).smp.noticeMask = s.smp.noticeMask ∧
    (sensorStage s).smp.burstLimit = s.smp.burstLimit ∧ (sensorStage s).smp.pollPeriod = s.smp.pollPeriod ∧
    (sensorStage s).smp.soft = s.smp.soft ∧ (sensorStage s).smp.copies = s.smp.copies ∧
    (sensorStage s).tr.pos = s.tr.pos ∧ (sensorStage s).tr.step = s.tr.step ∧
    (sensorStage s).re.printEnd = s.re.printEnd ∧ (sensorStage s).re.lastStarted = s.re.lastStarted ∧
    (sensorStage s).re.serial = s.re.serial ∧ (sensorStage s).re.lowWater = s.re.lowWater ∧
    (sensorStage s).re.underruns = s.re.underruns ∧ (sensorStage s).re.gaps = s.re.gaps ∧ (sensorStage s).ps = s.ps ∧
    (sensorStage s).bt.splices = s.bt.splices ∧ (sensorStage s).bt.pos = s.bt.pos ∧
    (sensorStage s).bt.nextNumber = s.bt.nextNumber ∧ (sensorStage s).bt.overflow = s.bt.overflow ∧
    (sensorStage s).bt.retiring = s.bt.retiring ∧ (sensorStage s).hc = s.hc ∧ (sensorStage s).dc.ref = s.dc.ref ∧
    (sensorStage s).dc.silence = s.dc.silence ∧ (sensorStage s).dc.setpoint = s.dc.setpoint ∧
    (sensorStage s).dc.accel = s.dc.accel ∧ (sensorStage s).dc.startCause = s.dc.startCause ∧
    (sensorStage s).mr.ccur = s.mr.ccur ∧ (sensorStage s).mr.lock = s.mr.lock ∧ (sensorStage s).mr.strays = s.mr.strays ∧
    (sensorStage s).mr.lastRead = s.mr.lastRead ∧ (sensorStage s).mr.found = s.mr.found ∧
    (sensorStage s).mr.miss = s.mr.miss ∧ (sensorStage s).cv = s.cv ∧ (sensorStage s).now = s.now ∧
    (sensorStage s).freeCount = s.freeCount ∧ (sensorStage s).out = s.out ∧ (sensorStage s).pending = s.pending := by
  unfold sensorStage
  (try dsimp only)
  (repeat' split) <;> simp

@[simp] theorem loopStage_frame (s : State) :
    (loopStage s).pins = s.pins ∧ (loopStage s).cfg = s.cfg ∧ (loopStage s).smp = s.smp ∧ (loopStage s).tr = s.tr ∧
    (loopStage s).re = s.re ∧ (loopStage s).ps = s.ps ∧ (loopStage s).bt = s.bt ∧ (loopStage s).hc = s.hc ∧
    (loopStage s).dc.line = s.dc.line ∧ (loopStage s).dc.nip = s.dc.nip ∧ (loopStage s).dc.valve = s.dc.valve ∧
    (loopStage s).dc.ref = s.dc.ref ∧ (loopStage s).dc.silence = s.dc.silence ∧
    (loopStage s).dc.stopKind = s.dc.stopKind ∧ (loopStage s).dc.setpoint = s.dc.setpoint ∧
    (loopStage s).dc.accel = s.dc.accel ∧ (loopStage s).dc.startCause = s.dc.startCause ∧ (loopStage s).mr = s.mr ∧
    (loopStage s).cv = s.cv ∧ (loopStage s).now = s.now ∧ (loopStage s).freeCount = s.freeCount ∧
    (loopStage s).out = s.out ∧ (loopStage s).pending = s.pending := by
  unfold loopStage
  (try dsimp only)
  (repeat' split) <;> simp

@[simp] theorem countStage_frame (s : State) :
    (countStage s).pins = s.pins ∧ (countStage s).cfg = s.cfg ∧ (countStage s).smp = s.smp ∧ (countStage s).tr = s.tr ∧
    (countStage s).re = s.re ∧ (countStage s).ps = s.ps ∧ (countStage s).bt = s.bt ∧ (countStage s).hc = s.hc ∧
    (countStage s).dc.line = s.dc.line ∧ (countStage s).dc.nip = s.dc.nip ∧ (countStage s).dc.valve = s.dc.valve ∧
    (countStage s).dc.ref = s.dc.ref ∧ (countStage s).dc.silence = s.dc.silence ∧
    (countStage s).dc.stopKind = s.dc.stopKind ∧ (countStage s).dc.setpoint = s.dc.setpoint ∧
    (countStage s).dc.accel = s.dc.accel ∧ (countStage s).dc.startCause = s.dc.startCause ∧ (countStage s).mr = s.mr ∧
    (countStage s).cv = s.cv ∧ (countStage s).now = s.now ∧ (countStage s).freeCount = s.freeCount ∧
    (countStage s).out = s.out ∧ (countStage s).pending = s.pending := by
  unfold countStage
  (try dsimp only)
  (repeat' split) <;> simp

@[simp] theorem faultStage_frame (s : State) :
    (faultStage s).pins = s.pins ∧ (faultStage s).cfg = s.cfg ∧ (faultStage s).smp.chainHead = s.smp.chainHead ∧
    (faultStage s).smp.progBase = s.smp.progBase ∧ (faultStage s).smp.noticeMask = s.smp.noticeMask ∧
    (faultStage s).smp.burstLimit = s.smp.burstLimit ∧ (faultStage s).smp.pollPeriod = s.smp.pollPeriod ∧
    (faultStage s).smp.soft = s.smp.soft ∧ (faultStage s).smp.copies = s.smp.copies ∧ (faultStage s).tr.pos = s.tr.pos ∧
    (faultStage s).tr.step = s.tr.step ∧ (faultStage s).re.printEnd = s.re.printEnd ∧
    (faultStage s).re.lastStarted = s.re.lastStarted ∧ (faultStage s).re.serial = s.re.serial ∧
    (faultStage s).re.lowWater = s.re.lowWater ∧ (faultStage s).re.underruns = s.re.underruns ∧
    (faultStage s).re.gaps = s.re.gaps ∧ (faultStage s).ps = s.ps ∧ (faultStage s).bt.splices = s.bt.splices ∧
    (faultStage s).bt.pos = s.bt.pos ∧ (faultStage s).bt.nextNumber = s.bt.nextNumber ∧
    (faultStage s).bt.overflow = s.bt.overflow ∧ (faultStage s).bt.retiring = s.bt.retiring ∧ (faultStage s).hc = s.hc ∧
    (faultStage s).dc.ref = s.dc.ref ∧ (faultStage s).dc.silence = s.dc.silence ∧
    (faultStage s).dc.setpoint = s.dc.setpoint ∧ (faultStage s).dc.accel = s.dc.accel ∧
    (faultStage s).dc.startCause = s.dc.startCause ∧ (faultStage s).mr.ccur = s.mr.ccur ∧
    (faultStage s).mr.lock = s.mr.lock ∧ (faultStage s).mr.strays = s.mr.strays ∧
    (faultStage s).mr.lastRead = s.mr.lastRead ∧ (faultStage s).mr.found = s.mr.found ∧
    (faultStage s).mr.miss = s.mr.miss ∧ (faultStage s).cv = s.cv ∧ (faultStage s).now = s.now ∧
    (faultStage s).freeCount = s.freeCount ∧ (faultStage s).out = s.out ∧ (faultStage s).pending = s.pending := by
  unfold faultStage
  (try dsimp only)
  (repeat' split) <;> simp

@[simp] theorem driveOut_frame (s : State) :
    (driveOut s).pins = s.pins ∧ (driveOut s).cfg = s.cfg ∧ (driveOut s).smp = s.smp ∧ (driveOut s).tr = s.tr ∧
    (driveOut s).re = s.re ∧ (driveOut s).ps = s.ps ∧ (driveOut s).bt = s.bt ∧ (driveOut s).hc = s.hc ∧
    (driveOut s).dc = s.dc ∧ (driveOut s).mr = s.mr ∧ (driveOut s).cv = s.cv ∧ (driveOut s).now = s.now ∧
    (driveOut s).freeCount = s.freeCount ∧ (driveOut s).pending = s.pending := by
  unfold driveOut
  (try dsimp only)
  (repeat' split) <;> simp

@[simp] theorem tensionSample_frame (cells : Webs LoadCell) (s : State) :
    (tensionSample cells s).pins = s.pins ∧ (tensionSample cells s).cfg = s.cfg ∧
    (tensionSample cells s).smp.chainHead = s.smp.chainHead ∧ (tensionSample cells s).smp.progBase = s.smp.progBase ∧
    (tensionSample cells s).smp.noticeMask = s.smp.noticeMask ∧
    (tensionSample cells s).smp.burstLimit = s.smp.burstLimit ∧
    (tensionSample cells s).smp.pollPeriod = s.smp.pollPeriod ∧ (tensionSample cells s).tr.pos = s.tr.pos ∧
    (tensionSample cells s).tr.step = s.tr.step ∧ (tensionSample cells s).re.serial = s.re.serial ∧
    (tensionSample cells s).ps.slots = s.ps.slots ∧ (tensionSample cells s).bt.pos = s.bt.pos ∧
    (tensionSample cells s).bt.retiring = s.bt.retiring ∧ (tensionSample cells s).hc.settle = s.hc.settle ∧
    (tensionSample cells s).hc.ton = s.hc.ton ∧ (tensionSample cells s).hc.ramp = s.hc.ramp ∧
    (tensionSample cells s).hc.kp = s.hc.kp ∧ (tensionSample cells s).hc.ki = s.hc.ki ∧
    (tensionSample cells s).hc.retain = s.hc.retain ∧ (tensionSample cells s).mr.strays = s.mr.strays ∧
    (tensionSample cells s).cv.status = s.cv.status ∧ (tensionSample cells s).now = s.now ∧
    (tensionSample cells s).freeCount = s.freeCount ∧ (tensionSample cells s).pending = s.pending := by
  unfold tensionSample
  (try dsimp only)
  (repeat' split) <;> simp

@[simp] theorem webFault_frame (w : WebId) (s : State) :
    (webFault w s).pins = s.pins ∧ (webFault w s).cfg = s.cfg ∧ (webFault w s).smp.chainHead = s.smp.chainHead ∧
    (webFault w s).smp.progBase = s.smp.progBase ∧ (webFault w s).smp.noticeMask = s.smp.noticeMask ∧
    (webFault w s).smp.burstLimit = s.smp.burstLimit ∧ (webFault w s).smp.pollPeriod = s.smp.pollPeriod ∧
    (webFault w s).smp.soft = s.smp.soft ∧ (webFault w s).smp.copies = s.smp.copies ∧ (webFault w s).tr.pos = s.tr.pos ∧
    (webFault w s).tr.step = s.tr.step ∧ (webFault w s).re.printEnd = s.re.printEnd ∧
    (webFault w s).re.lastStarted = s.re.lastStarted ∧ (webFault w s).re.serial = s.re.serial ∧
    (webFault w s).re.lowWater = s.re.lowWater ∧ (webFault w s).re.underruns = s.re.underruns ∧
    (webFault w s).re.gaps = s.re.gaps ∧ (webFault w s).ps = s.ps ∧ (webFault w s).bt.splices = s.bt.splices ∧
    (webFault w s).bt.pos = s.bt.pos ∧ (webFault w s).bt.nextNumber = s.bt.nextNumber ∧
    (webFault w s).bt.overflow = s.bt.overflow ∧ (webFault w s).bt.retiring = s.bt.retiring ∧ (webFault w s).hc = s.hc ∧
    (webFault w s).dc.ref = s.dc.ref ∧ (webFault w s).dc.silence = s.dc.silence ∧
    (webFault w s).dc.setpoint = s.dc.setpoint ∧ (webFault w s).dc.accel = s.dc.accel ∧
    (webFault w s).dc.startCause = s.dc.startCause ∧ (webFault w s).mr.ccur = s.mr.ccur ∧
    (webFault w s).mr.lock = s.mr.lock ∧ (webFault w s).mr.strays = s.mr.strays ∧
    (webFault w s).mr.lastRead = s.mr.lastRead ∧ (webFault w s).mr.found = s.mr.found ∧
    (webFault w s).mr.miss = s.mr.miss ∧ (webFault w s).cv = s.cv ∧ (webFault w s).now = s.now ∧
    (webFault w s).freeCount = s.freeCount ∧ (webFault w s).out = s.out ∧ (webFault w s).pending = s.pending := by
  unfold webFault
  (try dsimp only)
  (repeat' split) <;> simp

@[simp] theorem takeSpeed_frame (ws : List Word) (s : State) :
    (takeSpeed ws s).pins = s.pins ∧ (takeSpeed ws s).cfg = s.cfg ∧ (takeSpeed ws s).smp = s.smp ∧
    (takeSpeed ws s).tr = s.tr ∧ (takeSpeed ws s).re = s.re ∧ (takeSpeed ws s).ps = s.ps ∧ (takeSpeed ws s).bt = s.bt ∧
    (takeSpeed ws s).hc = s.hc ∧ (takeSpeed ws s).dc.line = s.dc.line ∧ (takeSpeed ws s).dc.nip = s.dc.nip ∧
    (takeSpeed ws s).dc.valve = s.dc.valve ∧ (takeSpeed ws s).dc.ref = s.dc.ref ∧
    (takeSpeed ws s).dc.silence = s.dc.silence ∧ (takeSpeed ws s).dc.stopKind = s.dc.stopKind ∧
    (takeSpeed ws s).dc.startCause = s.dc.startCause ∧ (takeSpeed ws s).mr = s.mr ∧ (takeSpeed ws s).cv = s.cv ∧
    (takeSpeed ws s).now = s.now ∧ (takeSpeed ws s).freeCount = s.freeCount ∧ (takeSpeed ws s).out = s.out ∧
    (takeSpeed ws s).pending = s.pending := by
  unfold takeSpeed
  (try dsimp only)
  (repeat' split) <;> simp

@[simp] theorem takeTension_frame (ws : List Word) (s : State) :
    (takeTension ws s).pins = s.pins ∧ (takeTension ws s).cfg = s.cfg ∧ (takeTension ws s).smp = s.smp ∧
    (takeTension ws s).tr = s.tr ∧ (takeTension ws s).re = s.re ∧ (takeTension ws s).ps = s.ps ∧
    (takeTension ws s).bt = s.bt ∧ (takeTension ws s).hc = s.hc ∧ (takeTension ws s).dc.line = s.dc.line ∧
    (takeTension ws s).dc.nip = s.dc.nip ∧ (takeTension ws s).dc.valve = s.dc.valve ∧
    (takeTension ws s).dc.ref = s.dc.ref ∧ (takeTension ws s).dc.silence = s.dc.silence ∧
    (takeTension ws s).dc.stopKind = s.dc.stopKind ∧ (takeTension ws s).dc.setpoint = s.dc.setpoint ∧
    (takeTension ws s).dc.accel = s.dc.accel ∧ (takeTension ws s).dc.startCause = s.dc.startCause ∧
    (takeTension ws s).mr = s.mr ∧ (takeTension ws s).cv = s.cv ∧ (takeTension ws s).now = s.now ∧
    (takeTension ws s).freeCount = s.freeCount ∧ (takeTension ws s).out = s.out ∧ (takeTension ws s).pending = s.pending := by
  unfold takeTension
  (try dsimp only)
  (repeat' split) <;> simp

@[simp] theorem takeStop_frame (s : State) :
    (takeStop s).pins = s.pins ∧ (takeStop s).cfg = s.cfg ∧ (takeStop s).smp.chainHead = s.smp.chainHead ∧
    (takeStop s).smp.progBase = s.smp.progBase ∧ (takeStop s).smp.noticeMask = s.smp.noticeMask ∧
    (takeStop s).smp.burstLimit = s.smp.burstLimit ∧ (takeStop s).smp.pollPeriod = s.smp.pollPeriod ∧
    (takeStop s).smp.soft = s.smp.soft ∧ (takeStop s).smp.copies = s.smp.copies ∧ (takeStop s).tr.pos = s.tr.pos ∧
    (takeStop s).tr.step = s.tr.step ∧ (takeStop s).tr.pauseReq = s.tr.pauseReq ∧
    (takeStop s).re.printEnd = s.re.printEnd ∧ (takeStop s).re.lastStarted = s.re.lastStarted ∧
    (takeStop s).re.serial = s.re.serial ∧ (takeStop s).re.lowWater = s.re.lowWater ∧
    (takeStop s).re.underruns = s.re.underruns ∧ (takeStop s).re.gaps = s.re.gaps ∧ (takeStop s).ps = s.ps ∧
    (takeStop s).bt.splices = s.bt.splices ∧ (takeStop s).bt.pos = s.bt.pos ∧
    (takeStop s).bt.nextNumber = s.bt.nextNumber ∧ (takeStop s).bt.overflow = s.bt.overflow ∧
    (takeStop s).bt.retiring = s.bt.retiring ∧ (takeStop s).hc = s.hc ∧ (takeStop s).dc.ref = s.dc.ref ∧
    (takeStop s).dc.silence = s.dc.silence ∧ (takeStop s).dc.setpoint = s.dc.setpoint ∧
    (takeStop s).dc.accel = s.dc.accel ∧ (takeStop s).dc.startCause = s.dc.startCause ∧ (takeStop s).mr.ccur = s.mr.ccur ∧
    (takeStop s).mr.lock = s.mr.lock ∧ (takeStop s).mr.strays = s.mr.strays ∧ (takeStop s).mr.lastRead = s.mr.lastRead ∧
    (takeStop s).mr.found = s.mr.found ∧ (takeStop s).mr.miss = s.mr.miss ∧ (takeStop s).cv = s.cv ∧
    (takeStop s).now = s.now ∧ (takeStop s).freeCount = s.freeCount ∧ (takeStop s).out = s.out ∧
    (takeStop s).pending = s.pending := by
  unfold takeStop
  (try dsimp only)
  (repeat' split) <;> simp

@[simp] theorem powerStop_frame (s : State) :
    (powerStop s).pins = s.pins ∧ (powerStop s).cfg = s.cfg ∧ (powerStop s).smp.chainHead = s.smp.chainHead ∧
    (powerStop s).smp.progBase = s.smp.progBase ∧ (powerStop s).smp.noticeMask = s.smp.noticeMask ∧
    (powerStop s).smp.burstLimit = s.smp.burstLimit ∧ (powerStop s).smp.pollPeriod = s.smp.pollPeriod ∧
    (powerStop s).tr.pos = s.tr.pos ∧ (powerStop s).tr.step = s.tr.step ∧ (powerStop s).re.printEnd = s.re.printEnd ∧
    (powerStop s).re.lastStarted = s.re.lastStarted ∧ (powerStop s).re.serial = s.re.serial ∧
    (powerStop s).re.lowWater = s.re.lowWater ∧ (powerStop s).re.underruns = s.re.underruns ∧
    (powerStop s).re.gaps = s.re.gaps ∧ (powerStop s).ps.slots = s.ps.slots ∧ (powerStop s).bt.pos = s.bt.pos ∧
    (powerStop s).bt.nextNumber = s.bt.nextNumber ∧ (powerStop s).bt.retiring = s.bt.retiring ∧
    (powerStop s).hc.settle = s.hc.settle ∧ (powerStop s).hc.ton = s.hc.ton ∧ (powerStop s).hc.ramp = s.hc.ramp ∧
    (powerStop s).hc.kp = s.hc.kp ∧ (powerStop s).hc.ki = s.hc.ki ∧ (powerStop s).hc.retain = s.hc.retain ∧
    (powerStop s).mr.strays = s.mr.strays ∧ (powerStop s).cv.status = s.cv.status ∧ (powerStop s).now = s.now ∧
    (powerStop s).freeCount = s.freeCount ∧ (powerStop s).out = s.out ∧ (powerStop s).pending = s.pending := by
  unfold powerStop
  (try dsimp only)
  (repeat' split) <;> simp

@[simp] theorem mainsLoss_frame (s : State) :
    (mainsLoss s).pins.powerGood = s.pins.powerGood ∧ (mainsLoss s).cfg = s.cfg ∧
    (mainsLoss s).smp.chainHead = s.smp.chainHead ∧ (mainsLoss s).smp.progBase = s.smp.progBase ∧
    (mainsLoss s).smp.noticeMask = s.smp.noticeMask ∧ (mainsLoss s).smp.burstLimit = s.smp.burstLimit ∧
    (mainsLoss s).smp.pollPeriod = s.smp.pollPeriod ∧ (mainsLoss s).tr.pos = s.tr.pos ∧
    (mainsLoss s).tr.step = s.tr.step ∧ (mainsLoss s).re.printEnd = s.re.printEnd ∧
    (mainsLoss s).re.lastStarted = s.re.lastStarted ∧ (mainsLoss s).re.serial = s.re.serial ∧
    (mainsLoss s).re.lowWater = s.re.lowWater ∧ (mainsLoss s).re.underruns = s.re.underruns ∧
    (mainsLoss s).re.gaps = s.re.gaps ∧ (mainsLoss s).ps.slots = s.ps.slots ∧ (mainsLoss s).bt.pos = s.bt.pos ∧
    (mainsLoss s).bt.nextNumber = s.bt.nextNumber ∧ (mainsLoss s).bt.retiring = s.bt.retiring ∧
    (mainsLoss s).hc.settle = s.hc.settle ∧ (mainsLoss s).hc.ton = s.hc.ton ∧ (mainsLoss s).hc.ramp = s.hc.ramp ∧
    (mainsLoss s).hc.kp = s.hc.kp ∧ (mainsLoss s).hc.ki = s.hc.ki ∧ (mainsLoss s).hc.retain = s.hc.retain ∧
    (mainsLoss s).mr.strays = s.mr.strays ∧ (mainsLoss s).cv.status = s.cv.status ∧ (mainsLoss s).now = s.now ∧
    (mainsLoss s).freeCount = s.freeCount ∧ (mainsLoss s).out = s.out ∧ (mainsLoss s).pending = s.pending := by
  unfold mainsLoss
  (try dsimp only)
  (repeat' split) <;> simp

@[simp] theorem mainsReturn_frame (s : State) :
    (mainsReturn s).pins.powerGood = s.pins.powerGood ∧ (mainsReturn s).cfg = s.cfg ∧
    (mainsReturn s).smp.chainHead = s.smp.chainHead ∧ (mainsReturn s).smp.progBase = s.smp.progBase ∧
    (mainsReturn s).smp.noticeMask = s.smp.noticeMask ∧ (mainsReturn s).smp.burstLimit = s.smp.burstLimit ∧
    (mainsReturn s).smp.pollPeriod = s.smp.pollPeriod ∧ (mainsReturn s).smp.soft = s.smp.soft ∧
    (mainsReturn s).smp.copies = s.smp.copies ∧ (mainsReturn s).tr.reader = s.tr.reader ∧
    (mainsReturn s).tr.pos = s.tr.pos ∧ (mainsReturn s).tr.step = s.tr.step ∧
    (mainsReturn s).tr.pauseReq = s.tr.pauseReq ∧ (mainsReturn s).tr.haltReq = s.tr.haltReq ∧ (mainsReturn s).re = s.re ∧
    (mainsReturn s).ps = s.ps ∧ (mainsReturn s).bt = s.bt ∧ (mainsReturn s).hc = s.hc ∧
    (mainsReturn s).dc.nip = s.dc.nip ∧ (mainsReturn s).dc.valve = s.dc.valve ∧ (mainsReturn s).dc.ref = s.dc.ref ∧
    (mainsReturn s).dc.silence = s.dc.silence ∧ (mainsReturn s).dc.stopKind = s.dc.stopKind ∧
    (mainsReturn s).dc.setpoint = s.dc.setpoint ∧ (mainsReturn s).dc.accel = s.dc.accel ∧
    (mainsReturn s).dc.startCause = s.dc.startCause ∧ (mainsReturn s).mr = s.mr ∧ (mainsReturn s).cv = s.cv ∧
    (mainsReturn s).now = s.now ∧ (mainsReturn s).freeCount = s.freeCount ∧ (mainsReturn s).out = s.out ∧
    (mainsReturn s).pending = s.pending := by
  unfold mainsReturn
  (try dsimp only)
  (repeat' split) <;> simp

@[simp] theorem nipSwitches_frame (s : State) :
    (nipSwitches s).pins = s.pins ∧ (nipSwitches s).cfg = s.cfg ∧ (nipSwitches s).smp.chainHead = s.smp.chainHead ∧
    (nipSwitches s).smp.progBase = s.smp.progBase ∧ (nipSwitches s).smp.noticeMask = s.smp.noticeMask ∧
    (nipSwitches s).smp.burstLimit = s.smp.burstLimit ∧ (nipSwitches s).smp.pollPeriod = s.smp.pollPeriod ∧
    (nipSwitches s).smp.soft = s.smp.soft ∧ (nipSwitches s).smp.copies = s.smp.copies ∧
    (nipSwitches s).tr.pos = s.tr.pos ∧ (nipSwitches s).tr.step = s.tr.step ∧ (nipSwitches s).re.serial = s.re.serial ∧
    (nipSwitches s).ps = s.ps ∧ (nipSwitches s).bt.splices = s.bt.splices ∧ (nipSwitches s).bt.pos = s.bt.pos ∧
    (nipSwitches s).bt.overflow = s.bt.overflow ∧ (nipSwitches s).bt.retiring = s.bt.retiring ∧
    (nipSwitches s).hc = s.hc ∧ (nipSwitches s).dc.ref = s.dc.ref ∧ (nipSwitches s).dc.silence = s.dc.silence ∧
    (nipSwitches s).dc.setpoint = s.dc.setpoint ∧ (nipSwitches s).dc.accel = s.dc.accel ∧
    (nipSwitches s).mr.ccur = s.mr.ccur ∧ (nipSwitches s).mr.lock = s.mr.lock ∧ (nipSwitches s).mr.strays = s.mr.strays ∧
    (nipSwitches s).mr.lastRead = s.mr.lastRead ∧ (nipSwitches s).mr.found = s.mr.found ∧
    (nipSwitches s).mr.miss = s.mr.miss ∧ (nipSwitches s).cv = s.cv ∧ (nipSwitches s).now = s.now ∧
    (nipSwitches s).freeCount = s.freeCount ∧ (nipSwitches s).pending = s.pending := by
  unfold nipSwitches
  (try dsimp only)
  (repeat' split) <;> simp

@[simp] theorem nipTimeout_frame (s : State) :
    (nipTimeout s).pins = s.pins ∧ (nipTimeout s).cfg = s.cfg ∧ (nipTimeout s).smp.chainHead = s.smp.chainHead ∧
    (nipTimeout s).smp.progBase = s.smp.progBase ∧ (nipTimeout s).smp.noticeMask = s.smp.noticeMask ∧
    (nipTimeout s).smp.burstLimit = s.smp.burstLimit ∧ (nipTimeout s).smp.pollPeriod = s.smp.pollPeriod ∧
    (nipTimeout s).smp.soft = s.smp.soft ∧ (nipTimeout s).smp.copies = s.smp.copies ∧ (nipTimeout s).tr.pos = s.tr.pos ∧
    (nipTimeout s).tr.step = s.tr.step ∧ (nipTimeout s).re.printEnd = s.re.printEnd ∧
    (nipTimeout s).re.lastStarted = s.re.lastStarted ∧ (nipTimeout s).re.serial = s.re.serial ∧
    (nipTimeout s).re.lowWater = s.re.lowWater ∧ (nipTimeout s).re.underruns = s.re.underruns ∧
    (nipTimeout s).re.gaps = s.re.gaps ∧ (nipTimeout s).ps = s.ps ∧ (nipTimeout s).bt.splices = s.bt.splices ∧
    (nipTimeout s).bt.pos = s.bt.pos ∧ (nipTimeout s).bt.nextNumber = s.bt.nextNumber ∧
    (nipTimeout s).bt.overflow = s.bt.overflow ∧ (nipTimeout s).bt.retiring = s.bt.retiring ∧ (nipTimeout s).hc = s.hc ∧
    (nipTimeout s).dc.ref = s.dc.ref ∧ (nipTimeout s).dc.silence = s.dc.silence ∧
    (nipTimeout s).dc.setpoint = s.dc.setpoint ∧ (nipTimeout s).dc.accel = s.dc.accel ∧
    (nipTimeout s).dc.startCause = s.dc.startCause ∧ (nipTimeout s).mr.ccur = s.mr.ccur ∧
    (nipTimeout s).mr.lock = s.mr.lock ∧ (nipTimeout s).mr.strays = s.mr.strays ∧
    (nipTimeout s).mr.lastRead = s.mr.lastRead ∧ (nipTimeout s).mr.found = s.mr.found ∧
    (nipTimeout s).mr.miss = s.mr.miss ∧ (nipTimeout s).cv = s.cv ∧ (nipTimeout s).now = s.now ∧
    (nipTimeout s).freeCount = s.freeCount ∧ (nipTimeout s).out = s.out ∧ (nipTimeout s).pending = s.pending := by
  unfold nipTimeout
  (try dsimp only)
  (repeat' split) <;> simp

@[simp] theorem nipHoldTest_frame (s : State) :
    (nipHoldTest s).pins = s.pins ∧ (nipHoldTest s).cfg = s.cfg ∧ (nipHoldTest s).smp.chainHead = s.smp.chainHead ∧
    (nipHoldTest s).smp.progBase = s.smp.progBase ∧ (nipHoldTest s).smp.noticeMask = s.smp.noticeMask ∧
    (nipHoldTest s).smp.burstLimit = s.smp.burstLimit ∧ (nipHoldTest s).smp.pollPeriod = s.smp.pollPeriod ∧
    (nipHoldTest s).smp.soft = s.smp.soft ∧ (nipHoldTest s).smp.copies = s.smp.copies ∧
    (nipHoldTest s).tr.pos = s.tr.pos ∧ (nipHoldTest s).tr.step = s.tr.step ∧
    (nipHoldTest s).tr.pauseReq = s.tr.pauseReq ∧ (nipHoldTest s).re.printEnd = s.re.printEnd ∧
    (nipHoldTest s).re.lastStarted = s.re.lastStarted ∧ (nipHoldTest s).re.serial = s.re.serial ∧
    (nipHoldTest s).re.lowWater = s.re.lowWater ∧ (nipHoldTest s).re.underruns = s.re.underruns ∧
    (nipHoldTest s).re.gaps = s.re.gaps ∧ (nipHoldTest s).ps = s.ps ∧ (nipHoldTest s).bt.splices = s.bt.splices ∧
    (nipHoldTest s).bt.pos = s.bt.pos ∧ (nipHoldTest s).bt.nextNumber = s.bt.nextNumber ∧
    (nipHoldTest s).bt.overflow = s.bt.overflow ∧ (nipHoldTest s).bt.retiring = s.bt.retiring ∧
    (nipHoldTest s).hc = s.hc ∧ (nipHoldTest s).dc.ref = s.dc.ref ∧ (nipHoldTest s).dc.silence = s.dc.silence ∧
    (nipHoldTest s).dc.setpoint = s.dc.setpoint ∧ (nipHoldTest s).dc.accel = s.dc.accel ∧
    (nipHoldTest s).dc.startCause = s.dc.startCause ∧ (nipHoldTest s).mr.ccur = s.mr.ccur ∧
    (nipHoldTest s).mr.lock = s.mr.lock ∧ (nipHoldTest s).mr.strays = s.mr.strays ∧
    (nipHoldTest s).mr.lastRead = s.mr.lastRead ∧ (nipHoldTest s).mr.found = s.mr.found ∧
    (nipHoldTest s).mr.miss = s.mr.miss ∧ (nipHoldTest s).cv = s.cv ∧ (nipHoldTest s).now = s.now ∧
    (nipHoldTest s).freeCount = s.freeCount ∧ (nipHoldTest s).out = s.out ∧ (nipHoldTest s).pending = s.pending := by
  unfold nipHoldTest
  (try dsimp only)
  (repeat' split) <;> simp

@[simp] theorem stretchUpdate_frame (s : State) :
    (stretchUpdate s).pins = s.pins ∧ (stretchUpdate s).cfg = s.cfg ∧ (stretchUpdate s).smp = s.smp ∧
    (stretchUpdate s).tr = s.tr ∧ (stretchUpdate s).re = s.re ∧ (stretchUpdate s).ps = s.ps ∧
    (stretchUpdate s).bt = s.bt ∧ (stretchUpdate s).hc = s.hc ∧ (stretchUpdate s).dc.line = s.dc.line ∧
    (stretchUpdate s).dc.nip = s.dc.nip ∧ (stretchUpdate s).dc.valve = s.dc.valve ∧ (stretchUpdate s).dc.ref = s.dc.ref ∧
    (stretchUpdate s).dc.silence = s.dc.silence ∧ (stretchUpdate s).dc.stopKind = s.dc.stopKind ∧
    (stretchUpdate s).dc.setpoint = s.dc.setpoint ∧ (stretchUpdate s).dc.accel = s.dc.accel ∧
    (stretchUpdate s).dc.startCause = s.dc.startCause ∧ (stretchUpdate s).mr = s.mr ∧ (stretchUpdate s).cv = s.cv ∧
    (stretchUpdate s).now = s.now ∧ (stretchUpdate s).freeCount = s.freeCount ∧ (stretchUpdate s).out = s.out ∧
    (stretchUpdate s).pending = s.pending := by
  unfold stretchUpdate
  (try dsimp only)
  (repeat' split) <;> simp

@[simp] theorem encoderLoss_frame (e : EncoderId) (s : State) :
    (encoderLoss e s).pins = s.pins ∧ (encoderLoss e s).cfg = s.cfg ∧ (encoderLoss e s).smp.chainHead = s.smp.chainHead ∧
    (encoderLoss e s).smp.progBase = s.smp.progBase ∧ (encoderLoss e s).smp.noticeMask = s.smp.noticeMask ∧
    (encoderLoss e s).smp.burstLimit = s.smp.burstLimit ∧ (encoderLoss e s).smp.pollPeriod = s.smp.pollPeriod ∧
    (encoderLoss e s).smp.soft = s.smp.soft ∧ (encoderLoss e s).smp.copies = s.smp.copies ∧
    (encoderLoss e s).tr.pos = s.tr.pos ∧ (encoderLoss e s).tr.step = s.tr.step ∧
    (encoderLoss e s).re.printEnd = s.re.printEnd ∧ (encoderLoss e s).re.lastStarted = s.re.lastStarted ∧
    (encoderLoss e s).re.serial = s.re.serial ∧ (encoderLoss e s).re.lowWater = s.re.lowWater ∧
    (encoderLoss e s).re.underruns = s.re.underruns ∧ (encoderLoss e s).re.gaps = s.re.gaps ∧
    (encoderLoss e s).ps = s.ps ∧ (encoderLoss e s).bt.splices = s.bt.splices ∧ (encoderLoss e s).bt.pos = s.bt.pos ∧
    (encoderLoss e s).bt.nextNumber = s.bt.nextNumber ∧ (encoderLoss e s).bt.overflow = s.bt.overflow ∧
    (encoderLoss e s).bt.retiring = s.bt.retiring ∧ (encoderLoss e s).hc = s.hc ∧ (encoderLoss e s).dc.ref = s.dc.ref ∧
    (encoderLoss e s).dc.silence = s.dc.silence ∧ (encoderLoss e s).dc.setpoint = s.dc.setpoint ∧
    (encoderLoss e s).dc.accel = s.dc.accel ∧ (encoderLoss e s).dc.startCause = s.dc.startCause ∧
    (encoderLoss e s).mr.ccur = s.mr.ccur ∧ (encoderLoss e s).mr.lock = s.mr.lock ∧
    (encoderLoss e s).mr.strays = s.mr.strays ∧ (encoderLoss e s).mr.lastRead = s.mr.lastRead ∧
    (encoderLoss e s).mr.found = s.mr.found ∧ (encoderLoss e s).mr.miss = s.mr.miss ∧ (encoderLoss e s).cv = s.cv ∧
    (encoderLoss e s).now = s.now ∧ (encoderLoss e s).freeCount = s.freeCount ∧ (encoderLoss e s).out = s.out ∧
    (encoderLoss e s).pending = s.pending := by
  unfold encoderLoss
  (try dsimp only)
  (repeat' split) <;> simp

@[simp] theorem paperMoved_frame (s : State) :
    (paperMoved s).pins = s.pins ∧ (paperMoved s).cfg = s.cfg ∧ (paperMoved s).smp.chainHead = s.smp.chainHead ∧
    (paperMoved s).smp.progBase = s.smp.progBase ∧ (paperMoved s).smp.noticeMask = s.smp.noticeMask ∧
    (paperMoved s).smp.burstLimit = s.smp.burstLimit ∧ (paperMoved s).smp.pollPeriod = s.smp.pollPeriod ∧
    (paperMoved s).smp.soft = s.smp.soft ∧ (paperMoved s).smp.copies = s.smp.copies ∧ (paperMoved s).tr.pos = s.tr.pos ∧
    (paperMoved s).tr.step = s.tr.step ∧ (paperMoved s).tr.pauseReq = s.tr.pauseReq ∧
    (paperMoved s).re.serial = s.re.serial ∧ (paperMoved s).ps = s.ps ∧ (paperMoved s).bt.pos = s.bt.pos ∧
    (paperMoved s).hc = s.hc ∧ (paperMoved s).dc.nip = s.dc.nip ∧ (paperMoved s).dc.valve = s.dc.valve ∧
    (paperMoved s).dc.ref = s.dc.ref ∧ (paperMoved s).dc.silence = s.dc.silence ∧
    (paperMoved s).dc.stopKind = s.dc.stopKind ∧ (paperMoved s).dc.setpoint = s.dc.setpoint ∧
    (paperMoved s).dc.accel = s.dc.accel ∧ (paperMoved s).mr.ccur = s.mr.ccur ∧ (paperMoved s).mr.strays = s.mr.strays ∧
    (paperMoved s).mr.lastRead = s.mr.lastRead ∧ (paperMoved s).cv.drift = s.cv.drift ∧
    (paperMoved s).cv.status = s.cv.status ∧ (paperMoved s).now = s.now ∧ (paperMoved s).pending = s.pending := by
  unfold paperMoved
  (try dsimp only)
  (repeat' split) <;> simp

@[simp] theorem encoderPulse_frame (e : EncoderId) (forward : Bool) (s : State) :
    (encoderPulse e forward s).pins = s.pins ∧ (encoderPulse e forward s).cfg = s.cfg ∧
    (encoderPulse e forward s).smp.chainHead = s.smp.chainHead ∧
    (encoderPulse e forward s).smp.progBase = s.smp.progBase ∧
    (encoderPulse e forward s).smp.noticeMask = s.smp.noticeMask ∧
    (encoderPulse e forward s).smp.burstLimit = s.smp.burstLimit ∧
    (encoderPulse e forward s).smp.pollPeriod = s.smp.pollPeriod ∧ (encoderPulse e forward s).smp.soft = s.smp.soft ∧
    (encoderPulse e forward s).smp.copies = s.smp.copies ∧ (encoderPulse e forward s).tr.pos = s.tr.pos ∧
    (encoderPulse e forward s).tr.step = s.tr.step ∧ (encoderPulse e forward s).tr.pauseReq = s.tr.pauseReq ∧
    (encoderPulse e forward s).re.serial = s.re.serial ∧ (encoderPulse e forward s).ps = s.ps ∧
    (encoderPulse e forward s).hc = s.hc ∧ (encoderPulse e forward s).dc.nip = s.dc.nip ∧
    (encoderPulse e forward s).dc.valve = s.dc.valve ∧ (encoderPulse e forward s).dc.ref = s.dc.ref ∧
    (encoderPulse e forward s).dc.stopKind = s.dc.stopKind ∧ (encoderPulse e forward s).dc.setpoint = s.dc.setpoint ∧
    (encoderPulse e forward s).dc.accel = s.dc.accel ∧ (encoderPulse e forward s).mr.ccur = s.mr.ccur ∧
    (encoderPulse e forward s).mr.strays = s.mr.strays ∧ (encoderPulse e forward s).mr.lastRead = s.mr.lastRead ∧
    (encoderPulse e forward s).cv.drift = s.cv.drift ∧ (encoderPulse e forward s).cv.status = s.cv.status ∧
    (encoderPulse e forward s).now = s.now ∧ (encoderPulse e forward s).pending = s.pending := by
  unfold encoderPulse
  (try dsimp only)
  (repeat' split) <;> simp

@[simp] theorem clearLine_frame (s : State) :
    (clearLine s).pins = s.pins ∧ (clearLine s).cfg = s.cfg ∧ (clearLine s).smp.chainHead = s.smp.chainHead ∧
    (clearLine s).smp.progBase = s.smp.progBase ∧ (clearLine s).smp.noticeMask = s.smp.noticeMask ∧
    (clearLine s).smp.burstLimit = s.smp.burstLimit ∧ (clearLine s).smp.pollPeriod = s.smp.pollPeriod ∧
    (clearLine s).smp.soft = s.smp.soft ∧ (clearLine s).smp.copies = s.smp.copies ∧
    (clearLine s).tr.reader = s.tr.reader ∧ (clearLine s).tr.pos = s.tr.pos ∧ (clearLine s).tr.step = s.tr.step ∧
    (clearLine s).tr.pauseReq = s.tr.pauseReq ∧ (clearLine s).tr.haltReq = s.tr.haltReq ∧ (clearLine s).re = s.re ∧
    (clearLine s).ps = s.ps ∧ (clearLine s).bt = s.bt ∧ (clearLine s).hc = s.hc ∧ (clearLine s).dc.nip = s.dc.nip ∧
    (clearLine s).dc.valve = s.dc.valve ∧ (clearLine s).dc.ref = s.dc.ref ∧ (clearLine s).dc.silence = s.dc.silence ∧
    (clearLine s).dc.stopKind = s.dc.stopKind ∧ (clearLine s).dc.setpoint = s.dc.setpoint ∧
    (clearLine s).dc.accel = s.dc.accel ∧ (clearLine s).dc.startCause = s.dc.startCause ∧ (clearLine s).mr = s.mr ∧
    (clearLine s).cv = s.cv ∧ (clearLine s).now = s.now ∧ (clearLine s).freeCount = s.freeCount ∧
    (clearLine s).out = s.out ∧ (clearLine s).pending = s.pending := by
  unfold clearLine
  (try dsimp only)
  (repeat' split) <;> simp

@[simp] theorem clearNip_frame (s : State) :
    (clearNip s).pins = s.pins ∧ (clearNip s).cfg = s.cfg ∧ (clearNip s).smp.chainHead = s.smp.chainHead ∧
    (clearNip s).smp.progBase = s.smp.progBase ∧ (clearNip s).smp.noticeMask = s.smp.noticeMask ∧
    (clearNip s).smp.burstLimit = s.smp.burstLimit ∧ (clearNip s).smp.pollPeriod = s.smp.pollPeriod ∧
    (clearNip s).smp.soft = s.smp.soft ∧ (clearNip s).smp.writes = s.smp.writes ∧ (clearNip s).smp.copies = s.smp.copies ∧
    (clearNip s).tr = s.tr ∧ (clearNip s).re = s.re ∧ (clearNip s).ps = s.ps ∧ (clearNip s).bt.splices = s.bt.splices ∧
    (clearNip s).bt.tallies = s.bt.tallies ∧ (clearNip s).bt.pos = s.bt.pos ∧
    (clearNip s).bt.nextNumber = s.bt.nextNumber ∧ (clearNip s).bt.overflow = s.bt.overflow ∧
    (clearNip s).bt.retiring = s.bt.retiring ∧ (clearNip s).hc = s.hc ∧ (clearNip s).dc.line = s.dc.line ∧
    (clearNip s).dc.valve = s.dc.valve ∧ (clearNip s).dc.ref = s.dc.ref ∧ (clearNip s).dc.silence = s.dc.silence ∧
    (clearNip s).dc.stopKind = s.dc.stopKind ∧ (clearNip s).dc.setpoint = s.dc.setpoint ∧
    (clearNip s).dc.accel = s.dc.accel ∧ (clearNip s).dc.startCause = s.dc.startCause ∧ (clearNip s).mr = s.mr ∧
    (clearNip s).cv = s.cv ∧ (clearNip s).now = s.now ∧ (clearNip s).freeCount = s.freeCount ∧ (clearNip s).out = s.out ∧
    (clearNip s).pending = s.pending := by
  unfold clearNip
  (try dsimp only)
  (repeat' split) <;> simp

@[simp] theorem clearPause_frame (s : State) :
    (clearPause s).pins = s.pins ∧ (clearPause s).cfg = s.cfg ∧ (clearPause s).smp.chainHead = s.smp.chainHead ∧
    (clearPause s).smp.progBase = s.smp.progBase ∧ (clearPause s).smp.noticeMask = s.smp.noticeMask ∧
    (clearPause s).smp.burstLimit = s.smp.burstLimit ∧ (clearPause s).smp.pollPeriod = s.smp.pollPeriod ∧
    (clearPause s).smp.soft = s.smp.soft ∧ (clearPause s).smp.writes = s.smp.writes ∧
    (clearPause s).smp.copies = s.smp.copies ∧ (clearPause s).tr.pos = s.tr.pos ∧ (clearPause s).tr.step = s.tr.step ∧
    (clearPause s).tr.ticket = s.tr.ticket ∧ (clearPause s).re = s.re ∧ (clearPause s).ps = s.ps ∧
    (clearPause s).bt = s.bt ∧ (clearPause s).hc = s.hc ∧ (clearPause s).dc = s.dc ∧ (clearPause s).mr = s.mr ∧
    (clearPause s).cv = s.cv ∧ (clearPause s).now = s.now ∧ (clearPause s).freeCount = s.freeCount ∧
    (clearPause s).out = s.out ∧ (clearPause s).pending = s.pending := by
  unfold clearPause
  (try dsimp only)
  (repeat' split) <;> simp

@[simp] theorem clearTrip_frame (s : State) :
    (clearTrip s).pins = s.pins ∧ (clearTrip s).cfg = s.cfg ∧ (clearTrip s).smp.chainHead = s.smp.chainHead ∧
    (clearTrip s).smp.progBase = s.smp.progBase ∧ (clearTrip s).smp.noticeMask = s.smp.noticeMask ∧
    (clearTrip s).smp.burstLimit = s.smp.burstLimit ∧ (clearTrip s).smp.pollPeriod = s.smp.pollPeriod ∧
    (clearTrip s).smp.soft = s.smp.soft ∧ (clearTrip s).smp.copies = s.smp.copies ∧ (clearTrip s).tr.pos = s.tr.pos ∧
    (clearTrip s).tr.step = s.tr.step ∧ (clearTrip s).re.printEnd = s.re.printEnd ∧
    (clearTrip s).re.lastStarted = s.re.lastStarted ∧ (clearTrip s).re.serial = s.re.serial ∧
    (clearTrip s).re.lowWater = s.re.lowWater ∧ (clearTrip s).re.underruns = s.re.underruns ∧
    (clearTrip s).re.gaps = s.re.gaps ∧ (clearTrip s).ps = s.ps ∧ (clearTrip s).bt.splices = s.bt.splices ∧
    (clearTrip s).bt.pos = s.bt.pos ∧ (clearTrip s).bt.nextNumber = s.bt.nextNumber ∧
    (clearTrip s).bt.overflow = s.bt.overflow ∧ (clearTrip s).bt.retiring = s.bt.retiring ∧
    (clearTrip s).hc.ton = s.hc.ton ∧ (clearTrip s).hc.ramp = s.hc.ramp ∧ (clearTrip s).hc.kp = s.hc.kp ∧
    (clearTrip s).hc.ki = s.hc.ki ∧ (clearTrip s).hc.retain = s.hc.retain ∧ (clearTrip s).dc.valve = s.dc.valve ∧
    (clearTrip s).dc.ref = s.dc.ref ∧ (clearTrip s).dc.silence = s.dc.silence ∧
    (clearTrip s).dc.stopKind = s.dc.stopKind ∧ (clearTrip s).dc.setpoint = s.dc.setpoint ∧
    (clearTrip s).dc.accel = s.dc.accel ∧ (clearTrip s).mr.ccur = s.mr.ccur ∧ (clearTrip s).mr.lock = s.mr.lock ∧
    (clearTrip s).mr.strays = s.mr.strays ∧ (clearTrip s).mr.lastRead = s.mr.lastRead ∧
    (clearTrip s).mr.found = s.mr.found ∧ (clearTrip s).mr.miss = s.mr.miss ∧ (clearTrip s).cv = s.cv ∧
    (clearTrip s).now = s.now ∧ (clearTrip s).freeCount = s.freeCount ∧ (clearTrip s).out = s.out ∧
    (clearTrip s).pending = s.pending := by
  unfold clearTrip
  (try dsimp only)
  (repeat' split) <;> simp

end Sys2Proof.Machine
end

