-- ==== Sys2Proof/Laws/FramesC.lean ====
section
/-! SUPPORT. Sys2Proof/Laws/FramesC.lean: for each operation of Chain, Port, Power, Tickets, Paper, HeatEvents, DriveEvents, Instrument, what it leaves unchanged: whole blocks, and the named
fields of the blocks it changes. Cite these instead of unfolding an operation. -/

namespace Sys2Proof.Machine

@[simp] theorem applySettings_frame (c : Settings) (s : State) :
    (applySettings c s).pins = s.pins ∧ (applySettings c s).smp = s.smp ∧ (applySettings c s).tr = s.tr ∧
    (applySettings c s).re = s.re ∧ (applySettings c s).ps = s.ps ∧ (applySettings c s).bt = s.bt ∧
    (applySettings c s).hc = s.hc ∧ (applySettings c s).dc = s.dc ∧ (applySettings c s).mr.lock = s.mr.lock ∧
    (applySettings c s).mr.errors = s.mr.errors ∧ (applySettings c s).mr.strays = s.mr.strays ∧
    (applySettings c s).mr.counterCopy = s.mr.counterCopy ∧ (applySettings c s).mr.lastRead = s.mr.lastRead ∧
    (applySettings c s).mr.found = s.mr.found ∧ (applySettings c s).mr.miss = s.mr.miss ∧ (applySettings c s).cv = s.cv ∧
    (applySettings c s).now = s.now ∧ (applySettings c s).freeCount = s.freeCount ∧ (applySettings c s).out = s.out ∧
    (applySettings c s).pending = s.pending := by
  unfold applySettings
  (try dsimp only)
  (repeat' split) <;> simp

@[simp] theorem takeConfigure_frame (ws : List Word) (s : State) :
    (takeConfigure ws s).pins = s.pins ∧ (takeConfigure ws s).smp.chainHead = s.smp.chainHead ∧
    (takeConfigure ws s).smp.progBase = s.smp.progBase ∧ (takeConfigure ws s).smp.noticeMask = s.smp.noticeMask ∧
    (takeConfigure ws s).smp.burstLimit = s.smp.burstLimit ∧ (takeConfigure ws s).smp.pollPeriod = s.smp.pollPeriod ∧
    (takeConfigure ws s).smp.soft = s.smp.soft ∧ (takeConfigure ws s).smp.copies = s.smp.copies ∧
    (takeConfigure ws s).tr.reader = s.tr.reader ∧ (takeConfigure ws s).tr.pos = s.tr.pos ∧
    (takeConfigure ws s).tr.step = s.tr.step ∧ (takeConfigure ws s).tr.pauseReq = s.tr.pauseReq ∧
    (takeConfigure ws s).tr.haltReq = s.tr.haltReq ∧ (takeConfigure ws s).re = s.re ∧ (takeConfigure ws s).ps = s.ps ∧
    (takeConfigure ws s).bt = s.bt ∧ (takeConfigure ws s).hc = s.hc ∧ (takeConfigure ws s).dc = s.dc ∧
    (takeConfigure ws s).mr.lock = s.mr.lock ∧ (takeConfigure ws s).mr.errors = s.mr.errors ∧
    (takeConfigure ws s).mr.strays = s.mr.strays ∧ (takeConfigure ws s).mr.counterCopy = s.mr.counterCopy ∧
    (takeConfigure ws s).mr.lastRead = s.mr.lastRead ∧ (takeConfigure ws s).mr.found = s.mr.found ∧
    (takeConfigure ws s).mr.miss = s.mr.miss ∧ (takeConfigure ws s).cv = s.cv ∧ (takeConfigure ws s).now = s.now ∧
    (takeConfigure ws s).freeCount = s.freeCount ∧ (takeConfigure ws s).out = s.out ∧
    (takeConfigure ws s).pending = s.pending := by
  unfold takeConfigure
  (try dsimp only)
  (repeat' split) <;> simp

@[simp] theorem takeLoad_frame (ws : List Word) (s : State) :
    (takeLoad ws s).pins = s.pins ∧ (takeLoad ws s).cfg = s.cfg ∧ (takeLoad ws s).smp.chainHead = s.smp.chainHead ∧
    (takeLoad ws s).smp.progBase = s.smp.progBase ∧ (takeLoad ws s).smp.noticeMask = s.smp.noticeMask ∧
    (takeLoad ws s).smp.burstLimit = s.smp.burstLimit ∧ (takeLoad ws s).smp.pollPeriod = s.smp.pollPeriod ∧
    (takeLoad ws s).smp.soft = s.smp.soft ∧ (takeLoad ws s).smp.writes = s.smp.writes ∧ (takeLoad ws s).tr = s.tr ∧
    (takeLoad ws s).re = s.re ∧ (takeLoad ws s).ps.slots = s.ps.slots ∧ (takeLoad ws s).bt = s.bt ∧
    (takeLoad ws s).hc = s.hc ∧ (takeLoad ws s).dc = s.dc ∧ (takeLoad ws s).mr = s.mr ∧ (takeLoad ws s).cv = s.cv ∧
    (takeLoad ws s).now = s.now ∧ (takeLoad ws s).freeCount = s.freeCount ∧ (takeLoad ws s).out = s.out ∧
    (takeLoad ws s).pending = s.pending := by
  unfold takeLoad
  (try dsimp only)
  (repeat' split) <;> simp

@[simp] theorem clearReported_frame (s : State) :
    (clearReported s).pins = s.pins ∧ (clearReported s).cfg = s.cfg ∧ (clearReported s).smp = s.smp ∧
    (clearReported s).tr = s.tr ∧ (clearReported s).re = s.re ∧ (clearReported s).ps = s.ps ∧
    (clearReported s).bt = s.bt ∧ (clearReported s).hc = s.hc ∧ (clearReported s).dc.line = s.dc.line ∧
    (clearReported s).dc.nip = s.dc.nip ∧ (clearReported s).dc.valve = s.dc.valve ∧ (clearReported s).dc.ref = s.dc.ref ∧
    (clearReported s).dc.silence = s.dc.silence ∧ (clearReported s).dc.stopKind = s.dc.stopKind ∧
    (clearReported s).dc.setpoint = s.dc.setpoint ∧ (clearReported s).dc.accel = s.dc.accel ∧
    (clearReported s).dc.startCause = s.dc.startCause ∧ (clearReported s).mr.ccur = s.mr.ccur ∧
    (clearReported s).mr.lock = s.mr.lock ∧ (clearReported s).mr.strays = s.mr.strays ∧
    (clearReported s).mr.counterCopy = s.mr.counterCopy ∧ (clearReported s).mr.lastRead = s.mr.lastRead ∧
    (clearReported s).mr.found = s.mr.found ∧ (clearReported s).mr.miss = s.mr.miss ∧ (clearReported s).cv = s.cv ∧
    (clearReported s).now = s.now ∧ (clearReported s).freeCount = s.freeCount ∧ (clearReported s).out = s.out ∧
    (clearReported s).pending = s.pending := by
  unfold clearReported
  (try dsimp only)
  (repeat' split) <;> simp

@[simp] theorem takeReport_frame (ws : List Word) (s : State) :
    (takeReport ws s).pins = s.pins ∧ (takeReport ws s).cfg = s.cfg ∧ (takeReport ws s).smp.chainHead = s.smp.chainHead ∧
    (takeReport ws s).smp.progBase = s.smp.progBase ∧ (takeReport ws s).smp.noticeMask = s.smp.noticeMask ∧
    (takeReport ws s).smp.burstLimit = s.smp.burstLimit ∧ (takeReport ws s).smp.pollPeriod = s.smp.pollPeriod ∧
    (takeReport ws s).smp.soft = s.smp.soft ∧ (takeReport ws s).smp.writes = s.smp.writes ∧ (takeReport ws s).tr = s.tr ∧
    (takeReport ws s).re = s.re ∧ (takeReport ws s).ps = s.ps ∧ (takeReport ws s).bt = s.bt ∧
    (takeReport ws s).hc = s.hc ∧ (takeReport ws s).dc.line = s.dc.line ∧ (takeReport ws s).dc.nip = s.dc.nip ∧
    (takeReport ws s).dc.valve = s.dc.valve ∧ (takeReport ws s).dc.ref = s.dc.ref ∧
    (takeReport ws s).dc.silence = s.dc.silence ∧ (takeReport ws s).dc.stopKind = s.dc.stopKind ∧
    (takeReport ws s).dc.setpoint = s.dc.setpoint ∧ (takeReport ws s).dc.accel = s.dc.accel ∧
    (takeReport ws s).dc.startCause = s.dc.startCause ∧ (takeReport ws s).mr.ccur = s.mr.ccur ∧
    (takeReport ws s).mr.lock = s.mr.lock ∧ (takeReport ws s).mr.strays = s.mr.strays ∧
    (takeReport ws s).mr.counterCopy = s.mr.counterCopy ∧ (takeReport ws s).mr.lastRead = s.mr.lastRead ∧
    (takeReport ws s).mr.found = s.mr.found ∧ (takeReport ws s).mr.miss = s.mr.miss ∧ (takeReport ws s).cv = s.cv ∧
    (takeReport ws s).now = s.now ∧ (takeReport ws s).freeCount = s.freeCount ∧ (takeReport ws s).out = s.out ∧
    (takeReport ws s).pending = s.pending := by
  unfold takeReport
  (try dsimp only)
  (repeat' split) <;> simp

@[simp] theorem execute_frame (kind : TicketKind) (ws : List Word) (s : State) :
    (execute kind ws s).pins = s.pins ∧ (execute kind ws s).smp.chainHead = s.smp.chainHead ∧
    (execute kind ws s).smp.progBase = s.smp.progBase ∧ (execute kind ws s).smp.noticeMask = s.smp.noticeMask ∧
    (execute kind ws s).smp.burstLimit = s.smp.burstLimit ∧ (execute kind ws s).smp.pollPeriod = s.smp.pollPeriod ∧
    (execute kind ws s).smp.soft = s.smp.soft ∧ (execute kind ws s).tr.pos = s.tr.pos ∧
    (execute kind ws s).tr.step = s.tr.step ∧ (execute kind ws s).tr.pauseReq = s.tr.pauseReq ∧
    (execute kind ws s).re.printEnd = s.re.printEnd ∧ (execute kind ws s).re.lastStarted = s.re.lastStarted ∧
    (execute kind ws s).re.serial = s.re.serial ∧ (execute kind ws s).re.lowWater = s.re.lowWater ∧
    (execute kind ws s).re.underruns = s.re.underruns ∧ (execute kind ws s).re.gaps = s.re.gaps ∧
    (execute kind ws s).ps.slots = s.ps.slots ∧ (execute kind ws s).bt.splices = s.bt.splices ∧
    (execute kind ws s).bt.pos = s.bt.pos ∧ (execute kind ws s).bt.nextNumber = s.bt.nextNumber ∧
    (execute kind ws s).bt.overflow = s.bt.overflow ∧ (execute kind ws s).bt.retiring = s.bt.retiring ∧
    (execute kind ws s).dc.ref = s.dc.ref ∧ (execute kind ws s).dc.silence = s.dc.silence ∧
    (execute kind ws s).dc.startCause = s.dc.startCause ∧ (execute kind ws s).mr.lock = s.mr.lock ∧
    (execute kind ws s).mr.strays = s.mr.strays ∧ (execute kind ws s).mr.lastRead = s.mr.lastRead ∧
    (execute kind ws s).mr.found = s.mr.found ∧ (execute kind ws s).mr.miss = s.mr.miss ∧ (execute kind ws s).cv = s.cv ∧
    (execute kind ws s).now = s.now ∧ (execute kind ws s).freeCount = s.freeCount ∧ (execute kind ws s).out = s.out ∧
    (execute kind ws s).pending = s.pending := by
  unfold execute
  (try dsimp only)
  (repeat' split) <;> simp

@[simp] theorem handOff_frame (s : State) :
    (handOff s).pins = s.pins ∧ (handOff s).smp.chainHead = s.smp.chainHead ∧ (handOff s).smp.progBase = s.smp.progBase ∧
    (handOff s).smp.noticeMask = s.smp.noticeMask ∧ (handOff s).smp.burstLimit = s.smp.burstLimit ∧
    (handOff s).smp.pollPeriod = s.smp.pollPeriod ∧ (handOff s).smp.soft = s.smp.soft ∧ (handOff s).tr.pos = s.tr.pos ∧
    (handOff s).tr.step = s.tr.step ∧ (handOff s).tr.pauseReq = s.tr.pauseReq ∧ (handOff s).re.printEnd = s.re.printEnd ∧
    (handOff s).re.lastStarted = s.re.lastStarted ∧ (handOff s).re.serial = s.re.serial ∧
    (handOff s).re.lowWater = s.re.lowWater ∧ (handOff s).re.underruns = s.re.underruns ∧
    (handOff s).re.gaps = s.re.gaps ∧ (handOff s).ps.slots = s.ps.slots ∧ (handOff s).bt.splices = s.bt.splices ∧
    (handOff s).bt.pos = s.bt.pos ∧ (handOff s).bt.nextNumber = s.bt.nextNumber ∧
    (handOff s).bt.overflow = s.bt.overflow ∧ (handOff s).bt.retiring = s.bt.retiring ∧ (handOff s).dc.ref = s.dc.ref ∧
    (handOff s).dc.silence = s.dc.silence ∧ (handOff s).dc.startCause = s.dc.startCause ∧
    (handOff s).mr.lock = s.mr.lock ∧ (handOff s).mr.strays = s.mr.strays ∧ (handOff s).mr.lastRead = s.mr.lastRead ∧
    (handOff s).mr.found = s.mr.found ∧ (handOff s).mr.miss = s.mr.miss ∧ (handOff s).cv = s.cv ∧
    (handOff s).now = s.now ∧ (handOff s).freeCount = s.freeCount ∧ (handOff s).out = s.out ∧
    (handOff s).pending = s.pending := by
  unfold handOff
  (try dsimp only)
  (repeat' split) <;> simp

@[simp] theorem openTally_frame (t : Ticket) (s : State) :
    (openTally t s).pins = s.pins ∧ (openTally t s).cfg = s.cfg ∧ (openTally t s).smp = s.smp ∧
    (openTally t s).tr = s.tr ∧ (openTally t s).re = s.re ∧ (openTally t s).ps = s.ps ∧
    (openTally t s).bt.track = s.bt.track ∧ (openTally t s).bt.splices = s.bt.splices ∧
    (openTally t s).bt.pos = s.bt.pos ∧ (openTally t s).bt.nextNumber = s.bt.nextNumber ∧
    (openTally t s).bt.overflow = s.bt.overflow ∧ (openTally t s).bt.retiring = s.bt.retiring ∧
    (openTally t s).hc = s.hc ∧ (openTally t s).dc = s.dc ∧ (openTally t s).mr = s.mr ∧ (openTally t s).cv = s.cv ∧
    (openTally t s).now = s.now ∧ (openTally t s).freeCount = s.freeCount ∧ (openTally t s).out = s.out ∧
    (openTally t s).pending = s.pending := by
  unfold openTally
  (try dsimp only)
  (repeat' split) <;> simp

@[simp] theorem loadSegment_frame (tally : Nat) (t : Ticket) (s : State) :
    (loadSegment tally t s).pins = s.pins ∧ (loadSegment tally t s).cfg = s.cfg ∧ (loadSegment tally t s).smp = s.smp ∧
    (loadSegment tally t s).tr = s.tr ∧ (loadSegment tally t s).re.slots = s.re.slots ∧
    (loadSegment tally t s).re.printEnd = s.re.printEnd ∧ (loadSegment tally t s).re.lastStarted = s.re.lastStarted ∧
    (loadSegment tally t s).re.lowWater = s.re.lowWater ∧ (loadSegment tally t s).re.underruns = s.re.underruns ∧
    (loadSegment tally t s).re.gaps = s.re.gaps ∧ (loadSegment tally t s).ps = s.ps ∧ (loadSegment tally t s).bt = s.bt ∧
    (loadSegment tally t s).hc = s.hc ∧ (loadSegment tally t s).dc.line = s.dc.line ∧
    (loadSegment tally t s).dc.nip = s.dc.nip ∧ (loadSegment tally t s).dc.valve = s.dc.valve ∧
    (loadSegment tally t s).dc.ref = s.dc.ref ∧ (loadSegment tally t s).dc.silence = s.dc.silence ∧
    (loadSegment tally t s).dc.stopKind = s.dc.stopKind ∧ (loadSegment tally t s).dc.setpoint = s.dc.setpoint ∧
    (loadSegment tally t s).dc.accel = s.dc.accel ∧ (loadSegment tally t s).dc.startCause = s.dc.startCause ∧
    (loadSegment tally t s).mr = s.mr ∧ (loadSegment tally t s).cv = s.cv ∧ (loadSegment tally t s).now = s.now ∧
    (loadSegment tally t s).freeCount = s.freeCount ∧ (loadSegment tally t s).out = s.out ∧
    (loadSegment tally t s).pending = s.pending := by
  unfold loadSegment
  (try dsimp only)
  (repeat' split) <;> simp

@[simp] theorem writeTaken_frame (t : Ticket) (s : State) :
    (writeTaken t s).pins = s.pins ∧ (writeTaken t s).cfg = s.cfg ∧ (writeTaken t s).smp.chainHead = s.smp.chainHead ∧
    (writeTaken t s).smp.progBase = s.smp.progBase ∧ (writeTaken t s).smp.noticeMask = s.smp.noticeMask ∧
    (writeTaken t s).smp.burstLimit = s.smp.burstLimit ∧ (writeTaken t s).smp.pollPeriod = s.smp.pollPeriod ∧
    (writeTaken t s).smp.soft = s.smp.soft ∧ (writeTaken t s).smp.copies = s.smp.copies ∧ (writeTaken t s).tr = s.tr ∧
    (writeTaken t s).re = s.re ∧ (writeTaken t s).ps = s.ps ∧ (writeTaken t s).bt = s.bt ∧ (writeTaken t s).hc = s.hc ∧
    (writeTaken t s).dc = s.dc ∧ (writeTaken t s).mr = s.mr ∧ (writeTaken t s).cv = s.cv ∧ (writeTaken t s).now = s.now ∧
    (writeTaken t s).freeCount = s.freeCount ∧ (writeTaken t s).out = s.out ∧ (writeTaken t s).pending = s.pending := by
  unfold writeTaken
  (try dsimp only)
  (repeat' split) <;> simp

@[simp] theorem takeSegment_frame (t : Ticket) (s : State) :
    (takeSegment t s).pins = s.pins ∧ (takeSegment t s).cfg = s.cfg ∧ (takeSegment t s).smp.chainHead = s.smp.chainHead ∧
    (takeSegment t s).smp.progBase = s.smp.progBase ∧ (takeSegment t s).smp.noticeMask = s.smp.noticeMask ∧
    (takeSegment t s).smp.burstLimit = s.smp.burstLimit ∧ (takeSegment t s).smp.pollPeriod = s.smp.pollPeriod ∧
    (takeSegment t s).smp.soft = s.smp.soft ∧ (takeSegment t s).smp.copies = s.smp.copies ∧
    (takeSegment t s).tr.pos = s.tr.pos ∧ (takeSegment t s).tr.pauseReq = s.tr.pauseReq ∧ (takeSegment t s).ps = s.ps ∧
    (takeSegment t s).bt.splices = s.bt.splices ∧ (takeSegment t s).bt.pos = s.bt.pos ∧
    (takeSegment t s).bt.overflow = s.bt.overflow ∧ (takeSegment t s).bt.retiring = s.bt.retiring ∧
    (takeSegment t s).hc = s.hc ∧ (takeSegment t s).dc.nip = s.dc.nip ∧ (takeSegment t s).dc.valve = s.dc.valve ∧
    (takeSegment t s).dc.ref = s.dc.ref ∧ (takeSegment t s).dc.silence = s.dc.silence ∧
    (takeSegment t s).dc.stopKind = s.dc.stopKind ∧ (takeSegment t s).dc.setpoint = s.dc.setpoint ∧
    (takeSegment t s).dc.accel = s.dc.accel ∧ (takeSegment t s).mr.ccur = s.mr.ccur ∧
    (takeSegment t s).mr.lock = s.mr.lock ∧ (takeSegment t s).mr.strays = s.mr.strays ∧
    (takeSegment t s).mr.lastRead = s.mr.lastRead ∧ (takeSegment t s).mr.found = s.mr.found ∧
    (takeSegment t s).mr.miss = s.mr.miss ∧ (takeSegment t s).cv = s.cv ∧ (takeSegment t s).now = s.now ∧
    (takeSegment t s).freeCount = s.freeCount ∧ (takeSegment t s).pending = s.pending := by
  unfold takeSegment
  (try dsimp only)
  (repeat' split) <;> simp

@[simp] theorem takeOther_frame (t : Ticket) (s : State) :
    (takeOther t s).pins = s.pins ∧ (takeOther t s).cfg = s.cfg ∧ (takeOther t s).smp.chainHead = s.smp.chainHead ∧
    (takeOther t s).smp.progBase = s.smp.progBase ∧ (takeOther t s).smp.noticeMask = s.smp.noticeMask ∧
    (takeOther t s).smp.burstLimit = s.smp.burstLimit ∧ (takeOther t s).smp.pollPeriod = s.smp.pollPeriod ∧
    (takeOther t s).smp.soft = s.smp.soft ∧ (takeOther t s).smp.copies = s.smp.copies ∧
    (takeOther t s).tr.pos = s.tr.pos ∧ (takeOther t s).tr.step = s.tr.step ∧
    (takeOther t s).tr.pauseReq = s.tr.pauseReq ∧ (takeOther t s).tr.haltReq = s.tr.haltReq ∧ (takeOther t s).re = s.re ∧
    (takeOther t s).ps = s.ps ∧ (takeOther t s).bt = s.bt ∧ (takeOther t s).hc = s.hc ∧ (takeOther t s).dc = s.dc ∧
    (takeOther t s).mr = s.mr ∧ (takeOther t s).cv = s.cv ∧ (takeOther t s).now = s.now ∧
    (takeOther t s).freeCount = s.freeCount ∧ (takeOther t s).out = s.out ∧ (takeOther t s).pending = s.pending := by
  unfold takeOther
  (try dsimp only)
  (repeat' split) <;> simp

@[simp] theorem checkTicket_frame (t : Ticket) (s : State) :
    (checkTicket t s).pins = s.pins ∧ (checkTicket t s).cfg = s.cfg ∧ (checkTicket t s).smp.chainHead = s.smp.chainHead ∧
    (checkTicket t s).smp.progBase = s.smp.progBase ∧ (checkTicket t s).smp.noticeMask = s.smp.noticeMask ∧
    (checkTicket t s).smp.burstLimit = s.smp.burstLimit ∧ (checkTicket t s).smp.pollPeriod = s.smp.pollPeriod ∧
    (checkTicket t s).smp.soft = s.smp.soft ∧ (checkTicket t s).smp.copies = s.smp.copies ∧
    (checkTicket t s).tr.pos = s.tr.pos ∧ (checkTicket t s).tr.pauseReq = s.tr.pauseReq ∧ (checkTicket t s).ps = s.ps ∧
    (checkTicket t s).bt.splices = s.bt.splices ∧ (checkTicket t s).bt.pos = s.bt.pos ∧
    (checkTicket t s).bt.overflow = s.bt.overflow ∧ (checkTicket t s).bt.retiring = s.bt.retiring ∧
    (checkTicket t s).hc = s.hc ∧ (checkTicket t s).dc.nip = s.dc.nip ∧ (checkTicket t s).dc.valve = s.dc.valve ∧
    (checkTicket t s).dc.ref = s.dc.ref ∧ (checkTicket t s).dc.silence = s.dc.silence ∧
    (checkTicket t s).dc.stopKind = s.dc.stopKind ∧ (checkTicket t s).dc.setpoint = s.dc.setpoint ∧
    (checkTicket t s).dc.accel = s.dc.accel ∧ (checkTicket t s).mr.ccur = s.mr.ccur ∧
    (checkTicket t s).mr.lock = s.mr.lock ∧ (checkTicket t s).mr.strays = s.mr.strays ∧
    (checkTicket t s).mr.lastRead = s.mr.lastRead ∧ (checkTicket t s).mr.found = s.mr.found ∧
    (checkTicket t s).mr.miss = s.mr.miss ∧ (checkTicket t s).cv = s.cv ∧ (checkTicket t s).now = s.now ∧
    (checkTicket t s).freeCount = s.freeCount ∧ (checkTicket t s).pending = s.pending := by
  unfold checkTicket
  (try dsimp only)
  (repeat' split) <;> simp

@[simp] theorem takeTicket_frame (h : Header) (s : State) :
    (takeTicket h s).pins = s.pins ∧ (takeTicket h s).cfg = s.cfg ∧ (takeTicket h s).smp.chainHead = s.smp.chainHead ∧
    (takeTicket h s).smp.progBase = s.smp.progBase ∧ (takeTicket h s).smp.noticeMask = s.smp.noticeMask ∧
    (takeTicket h s).smp.burstLimit = s.smp.burstLimit ∧ (takeTicket h s).smp.pollPeriod = s.smp.pollPeriod ∧
    (takeTicket h s).smp.soft = s.smp.soft ∧ (takeTicket h s).smp.copies = s.smp.copies ∧
    (takeTicket h s).tr.pos = s.tr.pos ∧ (takeTicket h s).tr.pauseReq = s.tr.pauseReq ∧ (takeTicket h s).ps = s.ps ∧
    (takeTicket h s).bt.splices = s.bt.splices ∧ (takeTicket h s).bt.pos = s.bt.pos ∧
    (takeTicket h s).bt.overflow = s.bt.overflow ∧ (takeTicket h s).bt.retiring = s.bt.retiring ∧
    (takeTicket h s).hc = s.hc ∧ (takeTicket h s).dc.nip = s.dc.nip ∧ (takeTicket h s).dc.valve = s.dc.valve ∧
    (takeTicket h s).dc.ref = s.dc.ref ∧ (takeTicket h s).dc.silence = s.dc.silence ∧
    (takeTicket h s).dc.stopKind = s.dc.stopKind ∧ (takeTicket h s).dc.setpoint = s.dc.setpoint ∧
    (takeTicket h s).dc.accel = s.dc.accel ∧ (takeTicket h s).mr.ccur = s.mr.ccur ∧ (takeTicket h s).mr.lock = s.mr.lock ∧
    (takeTicket h s).mr.strays = s.mr.strays ∧ (takeTicket h s).mr.lastRead = s.mr.lastRead ∧
    (takeTicket h s).mr.found = s.mr.found ∧ (takeTicket h s).mr.miss = s.mr.miss ∧ (takeTicket h s).cv = s.cv ∧
    (takeTicket h s).now = s.now ∧ (takeTicket h s).freeCount = s.freeCount ∧ (takeTicket h s).pending = s.pending := by
  unfold takeTicket
  (try dsimp only)
  (repeat' split) <;> simp

@[simp] theorem pauseReader_frame (s : State) :
    (pauseReader s).pins = s.pins ∧ (pauseReader s).cfg = s.cfg ∧ (pauseReader s).smp = s.smp ∧
    (pauseReader s).tr.pos = s.tr.pos ∧ (pauseReader s).tr.step = s.tr.step ∧ (pauseReader s).tr.ticket = s.tr.ticket ∧
    (pauseReader s).tr.pauseReq = s.tr.pauseReq ∧ (pauseReader s).re = s.re ∧ (pauseReader s).ps = s.ps ∧
    (pauseReader s).bt = s.bt ∧ (pauseReader s).hc = s.hc ∧ (pauseReader s).dc = s.dc ∧ (pauseReader s).mr = s.mr ∧
    (pauseReader s).cv = s.cv ∧ (pauseReader s).now = s.now ∧ (pauseReader s).freeCount = s.freeCount ∧
    (pauseReader s).out = s.out ∧ (pauseReader s).pending = s.pending := by
  unfold pauseReader
  split <;> simp

@[simp] theorem headerRead_frame (ws : List Word) (s : State) :
    (headerRead ws s).pins = s.pins ∧ (headerRead ws s).cfg = s.cfg ∧ (headerRead ws s).smp.chainHead = s.smp.chainHead ∧
    (headerRead ws s).smp.progBase = s.smp.progBase ∧ (headerRead ws s).smp.noticeMask = s.smp.noticeMask ∧
    (headerRead ws s).smp.burstLimit = s.smp.burstLimit ∧ (headerRead ws s).smp.pollPeriod = s.smp.pollPeriod ∧
    (headerRead ws s).smp.soft = s.smp.soft ∧ (headerRead ws s).smp.copies = s.smp.copies ∧
    (headerRead ws s).tr.pos = s.tr.pos ∧ (headerRead ws s).tr.pauseReq = s.tr.pauseReq ∧ (headerRead ws s).ps = s.ps ∧
    (headerRead ws s).bt.splices = s.bt.splices ∧ (headerRead ws s).bt.pos = s.bt.pos ∧
    (headerRead ws s).bt.overflow = s.bt.overflow ∧ (headerRead ws s).bt.retiring = s.bt.retiring ∧
    (headerRead ws s).hc = s.hc ∧ (headerRead ws s).dc.nip = s.dc.nip ∧ (headerRead ws s).dc.valve = s.dc.valve ∧
    (headerRead ws s).dc.ref = s.dc.ref ∧ (headerRead ws s).dc.silence = s.dc.silence ∧
    (headerRead ws s).dc.stopKind = s.dc.stopKind ∧ (headerRead ws s).dc.setpoint = s.dc.setpoint ∧
    (headerRead ws s).dc.accel = s.dc.accel ∧ (headerRead ws s).mr.ccur = s.mr.ccur ∧
    (headerRead ws s).mr.lock = s.mr.lock ∧ (headerRead ws s).mr.strays = s.mr.strays ∧
    (headerRead ws s).mr.lastRead = s.mr.lastRead ∧ (headerRead ws s).mr.found = s.mr.found ∧
    (headerRead ws s).mr.miss = s.mr.miss ∧ (headerRead ws s).cv = s.cv ∧ (headerRead ws s).now = s.now ∧
    (headerRead ws s).freeCount = s.freeCount ∧ (headerRead ws s).pending = s.pending := by
  unfold headerRead
  (try dsimp only)
  (repeat' split) <;> simp

@[simp] theorem linkRead_frame (ws : List Word) (s : State) :
    (linkRead ws s).pins = s.pins ∧ (linkRead ws s).cfg = s.cfg ∧ (linkRead ws s).smp.chainHead = s.smp.chainHead ∧
    (linkRead ws s).smp.progBase = s.smp.progBase ∧ (linkRead ws s).smp.noticeMask = s.smp.noticeMask ∧
    (linkRead ws s).smp.burstLimit = s.smp.burstLimit ∧ (linkRead ws s).smp.pollPeriod = s.smp.pollPeriod ∧
    (linkRead ws s).smp.soft = s.smp.soft ∧ (linkRead ws s).smp.writes = s.smp.writes ∧
    (linkRead ws s).smp.copies = s.smp.copies ∧ (linkRead ws s).tr.ticket = s.tr.ticket ∧
    (linkRead ws s).tr.pauseReq = s.tr.pauseReq ∧ (linkRead ws s).re = s.re ∧ (linkRead ws s).ps = s.ps ∧
    (linkRead ws s).bt = s.bt ∧ (linkRead ws s).hc = s.hc ∧ (linkRead ws s).dc = s.dc ∧ (linkRead ws s).mr = s.mr ∧
    (linkRead ws s).cv = s.cv ∧ (linkRead ws s).now = s.now ∧ (linkRead ws s).freeCount = s.freeCount ∧
    (linkRead ws s).out = s.out ∧ (linkRead ws s).pending = s.pending := by
  unfold linkRead
  (try dsimp only)
  (repeat' split) <;> simp

@[simp] theorem bodyDone_frame (ws : List Word) (s : State) :
    (bodyDone ws s).pins = s.pins ∧ (bodyDone ws s).cfg = s.cfg ∧ (bodyDone ws s).smp.chainHead = s.smp.chainHead ∧
    (bodyDone ws s).smp.progBase = s.smp.progBase ∧ (bodyDone ws s).smp.noticeMask = s.smp.noticeMask ∧
    (bodyDone ws s).smp.burstLimit = s.smp.burstLimit ∧ (bodyDone ws s).smp.pollPeriod = s.smp.pollPeriod ∧
    (bodyDone ws s).smp.soft = s.smp.soft ∧ (bodyDone ws s).smp.copies = s.smp.copies ∧
    (bodyDone ws s).tr.pos = s.tr.pos ∧ (bodyDone ws s).tr.pauseReq = s.tr.pauseReq ∧ (bodyDone ws s).ps = s.ps ∧
    (bodyDone ws s).bt.splices = s.bt.splices ∧ (bodyDone ws s).bt.pos = s.bt.pos ∧
    (bodyDone ws s).bt.overflow = s.bt.overflow ∧ (bodyDone ws s).bt.retiring = s.bt.retiring ∧
    (bodyDone ws s).hc = s.hc ∧ (bodyDone ws s).dc.nip = s.dc.nip ∧ (bodyDone ws s).dc.valve = s.dc.valve ∧
    (bodyDone ws s).dc.ref = s.dc.ref ∧ (bodyDone ws s).dc.silence = s.dc.silence ∧
    (bodyDone ws s).dc.stopKind = s.dc.stopKind ∧ (bodyDone ws s).dc.setpoint = s.dc.setpoint ∧
    (bodyDone ws s).dc.accel = s.dc.accel ∧ (bodyDone ws s).mr.ccur = s.mr.ccur ∧ (bodyDone ws s).mr.lock = s.mr.lock ∧
    (bodyDone ws s).mr.strays = s.mr.strays ∧ (bodyDone ws s).mr.lastRead = s.mr.lastRead ∧
    (bodyDone ws s).mr.found = s.mr.found ∧ (bodyDone ws s).mr.miss = s.mr.miss ∧ (bodyDone ws s).cv = s.cv ∧
    (bodyDone ws s).now = s.now ∧ (bodyDone ws s).freeCount = s.freeCount ∧ (bodyDone ws s).pending = s.pending := by
  unfold bodyDone
  (try dsimp only)
  (repeat' split) <;> simp

@[simp] theorem closeTicket_frame (s : State) :
    (closeTicket s).pins = s.pins ∧ (closeTicket s).cfg = s.cfg ∧ (closeTicket s).smp.chainHead = s.smp.chainHead ∧
    (closeTicket s).smp.progBase = s.smp.progBase ∧ (closeTicket s).smp.noticeMask = s.smp.noticeMask ∧
    (closeTicket s).smp.burstLimit = s.smp.burstLimit ∧ (closeTicket s).smp.pollPeriod = s.smp.pollPeriod ∧
    (closeTicket s).smp.soft = s.smp.soft ∧ (closeTicket s).smp.writes = s.smp.writes ∧
    (closeTicket s).smp.copies = s.smp.copies ∧ (closeTicket s).tr.pos = s.tr.pos ∧
    (closeTicket s).tr.pauseReq = s.tr.pauseReq ∧ (closeTicket s).re = s.re ∧ (closeTicket s).ps = s.ps ∧
    (closeTicket s).bt = s.bt ∧ (closeTicket s).hc = s.hc ∧ (closeTicket s).dc = s.dc ∧ (closeTicket s).mr = s.mr ∧
    (closeTicket s).cv = s.cv ∧ (closeTicket s).now = s.now ∧ (closeTicket s).freeCount = s.freeCount ∧
    (closeTicket s).out = s.out ∧ (closeTicket s).pending = s.pending := by
  unfold closeTicket
  (try dsimp only)
  (repeat' split) <;> simp

@[simp] theorem headerRole_frame (r : HeaderRole) (s : State) :
    (headerRole r s).pins = s.pins ∧ (headerRole r s).smp.chainHead = s.smp.chainHead ∧
    (headerRole r s).smp.progBase = s.smp.progBase ∧ (headerRole r s).smp.noticeMask = s.smp.noticeMask ∧
    (headerRole r s).smp.burstLimit = s.smp.burstLimit ∧ (headerRole r s).smp.pollPeriod = s.smp.pollPeriod ∧
    (headerRole r s).smp.soft = s.smp.soft ∧ (headerRole r s).tr.pos = s.tr.pos ∧
    (headerRole r s).tr.pauseReq = s.tr.pauseReq ∧ (headerRole r s).re.printEnd = s.re.printEnd ∧
    (headerRole r s).re.lastStarted = s.re.lastStarted ∧ (headerRole r s).re.serial = s.re.serial ∧
    (headerRole r s).re.lowWater = s.re.lowWater ∧ (headerRole r s).re.underruns = s.re.underruns ∧
    (headerRole r s).re.gaps = s.re.gaps ∧ (headerRole r s).ps.slots = s.ps.slots ∧
    (headerRole r s).bt.splices = s.bt.splices ∧ (headerRole r s).bt.pos = s.bt.pos ∧
    (headerRole r s).bt.nextNumber = s.bt.nextNumber ∧ (headerRole r s).bt.overflow = s.bt.overflow ∧
    (headerRole r s).bt.retiring = s.bt.retiring ∧ (headerRole r s).dc.ref = s.dc.ref ∧
    (headerRole r s).dc.silence = s.dc.silence ∧ (headerRole r s).dc.startCause = s.dc.startCause ∧
    (headerRole r s).mr.lock = s.mr.lock ∧ (headerRole r s).mr.strays = s.mr.strays ∧
    (headerRole r s).mr.lastRead = s.mr.lastRead ∧ (headerRole r s).mr.found = s.mr.found ∧
    (headerRole r s).mr.miss = s.mr.miss ∧ (headerRole r s).cv = s.cv ∧ (headerRole r s).now = s.now ∧
    (headerRole r s).freeCount = s.freeCount ∧ (headerRole r s).out = s.out ∧ (headerRole r s).pending = s.pending := by
  unfold headerRole
  (try dsimp only)
  (repeat' split) <;> simp

@[simp] theorem headerWritten_frame (h : HeaderWrite) (s : State) :
    (headerWritten h s).pins = s.pins ∧ (headerWritten h s).smp.chainHead = s.smp.chainHead ∧
    (headerWritten h s).smp.progBase = s.smp.progBase ∧ (headerWritten h s).smp.noticeMask = s.smp.noticeMask ∧
    (headerWritten h s).smp.burstLimit = s.smp.burstLimit ∧ (headerWritten h s).smp.pollPeriod = s.smp.pollPeriod ∧
    (headerWritten h s).tr.pos = s.tr.pos ∧ (headerWritten h s).re.printEnd = s.re.printEnd ∧
    (headerWritten h s).re.lastStarted = s.re.lastStarted ∧ (headerWritten h s).re.serial = s.re.serial ∧
    (headerWritten h s).re.lowWater = s.re.lowWater ∧ (headerWritten h s).re.underruns = s.re.underruns ∧
    (headerWritten h s).re.gaps = s.re.gaps ∧ (headerWritten h s).ps.slots = s.ps.slots ∧
    (headerWritten h s).bt.pos = s.bt.pos ∧ (headerWritten h s).bt.nextNumber = s.bt.nextNumber ∧
    (headerWritten h s).bt.retiring = s.bt.retiring ∧ (headerWritten h s).dc.ref = s.dc.ref ∧
    (headerWritten h s).dc.silence = s.dc.silence ∧ (headerWritten h s).dc.startCause = s.dc.startCause ∧
    (headerWritten h s).mr.strays = s.mr.strays ∧ (headerWritten h s).cv = s.cv ∧ (headerWritten h s).now = s.now ∧
    (headerWritten h s).freeCount = s.freeCount ∧ (headerWritten h s).out = s.out ∧
    (headerWritten h s).pending = s.pending := by
  unfold headerWritten
  (try dsimp only)
  (repeat' split) <;> simp

@[simp] theorem startWalk_frame (s : State) :
    (startWalk s).pins = s.pins ∧ (startWalk s).cfg = s.cfg ∧ (startWalk s).smp.chainHead = s.smp.chainHead ∧
    (startWalk s).smp.progBase = s.smp.progBase ∧ (startWalk s).smp.noticeMask = s.smp.noticeMask ∧
    (startWalk s).smp.burstLimit = s.smp.burstLimit ∧ (startWalk s).smp.pollPeriod = s.smp.pollPeriod ∧
    (startWalk s).smp.soft = s.smp.soft ∧ (startWalk s).smp.copies = s.smp.copies ∧
    (startWalk s).tr.ticket = s.tr.ticket ∧ (startWalk s).tr.pauseReq = s.tr.pauseReq ∧ (startWalk s).re = s.re ∧
    (startWalk s).ps = s.ps ∧ (startWalk s).bt = s.bt ∧ (startWalk s).hc = s.hc ∧ (startWalk s).dc = s.dc ∧
    (startWalk s).mr = s.mr ∧ (startWalk s).cv = s.cv ∧ (startWalk s).now = s.now ∧
    (startWalk s).freeCount = s.freeCount ∧ (startWalk s).out = s.out ∧ (startWalk s).pending = s.pending := by
  unfold startWalk
  (try dsimp only)
  (repeat' split) <;> simp

@[simp] theorem goChain_frame (s : State) :
    (goChain s).pins = s.pins ∧ (goChain s).cfg = s.cfg ∧ (goChain s).smp.chainHead = s.smp.chainHead ∧
    (goChain s).smp.progBase = s.smp.progBase ∧ (goChain s).smp.noticeMask = s.smp.noticeMask ∧
    (goChain s).smp.burstLimit = s.smp.burstLimit ∧ (goChain s).smp.pollPeriod = s.smp.pollPeriod ∧
    (goChain s).smp.soft = s.smp.soft ∧ (goChain s).smp.copies = s.smp.copies ∧ (goChain s).tr.ticket = s.tr.ticket ∧
    (goChain s).tr.pauseReq = s.tr.pauseReq ∧ (goChain s).re = s.re ∧ (goChain s).ps = s.ps ∧ (goChain s).bt = s.bt ∧
    (goChain s).hc = s.hc ∧ (goChain s).dc = s.dc ∧ (goChain s).mr = s.mr ∧ (goChain s).cv = s.cv ∧
    (goChain s).now = s.now ∧ (goChain s).freeCount = s.freeCount ∧ (goChain s).out = s.out ∧
    (goChain s).pending = s.pending := by
  unfold goChain
  (try dsimp only)
  (repeat' split) <;> simp

@[simp] theorem haltChain_frame (s : State) :
    (haltChain s).pins = s.pins ∧ (haltChain s).cfg = s.cfg ∧ (haltChain s).smp.chainHead = s.smp.chainHead ∧
    (haltChain s).smp.progBase = s.smp.progBase ∧ (haltChain s).smp.noticeMask = s.smp.noticeMask ∧
    (haltChain s).smp.burstLimit = s.smp.burstLimit ∧ (haltChain s).smp.pollPeriod = s.smp.pollPeriod ∧
    (haltChain s).smp.soft = s.smp.soft ∧ (haltChain s).smp.writes = s.smp.writes ∧
    (haltChain s).smp.copies = s.smp.copies ∧ (haltChain s).tr.pos = s.tr.pos ∧ (haltChain s).tr.step = s.tr.step ∧
    (haltChain s).tr.ticket = s.tr.ticket ∧ (haltChain s).tr.pauseReq = s.tr.pauseReq ∧ (haltChain s).re = s.re ∧
    (haltChain s).ps = s.ps ∧ (haltChain s).bt = s.bt ∧ (haltChain s).hc = s.hc ∧ (haltChain s).dc = s.dc ∧
    (haltChain s).mr = s.mr ∧ (haltChain s).cv = s.cv ∧ (haltChain s).now = s.now ∧
    (haltChain s).freeCount = s.freeCount ∧ (haltChain s).out = s.out ∧ (haltChain s).pending = s.pending := by
  unfold haltChain
  (try dsimp only)
  (repeat' split) <;> simp

@[simp] theorem chainPoll_frame (s : State) :
    (chainPoll s).pins = s.pins ∧ (chainPoll s).cfg = s.cfg ∧ (chainPoll s).smp.chainHead = s.smp.chainHead ∧
    (chainPoll s).smp.progBase = s.smp.progBase ∧ (chainPoll s).smp.noticeMask = s.smp.noticeMask ∧
    (chainPoll s).smp.burstLimit = s.smp.burstLimit ∧ (chainPoll s).smp.pollPeriod = s.smp.pollPeriod ∧
    (chainPoll s).smp.soft = s.smp.soft ∧ (chainPoll s).smp.copies = s.smp.copies ∧ (chainPoll s).tr.pos = s.tr.pos ∧
    (chainPoll s).tr.step = s.tr.step ∧ (chainPoll s).tr.pauseReq = s.tr.pauseReq ∧
    (chainPoll s).re.printEnd = s.re.printEnd ∧ (chainPoll s).re.lastStarted = s.re.lastStarted ∧
    (chainPoll s).re.serial = s.re.serial ∧ (chainPoll s).re.lowWater = s.re.lowWater ∧
    (chainPoll s).re.underruns = s.re.underruns ∧ (chainPoll s).re.gaps = s.re.gaps ∧ (chainPoll s).ps = s.ps ∧
    (chainPoll s).bt.track = s.bt.track ∧ (chainPoll s).bt.splices = s.bt.splices ∧ (chainPoll s).bt.pos = s.bt.pos ∧
    (chainPoll s).bt.nextNumber = s.bt.nextNumber ∧ (chainPoll s).bt.overflow = s.bt.overflow ∧
    (chainPoll s).bt.retiring = s.bt.retiring ∧ (chainPoll s).hc = s.hc ∧ (chainPoll s).dc.nip = s.dc.nip ∧
    (chainPoll s).dc.valve = s.dc.valve ∧ (chainPoll s).dc.ref = s.dc.ref ∧ (chainPoll s).dc.silence = s.dc.silence ∧
    (chainPoll s).dc.stopKind = s.dc.stopKind ∧ (chainPoll s).dc.setpoint = s.dc.setpoint ∧
    (chainPoll s).dc.accel = s.dc.accel ∧ (chainPoll s).mr.ccur = s.mr.ccur ∧ (chainPoll s).mr.lock = s.mr.lock ∧
    (chainPoll s).mr.strays = s.mr.strays ∧ (chainPoll s).mr.lastRead = s.mr.lastRead ∧
    (chainPoll s).mr.found = s.mr.found ∧ (chainPoll s).mr.miss = s.mr.miss ∧ (chainPoll s).cv = s.cv ∧
    (chainPoll s).now = s.now ∧ (chainPoll s).freeCount = s.freeCount ∧ (chainPoll s).out = s.out ∧
    (chainPoll s).pending = s.pending := by
  unfold chainPoll
  (try dsimp only)
  (repeat' split) <;> simp

@[simp] theorem setQueue_frame (p : Port) (c : Client) (q : List Transfer) :
    (p.setQueue c q).chainHead = p.chainHead ∧ (p.setQueue c q).progBase = p.progBase ∧
    (p.setQueue c q).notice = p.notice ∧ (p.setQueue c q).noticeMask = p.noticeMask ∧
    (p.setQueue c q).burstLimit = p.burstLimit ∧ (p.setQueue c q).pollPeriod = p.pollPeriod ∧
    (p.setQueue c q).soft = p.soft := by
  cases c <;> simp [Port.setQueue]

@[simp] theorem startProgress_frame (rest : List Transfer) (s : State) :
    (startProgress rest s).pins = s.pins ∧ (startProgress rest s).cfg = s.cfg ∧
    (startProgress rest s).smp.chainHead = s.smp.chainHead ∧ (startProgress rest s).smp.progBase = s.smp.progBase ∧
    (startProgress rest s).smp.noticeMask = s.smp.noticeMask ∧ (startProgress rest s).smp.burstLimit = s.smp.burstLimit ∧
    (startProgress rest s).smp.pollPeriod = s.smp.pollPeriod ∧ (startProgress rest s).smp.soft = s.smp.soft ∧
    (startProgress rest s).smp.writes = s.smp.writes ∧ (startProgress rest s).smp.copies = s.smp.copies ∧
    (startProgress rest s).tr = s.tr ∧ (startProgress rest s).re = s.re ∧ (startProgress rest s).ps = s.ps ∧
    (startProgress rest s).bt = s.bt ∧ (startProgress rest s).hc = s.hc ∧ (startProgress rest s).dc = s.dc ∧
    (startProgress rest s).mr = s.mr ∧ (startProgress rest s).cv = s.cv ∧ (startProgress rest s).now = s.now ∧
    (startProgress rest s).freeCount = s.freeCount ∧ (startProgress rest s).out = s.out ∧
    (startProgress rest s).pending = s.pending := by
  unfold startProgress
  (try dsimp only)
  (repeat' split) <;> simp

@[simp] theorem grantBurst_frame (c : Client) (s : State) :
    (grantBurst c s).pins = s.pins ∧ (grantBurst c s).cfg = s.cfg ∧ (grantBurst c s).smp.chainHead = s.smp.chainHead ∧
    (grantBurst c s).smp.progBase = s.smp.progBase ∧ (grantBurst c s).smp.noticeMask = s.smp.noticeMask ∧
    (grantBurst c s).smp.burstLimit = s.smp.burstLimit ∧ (grantBurst c s).smp.pollPeriod = s.smp.pollPeriod ∧
    (grantBurst c s).smp.soft = s.smp.soft ∧ (grantBurst c s).smp.writes = s.smp.writes ∧
    (grantBurst c s).smp.copies = s.smp.copies ∧ (grantBurst c s).tr = s.tr ∧ (grantBurst c s).re = s.re ∧
    (grantBurst c s).ps = s.ps ∧ (grantBurst c s).bt = s.bt ∧ (grantBurst c s).hc = s.hc ∧ (grantBurst c s).dc = s.dc ∧
    (grantBurst c s).mr = s.mr ∧ (grantBurst c s).cv = s.cv ∧ (grantBurst c s).now = s.now ∧
    (grantBurst c s).freeCount = s.freeCount ∧ (grantBurst c s).out = s.out ∧ (grantBurst c s).pending = s.pending := by
  unfold grantBurst
  (try dsimp only)
  (repeat' split) <;> simp

@[simp] theorem kick_frame (s : State) :
    (kick s).pins = s.pins ∧ (kick s).cfg = s.cfg ∧ (kick s).smp.chainHead = s.smp.chainHead ∧
    (kick s).smp.progBase = s.smp.progBase ∧ (kick s).smp.noticeMask = s.smp.noticeMask ∧
    (kick s).smp.burstLimit = s.smp.burstLimit ∧ (kick s).smp.pollPeriod = s.smp.pollPeriod ∧
    (kick s).smp.soft = s.smp.soft ∧ (kick s).smp.writes = s.smp.writes ∧ (kick s).smp.copies = s.smp.copies ∧
    (kick s).tr = s.tr ∧ (kick s).re = s.re ∧ (kick s).ps = s.ps ∧ (kick s).bt = s.bt ∧ (kick s).hc = s.hc ∧
    (kick s).dc = s.dc ∧ (kick s).mr = s.mr ∧ (kick s).cv = s.cv ∧ (kick s).now = s.now ∧
    (kick s).freeCount = s.freeCount ∧ (kick s).out = s.out ∧ (kick s).pending = s.pending := by
  unfold kick
  (try dsimp only)
  (repeat' split) <;> simp

@[simp] theorem countsEnded_frame (why : CountsFor) (s : State) :
    (countsEnded why s).pins = s.pins ∧ (countsEnded why s).cfg = s.cfg ∧
    (countsEnded why s).smp.chainHead = s.smp.chainHead ∧ (countsEnded why s).smp.progBase = s.smp.progBase ∧
    (countsEnded why s).smp.noticeMask = s.smp.noticeMask ∧ (countsEnded why s).smp.burstLimit = s.smp.burstLimit ∧
    (countsEnded why s).smp.pollPeriod = s.smp.pollPeriod ∧ (countsEnded why s).smp.copies = s.smp.copies ∧
    (countsEnded why s).tr.pos = s.tr.pos ∧ (countsEnded why s).tr.step = s.tr.step ∧
    (countsEnded why s).re.serial = s.re.serial ∧ (countsEnded why s).ps = s.ps ∧ (countsEnded why s).bt.pos = s.bt.pos ∧
    (countsEnded why s).hc = s.hc ∧ (countsEnded why s).dc.ref = s.dc.ref ∧
    (countsEnded why s).dc.silence = s.dc.silence ∧ (countsEnded why s).dc.setpoint = s.dc.setpoint ∧
    (countsEnded why s).dc.accel = s.dc.accel ∧ (countsEnded why s).mr.strays = s.mr.strays ∧
    (countsEnded why s).cv = s.cv ∧ (countsEnded why s).now = s.now ∧ (countsEnded why s).freeCount = s.freeCount ∧
    (countsEnded why s).pending = s.pending := by
  unfold countsEnded
  (try dsimp only)
  (repeat' split) <;> simp

@[simp] theorem reportEnded_frame (ok : Bool) (s : State) :
    (reportEnded ok s).pins = s.pins ∧ (reportEnded ok s).cfg = s.cfg ∧
    (reportEnded ok s).smp.chainHead = s.smp.chainHead ∧ (reportEnded ok s).smp.progBase = s.smp.progBase ∧
    (reportEnded ok s).smp.noticeMask = s.smp.noticeMask ∧ (reportEnded ok s).smp.burstLimit = s.smp.burstLimit ∧
    (reportEnded ok s).smp.pollPeriod = s.smp.pollPeriod ∧
    (reportEnded ok s).smp.copies = s.smp.copies ∧ (reportEnded ok s).tr.pos = s.tr.pos ∧
    (reportEnded ok s).tr.step = s.tr.step ∧ (reportEnded ok s).re = s.re ∧ (reportEnded ok s).ps = s.ps ∧
    (reportEnded ok s).bt = s.bt ∧ (reportEnded ok s).hc = s.hc ∧ (reportEnded ok s).dc = s.dc ∧
    (reportEnded ok s).mr.strays = s.mr.strays ∧ (reportEnded ok s).mr.counterCopy = s.mr.counterCopy ∧
    (reportEnded ok s).cv = s.cv ∧ (reportEnded ok s).now = s.now ∧
    (reportEnded ok s).freeCount = s.freeCount ∧ (reportEnded ok s).out = s.out ∧ (reportEnded ok s).pending = s.pending := by
  unfold reportEnded
  (try dsimp only)
  (repeat' split) <;> simp

@[simp] theorem transferEnded_frame (t : Transfer) (s : State) :
    (transferEnded t s).pins = s.pins ∧ (transferEnded t s).smp.chainHead = s.smp.chainHead ∧
    (transferEnded t s).smp.progBase = s.smp.progBase ∧ (transferEnded t s).smp.noticeMask = s.smp.noticeMask ∧
    (transferEnded t s).smp.burstLimit = s.smp.burstLimit ∧ (transferEnded t s).smp.pollPeriod = s.smp.pollPeriod ∧
    (transferEnded t s).bt.pos = s.bt.pos ∧ (transferEnded t s).dc.ref = s.dc.ref ∧
    (transferEnded t s).dc.silence = s.dc.silence ∧ (transferEnded t s).mr.strays = s.mr.strays ∧
    (transferEnded t s).cv = s.cv ∧ (transferEnded t s).now = s.now ∧ (transferEnded t s).freeCount = s.freeCount ∧
    (transferEnded t s).pending = s.pending := by
  unfold transferEnded
  (try dsimp only)
  (repeat' split) <;> simp

@[simp] theorem emitWrites_frame (ws : List Word) (addr : Nat) (s : State) :
    (emitWrites addr ws s).pins = s.pins ∧ (emitWrites addr ws s).cfg = s.cfg ∧ (emitWrites addr ws s).smp = s.smp ∧
    (emitWrites addr ws s).tr = s.tr ∧ (emitWrites addr ws s).re = s.re ∧ (emitWrites addr ws s).ps = s.ps ∧
    (emitWrites addr ws s).bt = s.bt ∧ (emitWrites addr ws s).hc = s.hc ∧ (emitWrites addr ws s).dc = s.dc ∧
    (emitWrites addr ws s).mr = s.mr ∧ (emitWrites addr ws s).cv = s.cv ∧ (emitWrites addr ws s).now = s.now ∧
    (emitWrites addr ws s).freeCount = s.freeCount ∧ (emitWrites addr ws s).pending = s.pending := by
  induction ws generalizing s addr with
  | nil => simp [emitWrites]
  | cons w ws ih => simp [emitWrites, ih]

@[simp] theorem stageWords_frame (t : Transfer) (ws : List Word) (s : State) :
    (stageWords t ws s).pins = s.pins ∧ (stageWords t ws s).cfg = s.cfg ∧ (stageWords t ws s).smp = s.smp ∧
    (stageWords t ws s).tr = s.tr ∧ (stageWords t ws s).re = s.re ∧ (stageWords t ws s).ps.slots = s.ps.slots ∧
    (stageWords t ws s).bt = s.bt ∧ (stageWords t ws s).hc = s.hc ∧ (stageWords t ws s).dc = s.dc ∧
    (stageWords t ws s).mr = s.mr ∧ (stageWords t ws s).cv = s.cv ∧ (stageWords t ws s).now = s.now ∧
    (stageWords t ws s).freeCount = s.freeCount ∧ (stageWords t ws s).out = s.out ∧
    (stageWords t ws s).pending = s.pending := by
  unfold stageWords
  (try dsimp only)
  (repeat' split) <;> simp

@[simp] theorem transferBurst_frame (c : Client) (t : Transfer) (rest : List Transfer) (g : Grant) (ws : List Word) (s : State) :
    (transferBurst c t rest g ws s).pins = s.pins ∧ (transferBurst c t rest g ws s).smp.chainHead = s.smp.chainHead ∧
    (transferBurst c t rest g ws s).smp.progBase = s.smp.progBase ∧
    (transferBurst c t rest g ws s).smp.noticeMask = s.smp.noticeMask ∧
    (transferBurst c t rest g ws s).smp.burstLimit = s.smp.burstLimit ∧
    (transferBurst c t rest g ws s).smp.pollPeriod = s.smp.pollPeriod ∧
    (transferBurst c t rest g ws s).bt.pos = s.bt.pos ∧ (transferBurst c t rest g ws s).dc.ref = s.dc.ref ∧
    (transferBurst c t rest g ws s).dc.silence = s.dc.silence ∧ (transferBurst c t rest g ws s).mr.strays = s.mr.strays ∧
    (transferBurst c t rest g ws s).cv = s.cv ∧ (transferBurst c t rest g ws s).now = s.now ∧
    (transferBurst c t rest g ws s).freeCount = s.freeCount ∧ (transferBurst c t rest g ws s).pending = s.pending := by
  unfold transferBurst
  (try dsimp only)
  (repeat' split) <;> simp

@[simp] theorem rowWords_frame (ws : List Word) (s : State) :
    (rowWords ws s).pins = s.pins ∧ (rowWords ws s).cfg = s.cfg ∧ (rowWords ws s).smp = s.smp ∧
    (rowWords ws s).tr = s.tr ∧ (rowWords ws s).re.raster = s.re.raster ∧ (rowWords ws s).re.seg = s.re.seg ∧
    (rowWords ws s).re.band = s.re.band ∧ (rowWords ws s).re.ending = s.re.ending ∧
    (rowWords ws s).re.printEnd = s.re.printEnd ∧ (rowWords ws s).re.lastStarted = s.re.lastStarted ∧
    (rowWords ws s).re.serial = s.re.serial ∧ (rowWords ws s).re.lowWater = s.re.lowWater ∧
    (rowWords ws s).re.underruns = s.re.underruns ∧ (rowWords ws s).re.gaps = s.re.gaps ∧ (rowWords ws s).ps = s.ps ∧
    (rowWords ws s).bt = s.bt ∧ (rowWords ws s).hc = s.hc ∧ (rowWords ws s).dc = s.dc ∧ (rowWords ws s).mr = s.mr ∧
    (rowWords ws s).cv = s.cv ∧ (rowWords ws s).now = s.now ∧ (rowWords ws s).freeCount = s.freeCount ∧
    (rowWords ws s).out = s.out ∧ (rowWords ws s).pending = s.pending := by
  unfold rowWords
  (try dsimp only)
  (repeat' split) <;> simp

@[simp] theorem rowBurst_frame (g : Grant) (ws : List Word) (s : State) :
    (rowBurst g ws s).pins = s.pins ∧ (rowBurst g ws s).cfg = s.cfg ∧ (rowBurst g ws s).smp.chainHead = s.smp.chainHead ∧
    (rowBurst g ws s).smp.progBase = s.smp.progBase ∧ (rowBurst g ws s).smp.noticeMask = s.smp.noticeMask ∧
    (rowBurst g ws s).smp.burstLimit = s.smp.burstLimit ∧ (rowBurst g ws s).smp.pollPeriod = s.smp.pollPeriod ∧
    (rowBurst g ws s).smp.soft = s.smp.soft ∧ (rowBurst g ws s).smp.copies = s.smp.copies ∧
    (rowBurst g ws s).tr.pos = s.tr.pos ∧ (rowBurst g ws s).tr.step = s.tr.step ∧
    (rowBurst g ws s).tr.pauseReq = s.tr.pauseReq ∧ (rowBurst g ws s).re.serial = s.re.serial ∧
    (rowBurst g ws s).ps = s.ps ∧ (rowBurst g ws s).bt.splices = s.bt.splices ∧ (rowBurst g ws s).bt.pos = s.bt.pos ∧
    (rowBurst g ws s).bt.overflow = s.bt.overflow ∧ (rowBurst g ws s).bt.retiring = s.bt.retiring ∧
    (rowBurst g ws s).hc = s.hc ∧ (rowBurst g ws s).dc.nip = s.dc.nip ∧ (rowBurst g ws s).dc.valve = s.dc.valve ∧
    (rowBurst g ws s).dc.ref = s.dc.ref ∧ (rowBurst g ws s).dc.silence = s.dc.silence ∧
    (rowBurst g ws s).dc.stopKind = s.dc.stopKind ∧ (rowBurst g ws s).dc.setpoint = s.dc.setpoint ∧
    (rowBurst g ws s).dc.accel = s.dc.accel ∧ (rowBurst g ws s).mr.ccur = s.mr.ccur ∧
    (rowBurst g ws s).mr.lock = s.mr.lock ∧ (rowBurst g ws s).mr.strays = s.mr.strays ∧
    (rowBurst g ws s).mr.lastRead = s.mr.lastRead ∧ (rowBurst g ws s).mr.found = s.mr.found ∧
    (rowBurst g ws s).mr.miss = s.mr.miss ∧ (rowBurst g ws s).cv = s.cv ∧ (rowBurst g ws s).now = s.now ∧
    (rowBurst g ws s).freeCount = s.freeCount ∧ (rowBurst g ws s).pending = s.pending := by
  unfold rowBurst
  (try dsimp only)
  (repeat' split) <;> simp

@[simp] theorem burstEnd_frame (ws : List Word) (s : State) :
    (burstEnd ws s).pins = s.pins ∧ (burstEnd ws s).smp.chainHead = s.smp.chainHead ∧
    (burstEnd ws s).smp.progBase = s.smp.progBase ∧ (burstEnd ws s).smp.noticeMask = s.smp.noticeMask ∧
    (burstEnd ws s).smp.burstLimit = s.smp.burstLimit ∧ (burstEnd ws s).smp.pollPeriod = s.smp.pollPeriod ∧
    (burstEnd ws s).bt.pos = s.bt.pos ∧ (burstEnd ws s).dc.ref = s.dc.ref ∧ (burstEnd ws s).dc.silence = s.dc.silence ∧
    (burstEnd ws s).mr.strays = s.mr.strays ∧ (burstEnd ws s).cv = s.cv ∧ (burstEnd ws s).now = s.now ∧
    (burstEnd ws s).freeCount = s.freeCount ∧ (burstEnd ws s).pending = s.pending := by
  unfold burstEnd
  (try dsimp only)
  (repeat' split) <;> simp

@[simp] theorem transferDone_frame (p : Transfer → Bool) (ws : List Word) (s : State) :
    (transferDone p ws s).pins = s.pins ∧ (transferDone p ws s).smp.chainHead = s.smp.chainHead ∧
    (transferDone p ws s).smp.progBase = s.smp.progBase ∧ (transferDone p ws s).smp.noticeMask = s.smp.noticeMask ∧
    (transferDone p ws s).smp.burstLimit = s.smp.burstLimit ∧ (transferDone p ws s).smp.pollPeriod = s.smp.pollPeriod ∧
    (transferDone p ws s).bt.pos = s.bt.pos ∧ (transferDone p ws s).dc.ref = s.dc.ref ∧
    (transferDone p ws s).dc.silence = s.dc.silence ∧ (transferDone p ws s).mr.strays = s.mr.strays ∧
    (transferDone p ws s).cv = s.cv ∧ (transferDone p ws s).now = s.now ∧ (transferDone p ws s).freeCount = s.freeCount ∧
    (transferDone p ws s).pending = s.pending := by
  unfold transferDone
  (try dsimp only)
  (repeat' split) <;> simp

@[simp] theorem ticketReadFailed_frame (s : State) :
    (ticketReadFailed s).pins = s.pins ∧ (ticketReadFailed s).cfg = s.cfg ∧ (ticketReadFailed s).smp = s.smp ∧
    (ticketReadFailed s).tr.pos = s.tr.pos ∧ (ticketReadFailed s).tr.step = s.tr.step ∧
    (ticketReadFailed s).tr.pauseReq = s.tr.pauseReq ∧ (ticketReadFailed s).re = s.re ∧ (ticketReadFailed s).ps = s.ps ∧
    (ticketReadFailed s).bt = s.bt ∧ (ticketReadFailed s).hc = s.hc ∧ (ticketReadFailed s).dc = s.dc ∧
    (ticketReadFailed s).mr = s.mr ∧ (ticketReadFailed s).cv = s.cv ∧ (ticketReadFailed s).now = s.now ∧
    (ticketReadFailed s).freeCount = s.freeCount ∧ (ticketReadFailed s).out = s.out ∧
    (ticketReadFailed s).pending = s.pending := by
  unfold ticketReadFailed
  (try dsimp only)
  (repeat' split) <;> simp

@[simp] theorem transferFailed_frame (c : Client) (t : Transfer) (rest : List Transfer) (s : State) :
    (transferFailed c t rest s).pins = s.pins ∧ (transferFailed c t rest s).cfg = s.cfg ∧
    (transferFailed c t rest s).smp.chainHead = s.smp.chainHead ∧
    (transferFailed c t rest s).smp.progBase = s.smp.progBase ∧
    (transferFailed c t rest s).smp.noticeMask = s.smp.noticeMask ∧
    (transferFailed c t rest s).smp.burstLimit = s.smp.burstLimit ∧
    (transferFailed c t rest s).smp.pollPeriod = s.smp.pollPeriod ∧ (transferFailed c t rest s).tr.pos = s.tr.pos ∧
    (transferFailed c t rest s).tr.step = s.tr.step ∧ (transferFailed c t rest s).re.serial = s.re.serial ∧
    (transferFailed c t rest s).ps.slots = s.ps.slots ∧ (transferFailed c t rest s).bt.pos = s.bt.pos ∧
    (transferFailed c t rest s).hc = s.hc ∧ (transferFailed c t rest s).dc.ref = s.dc.ref ∧
    (transferFailed c t rest s).dc.silence = s.dc.silence ∧ (transferFailed c t rest s).dc.setpoint = s.dc.setpoint ∧
    (transferFailed c t rest s).dc.accel = s.dc.accel ∧ (transferFailed c t rest s).mr.strays = s.mr.strays ∧
    (transferFailed c t rest s).cv = s.cv ∧ (transferFailed c t rest s).now = s.now ∧
    (transferFailed c t rest s).freeCount = s.freeCount ∧ (transferFailed c t rest s).pending = s.pending := by
  unfold transferFailed
  (try dsimp only)
  (repeat' split) <;> simp

@[simp] theorem rowFailed_frame (s : State) :
    (rowFailed s).pins = s.pins ∧ (rowFailed s).cfg = s.cfg ∧ (rowFailed s).smp = s.smp ∧ (rowFailed s).tr = s.tr ∧
    (rowFailed s).re.raster = s.re.raster ∧ (rowFailed s).re.seg = s.re.seg ∧ (rowFailed s).re.band = s.re.band ∧
    (rowFailed s).re.ending = s.re.ending ∧ (rowFailed s).re.printEnd = s.re.printEnd ∧
    (rowFailed s).re.lastStarted = s.re.lastStarted ∧ (rowFailed s).re.serial = s.re.serial ∧
    (rowFailed s).re.lowWater = s.re.lowWater ∧ (rowFailed s).re.underruns = s.re.underruns ∧
    (rowFailed s).re.gaps = s.re.gaps ∧ (rowFailed s).ps = s.ps ∧ (rowFailed s).bt = s.bt ∧ (rowFailed s).hc = s.hc ∧
    (rowFailed s).dc = s.dc ∧ (rowFailed s).mr = s.mr ∧ (rowFailed s).cv = s.cv ∧ (rowFailed s).now = s.now ∧
    (rowFailed s).freeCount = s.freeCount ∧ (rowFailed s).out = s.out ∧ (rowFailed s).pending = s.pending := by
  unfold rowFailed
  (try dsimp only)
  (repeat' split) <;> simp

@[simp] theorem cutBurst_frame (moved : Nat) (s : State) :
    (cutBurst moved s).pins = s.pins ∧ (cutBurst moved s).cfg = s.cfg ∧ (cutBurst moved s).smp = s.smp ∧
    (cutBurst moved s).tr = s.tr ∧ (cutBurst moved s).re = s.re ∧ (cutBurst moved s).ps = s.ps ∧
    (cutBurst moved s).bt = s.bt ∧ (cutBurst moved s).hc = s.hc ∧ (cutBurst moved s).dc = s.dc ∧
    (cutBurst moved s).mr = s.mr ∧ (cutBurst moved s).cv = s.cv ∧ (cutBurst moved s).now = s.now ∧
    (cutBurst moved s).freeCount = s.freeCount ∧ (cutBurst moved s).pending = s.pending := by
  unfold cutBurst
  (try dsimp only)
  (repeat' split) <;> simp

@[simp] theorem busError_frame (moved : Nat) (s : State) :
    (busError moved s).pins = s.pins ∧ (busError moved s).cfg = s.cfg ∧
    (busError moved s).smp.chainHead = s.smp.chainHead ∧ (busError moved s).smp.progBase = s.smp.progBase ∧
    (busError moved s).smp.noticeMask = s.smp.noticeMask ∧ (busError moved s).smp.burstLimit = s.smp.burstLimit ∧
    (busError moved s).smp.pollPeriod = s.smp.pollPeriod ∧ (busError moved s).tr.pos = s.tr.pos ∧
    (busError moved s).tr.step = s.tr.step ∧ (busError moved s).re.serial = s.re.serial ∧
    (busError moved s).ps.slots = s.ps.slots ∧ (busError moved s).bt.pos = s.bt.pos ∧ (busError moved s).hc = s.hc ∧
    (busError moved s).dc.ref = s.dc.ref ∧ (busError moved s).dc.silence = s.dc.silence ∧
    (busError moved s).dc.setpoint = s.dc.setpoint ∧ (busError moved s).dc.accel = s.dc.accel ∧
    (busError moved s).mr.strays = s.mr.strays ∧ (busError moved s).cv = s.cv ∧ (busError moved s).now = s.now ∧
    (busError moved s).freeCount = s.freeCount ∧ (busError moved s).pending = s.pending := by
  unfold busError
  (try dsimp only)
  (repeat' split) <;> simp

@[simp] theorem writeChainHead_frame (v : Word) (s : State) :
    (writeChainHead v s).pins = s.pins ∧ (writeChainHead v s).cfg = s.cfg ∧
    (writeChainHead v s).smp.progBase = s.smp.progBase ∧ (writeChainHead v s).smp.noticeMask = s.smp.noticeMask ∧
    (writeChainHead v s).smp.burstLimit = s.smp.burstLimit ∧ (writeChainHead v s).smp.pollPeriod = s.smp.pollPeriod ∧
    (writeChainHead v s).smp.soft = s.smp.soft ∧ (writeChainHead v s).smp.writes = s.smp.writes ∧
    (writeChainHead v s).smp.copies = s.smp.copies ∧ (writeChainHead v s).tr = s.tr ∧ (writeChainHead v s).re = s.re ∧
    (writeChainHead v s).ps = s.ps ∧ (writeChainHead v s).bt = s.bt ∧ (writeChainHead v s).hc = s.hc ∧
    (writeChainHead v s).dc = s.dc ∧ (writeChainHead v s).mr = s.mr ∧ (writeChainHead v s).cv = s.cv ∧
    (writeChainHead v s).now = s.now ∧ (writeChainHead v s).freeCount = s.freeCount ∧ (writeChainHead v s).out = s.out ∧
    (writeChainHead v s).pending = s.pending := by
  unfold writeChainHead
  (try dsimp only)
  (repeat' split) <;> simp

@[simp] theorem writeProgBase_frame (v : Word) (s : State) :
    (writeProgBase v s).pins = s.pins ∧ (writeProgBase v s).cfg = s.cfg ∧
    (writeProgBase v s).smp.chainHead = s.smp.chainHead ∧ (writeProgBase v s).smp.noticeMask = s.smp.noticeMask ∧
    (writeProgBase v s).smp.burstLimit = s.smp.burstLimit ∧ (writeProgBase v s).smp.pollPeriod = s.smp.pollPeriod ∧
    (writeProgBase v s).smp.soft = s.smp.soft ∧ (writeProgBase v s).smp.writes = s.smp.writes ∧
    (writeProgBase v s).smp.copies = s.smp.copies ∧ (writeProgBase v s).tr = s.tr ∧ (writeProgBase v s).re = s.re ∧
    (writeProgBase v s).ps = s.ps ∧ (writeProgBase v s).bt = s.bt ∧ (writeProgBase v s).hc = s.hc ∧
    (writeProgBase v s).dc = s.dc ∧ (writeProgBase v s).mr = s.mr ∧ (writeProgBase v s).cv = s.cv ∧
    (writeProgBase v s).now = s.now ∧ (writeProgBase v s).freeCount = s.freeCount ∧ (writeProgBase v s).out = s.out ∧
    (writeProgBase v s).pending = s.pending := by
  unfold writeProgBase
  (try dsimp only)
  (repeat' split) <;> simp

@[simp] theorem writeNotice_frame (v : Word) (s : State) :
    (writeNotice v s).pins = s.pins ∧ (writeNotice v s).cfg = s.cfg ∧ (writeNotice v s).smp.chainHead = s.smp.chainHead ∧
    (writeNotice v s).smp.progBase = s.smp.progBase ∧ (writeNotice v s).smp.noticeMask = s.smp.noticeMask ∧
    (writeNotice v s).smp.burstLimit = s.smp.burstLimit ∧ (writeNotice v s).smp.pollPeriod = s.smp.pollPeriod ∧
    (writeNotice v s).smp.soft = s.smp.soft ∧ (writeNotice v s).smp.writes = s.smp.writes ∧
    (writeNotice v s).smp.copies = s.smp.copies ∧ (writeNotice v s).tr = s.tr ∧ (writeNotice v s).re = s.re ∧
    (writeNotice v s).ps = s.ps ∧ (writeNotice v s).bt = s.bt ∧ (writeNotice v s).hc = s.hc ∧
    (writeNotice v s).dc = s.dc ∧ (writeNotice v s).mr = s.mr ∧ (writeNotice v s).cv = s.cv ∧
    (writeNotice v s).now = s.now ∧ (writeNotice v s).freeCount = s.freeCount ∧ (writeNotice v s).out = s.out ∧
    (writeNotice v s).pending = s.pending := by
  unfold writeNotice
  (try dsimp only)
  (repeat' split) <;> simp

@[simp] theorem writeNoticeMask_frame (v : Word) (s : State) :
    (writeNoticeMask v s).pins = s.pins ∧ (writeNoticeMask v s).cfg = s.cfg ∧
    (writeNoticeMask v s).smp.chainHead = s.smp.chainHead ∧ (writeNoticeMask v s).smp.progBase = s.smp.progBase ∧
    (writeNoticeMask v s).smp.burstLimit = s.smp.burstLimit ∧ (writeNoticeMask v s).smp.pollPeriod = s.smp.pollPeriod ∧
    (writeNoticeMask v s).smp.soft = s.smp.soft ∧ (writeNoticeMask v s).smp.writes = s.smp.writes ∧
    (writeNoticeMask v s).smp.copies = s.smp.copies ∧ (writeNoticeMask v s).tr = s.tr ∧ (writeNoticeMask v s).re = s.re ∧
    (writeNoticeMask v s).ps = s.ps ∧ (writeNoticeMask v s).bt = s.bt ∧ (writeNoticeMask v s).hc = s.hc ∧
    (writeNoticeMask v s).dc = s.dc ∧ (writeNoticeMask v s).mr = s.mr ∧ (writeNoticeMask v s).cv = s.cv ∧
    (writeNoticeMask v s).now = s.now ∧ (writeNoticeMask v s).freeCount = s.freeCount ∧
    (writeNoticeMask v s).out = s.out ∧ (writeNoticeMask v s).pending = s.pending := by
  unfold writeNoticeMask
  (try dsimp only)
  (repeat' split) <;> simp

@[simp] theorem writePortCfg_frame (v : Word) (s : State) :
    (writePortCfg v s).pins = s.pins ∧ (writePortCfg v s).cfg = s.cfg ∧
    (writePortCfg v s).smp.chainHead = s.smp.chainHead ∧ (writePortCfg v s).smp.progBase = s.smp.progBase ∧
    (writePortCfg v s).smp.noticeMask = s.smp.noticeMask ∧ (writePortCfg v s).smp.soft = s.smp.soft ∧
    (writePortCfg v s).smp.writes = s.smp.writes ∧ (writePortCfg v s).smp.copies = s.smp.copies ∧
    (writePortCfg v s).tr = s.tr ∧ (writePortCfg v s).re = s.re ∧ (writePortCfg v s).ps = s.ps ∧
    (writePortCfg v s).bt = s.bt ∧ (writePortCfg v s).hc = s.hc ∧ (writePortCfg v s).dc = s.dc ∧
    (writePortCfg v s).mr = s.mr ∧ (writePortCfg v s).cv = s.cv ∧ (writePortCfg v s).now = s.now ∧
    (writePortCfg v s).freeCount = s.freeCount ∧ (writePortCfg v s).out = s.out ∧ (writePortCfg v s).pending = s.pending := by
  unfold writePortCfg
  (try dsimp only)
  (repeat' split) <;> simp

@[simp] theorem writeLineCtl_frame (v : Word) (s : State) :
    (writeLineCtl v s).pins = s.pins ∧ (writeLineCtl v s).cfg = s.cfg ∧
    (writeLineCtl v s).smp.chainHead = s.smp.chainHead ∧ (writeLineCtl v s).smp.progBase = s.smp.progBase ∧
    (writeLineCtl v s).smp.noticeMask = s.smp.noticeMask ∧ (writeLineCtl v s).smp.burstLimit = s.smp.burstLimit ∧
    (writeLineCtl v s).smp.pollPeriod = s.smp.pollPeriod ∧ (writeLineCtl v s).re.serial = s.re.serial ∧
    (writeLineCtl v s).ps.slots = s.ps.slots ∧ (writeLineCtl v s).bt.pos = s.bt.pos ∧
    (writeLineCtl v s).bt.retiring = s.bt.retiring ∧ (writeLineCtl v s).hc.ton = s.hc.ton ∧
    (writeLineCtl v s).hc.ramp = s.hc.ramp ∧ (writeLineCtl v s).hc.kp = s.hc.kp ∧ (writeLineCtl v s).hc.ki = s.hc.ki ∧
    (writeLineCtl v s).hc.retain = s.hc.retain ∧ (writeLineCtl v s).mr.strays = s.mr.strays ∧
    (writeLineCtl v s).cv.status = s.cv.status ∧ (writeLineCtl v s).now = s.now ∧
    (writeLineCtl v s).freeCount = s.freeCount ∧ (writeLineCtl v s).pending = s.pending := by
  unfold writeLineCtl onBit
  (try dsimp only)
  (repeat' split) <;> simp

@[simp] theorem writeRegister_frame (offset bytes : Nat) (v : Word) (s : State) :
    (writeRegister offset bytes v s).pins = s.pins ∧ (writeRegister offset bytes v s).cfg = s.cfg ∧
    (writeRegister offset bytes v s).re.serial = s.re.serial ∧ (writeRegister offset bytes v s).ps.slots = s.ps.slots ∧
    (writeRegister offset bytes v s).bt.pos = s.bt.pos ∧ (writeRegister offset bytes v s).bt.retiring = s.bt.retiring ∧
    (writeRegister offset bytes v s).hc.ton = s.hc.ton ∧ (writeRegister offset bytes v s).hc.ramp = s.hc.ramp ∧
    (writeRegister offset bytes v s).hc.kp = s.hc.kp ∧ (writeRegister offset bytes v s).hc.ki = s.hc.ki ∧
    (writeRegister offset bytes v s).hc.retain = s.hc.retain ∧ (writeRegister offset bytes v s).mr.strays = s.mr.strays ∧
    (writeRegister offset bytes v s).cv.status = s.cv.status ∧ (writeRegister offset bytes v s).now = s.now ∧
    (writeRegister offset bytes v s).freeCount = s.freeCount ∧ (writeRegister offset bytes v s).pending = s.pending := by
  unfold writeRegister lineCtl
  (try dsimp only)
  (repeat' split) <;> simp

@[simp] theorem progressTimer_frame (s : State) :
    (progressTimer s).pins = s.pins ∧ (progressTimer s).cfg = s.cfg ∧ (progressTimer s).smp.chainHead = s.smp.chainHead ∧
    (progressTimer s).smp.progBase = s.smp.progBase ∧ (progressTimer s).smp.noticeMask = s.smp.noticeMask ∧
    (progressTimer s).smp.burstLimit = s.smp.burstLimit ∧ (progressTimer s).smp.pollPeriod = s.smp.pollPeriod ∧
    (progressTimer s).smp.soft = s.smp.soft ∧ (progressTimer s).smp.writes = s.smp.writes ∧
    (progressTimer s).smp.copies = s.smp.copies ∧ (progressTimer s).tr = s.tr ∧ (progressTimer s).re = s.re ∧
    (progressTimer s).ps = s.ps ∧ (progressTimer s).bt = s.bt ∧ (progressTimer s).hc = s.hc ∧
    (progressTimer s).dc = s.dc ∧ (progressTimer s).mr = s.mr ∧ (progressTimer s).cv = s.cv ∧
    (progressTimer s).now = s.now ∧ (progressTimer s).freeCount = s.freeCount ∧ (progressTimer s).out = s.out ∧
    (progressTimer s).pending = s.pending := by
  unfold progressTimer
  (try dsimp only)
  (repeat' split) <;> simp

@[simp] theorem tick_frame (s : State) :
    (tick s).pins = s.pins ∧ (tick s).cfg = s.cfg ∧ (tick s).smp.chainHead = s.smp.chainHead ∧
    (tick s).smp.progBase = s.smp.progBase ∧ (tick s).smp.noticeMask = s.smp.noticeMask ∧
    (tick s).smp.burstLimit = s.smp.burstLimit ∧ (tick s).smp.pollPeriod = s.smp.pollPeriod ∧
    (tick s).smp.soft = s.smp.soft ∧ (tick s).smp.writes = s.smp.writes ∧ (tick s).smp.copies = s.smp.copies ∧
    (tick s).tr.reader = s.tr.reader ∧ (tick s).tr.pos = s.tr.pos ∧ (tick s).tr.step = s.tr.step ∧
    (tick s).tr.ticket = s.tr.ticket ∧ (tick s).tr.pauseReq = s.tr.pauseReq ∧ (tick s).tr.haltReq = s.tr.haltReq ∧
    (tick s).re = s.re ∧ (tick s).ps = s.ps ∧ (tick s).bt = s.bt ∧ (tick s).hc = s.hc ∧ (tick s).dc.line = s.dc.line ∧
    (tick s).dc.nip = s.dc.nip ∧ (tick s).dc.valve = s.dc.valve ∧ (tick s).dc.ref = s.dc.ref ∧
    (tick s).dc.stopKind = s.dc.stopKind ∧ (tick s).dc.setpoint = s.dc.setpoint ∧ (tick s).dc.accel = s.dc.accel ∧
    (tick s).dc.startCause = s.dc.startCause ∧ (tick s).mr = s.mr ∧ (tick s).cv.list = s.cv.list ∧
    (tick s).cv.drift = s.cv.drift ∧ (tick s).cv.status = s.cv.status ∧ (tick s).freeCount = s.freeCount ∧
    (tick s).pending = s.pending := by
  unfold tick powered
  (try dsimp only)
  (repeat' split) <;> simp

/-- A command keeps what its body keeps, unless it is an output: `g` must not look at `out`, and the arbiter keeps it. -/
theorem command_keeps {α : Type} (g : State → α) (f : State → State) (hk : ∀ s, g (kick s) = g s)
    (ho : ∀ s : State, g { s with out := [] } = g s) (hf : ∀ s, g (f s) = g s) (s : State) : g (command f s) = g s := by
  unfold command powered
  split
  · rw [hk, hf, ho]
  · exact ho s

@[simp] theorem ticketStep_frame (k : TicketKind) (ws : List Word) (s : State) :
    (ticketStep k ws s).pins = s.pins ∧ (ticketStep k ws s).smp.chainHead = s.smp.chainHead ∧
    (ticketStep k ws s).smp.progBase = s.smp.progBase ∧ (ticketStep k ws s).smp.noticeMask = s.smp.noticeMask ∧
    (ticketStep k ws s).smp.burstLimit = s.smp.burstLimit ∧ (ticketStep k ws s).smp.pollPeriod = s.smp.pollPeriod ∧
    (ticketStep k ws s).bt.pos = s.bt.pos ∧ (ticketStep k ws s).dc.ref = s.dc.ref ∧
    (ticketStep k ws s).dc.silence = s.dc.silence ∧ (ticketStep k ws s).mr.strays = s.mr.strays ∧
    (ticketStep k ws s).cv = s.cv ∧ (ticketStep k ws s).now = s.now ∧ (ticketStep k ws s).freeCount = s.freeCount ∧
    (ticketStep k ws s).pending = s.pending := by
  unfold ticketStep
  (try dsimp only)
  (repeat' split) <;> simp

@[simp] theorem lockAcquired_frame (s : State) :
    (lockAcquired s).pins = s.pins ∧ (lockAcquired s).cfg = s.cfg ∧ (lockAcquired s).smp.chainHead = s.smp.chainHead ∧
    (lockAcquired s).smp.progBase = s.smp.progBase ∧ (lockAcquired s).smp.noticeMask = s.smp.noticeMask ∧
    (lockAcquired s).smp.burstLimit = s.smp.burstLimit ∧ (lockAcquired s).smp.pollPeriod = s.smp.pollPeriod ∧
    (lockAcquired s).smp.soft = s.smp.soft ∧ (lockAcquired s).smp.writes = s.smp.writes ∧
    (lockAcquired s).smp.copies = s.smp.copies ∧ (lockAcquired s).tr = s.tr ∧ (lockAcquired s).re = s.re ∧
    (lockAcquired s).ps = s.ps ∧ (lockAcquired s).bt.splices = s.bt.splices ∧ (lockAcquired s).bt.tallies = s.bt.tallies ∧
    (lockAcquired s).bt.pos = s.bt.pos ∧ (lockAcquired s).bt.nextNumber = s.bt.nextNumber ∧
    (lockAcquired s).bt.overflow = s.bt.overflow ∧ (lockAcquired s).bt.retiring = s.bt.retiring ∧
    (lockAcquired s).hc = s.hc ∧ (lockAcquired s).dc = s.dc ∧ (lockAcquired s).mr.ccur = s.mr.ccur ∧
    (lockAcquired s).mr.strays = s.mr.strays ∧ (lockAcquired s).mr.counterCopy = s.mr.counterCopy ∧
    (lockAcquired s).mr.lastRead = s.mr.lastRead ∧ (lockAcquired s).cv = s.cv ∧ (lockAcquired s).now = s.now ∧
    (lockAcquired s).freeCount = s.freeCount ∧ (lockAcquired s).out = s.out ∧ (lockAcquired s).pending = s.pending := by
  unfold lockAcquired
  (try dsimp only)
  (repeat' split) <;> simp

@[simp] theorem rowDone_frame (ws : List Word) (s : State) :
    (rowDone ws s).pins = s.pins ∧ (rowDone ws s).smp.chainHead = s.smp.chainHead ∧
    (rowDone ws s).smp.progBase = s.smp.progBase ∧ (rowDone ws s).smp.noticeMask = s.smp.noticeMask ∧
    (rowDone ws s).smp.burstLimit = s.smp.burstLimit ∧ (rowDone ws s).smp.pollPeriod = s.smp.pollPeriod ∧
    (rowDone ws s).bt.pos = s.bt.pos ∧ (rowDone ws s).dc.ref = s.dc.ref ∧ (rowDone ws s).dc.silence = s.dc.silence ∧
    (rowDone ws s).mr.strays = s.mr.strays ∧ (rowDone ws s).cv = s.cv ∧ (rowDone ws s).now = s.now ∧
    (rowDone ws s).freeCount = s.freeCount ∧ (rowDone ws s).pending = s.pending := by
  unfold rowDone
  (try dsimp only)
  (repeat' split) <;> simp

@[simp] theorem heatSample_frame (ch : Oct Channel) (s : State) :
    (heatSample ch s).pins = s.pins ∧ (heatSample ch s).cfg = s.cfg ∧ (heatSample ch s).smp.chainHead = s.smp.chainHead ∧
    (heatSample ch s).smp.progBase = s.smp.progBase ∧ (heatSample ch s).smp.noticeMask = s.smp.noticeMask ∧
    (heatSample ch s).smp.burstLimit = s.smp.burstLimit ∧ (heatSample ch s).smp.pollPeriod = s.smp.pollPeriod ∧
    (heatSample ch s).smp.soft = s.smp.soft ∧ (heatSample ch s).smp.copies = s.smp.copies ∧
    (heatSample ch s).tr.pos = s.tr.pos ∧ (heatSample ch s).tr.step = s.tr.step ∧
    (heatSample ch s).re.printEnd = s.re.printEnd ∧ (heatSample ch s).re.lastStarted = s.re.lastStarted ∧
    (heatSample ch s).re.serial = s.re.serial ∧ (heatSample ch s).re.lowWater = s.re.lowWater ∧
    (heatSample ch s).re.underruns = s.re.underruns ∧ (heatSample ch s).re.gaps = s.re.gaps ∧
    (heatSample ch s).ps = s.ps ∧ (heatSample ch s).bt.splices = s.bt.splices ∧ (heatSample ch s).bt.pos = s.bt.pos ∧
    (heatSample ch s).bt.nextNumber = s.bt.nextNumber ∧ (heatSample ch s).bt.overflow = s.bt.overflow ∧
    (heatSample ch s).bt.retiring = s.bt.retiring ∧ (heatSample ch s).hc.ton = s.hc.ton ∧
    (heatSample ch s).hc.ramp = s.hc.ramp ∧ (heatSample ch s).hc.kp = s.hc.kp ∧ (heatSample ch s).hc.ki = s.hc.ki ∧
    (heatSample ch s).hc.retain = s.hc.retain ∧ (heatSample ch s).dc.ref = s.dc.ref ∧
    (heatSample ch s).dc.silence = s.dc.silence ∧ (heatSample ch s).dc.setpoint = s.dc.setpoint ∧
    (heatSample ch s).dc.accel = s.dc.accel ∧ (heatSample ch s).dc.startCause = s.dc.startCause ∧
    (heatSample ch s).mr.ccur = s.mr.ccur ∧ (heatSample ch s).mr.lock = s.mr.lock ∧
    (heatSample ch s).mr.strays = s.mr.strays ∧ (heatSample ch s).mr.lastRead = s.mr.lastRead ∧
    (heatSample ch s).mr.found = s.mr.found ∧ (heatSample ch s).mr.miss = s.mr.miss ∧ (heatSample ch s).cv = s.cv ∧
    (heatSample ch s).now = s.now ∧ (heatSample ch s).freeCount = s.freeCount ∧ (heatSample ch s).out = s.out ∧
    (heatSample ch s).pending = s.pending := by
  unfold heatSample
  (try dsimp only)
  (repeat' split) <;> simp

@[simp] theorem rampStep_frame (s : State) :
    (rampStep s).pins = s.pins ∧ (rampStep s).cfg = s.cfg ∧ (rampStep s).smp = s.smp ∧ (rampStep s).tr = s.tr ∧
    (rampStep s).re = s.re ∧ (rampStep s).ps = s.ps ∧ (rampStep s).bt = s.bt ∧ (rampStep s).hc.drum = s.hc.drum ∧
    (rampStep s).hc.settle = s.hc.settle ∧ (rampStep s).hc.ton = s.hc.ton ∧ (rampStep s).hc.ramp = s.hc.ramp ∧
    (rampStep s).hc.kp = s.hc.kp ∧ (rampStep s).hc.ki = s.hc.ki ∧ (rampStep s).hc.retain = s.hc.retain ∧
    (rampStep s).dc = s.dc ∧ (rampStep s).mr = s.mr ∧ (rampStep s).cv = s.cv ∧ (rampStep s).now = s.now ∧
    (rampStep s).freeCount = s.freeCount ∧ (rampStep s).out = s.out ∧ (rampStep s).pending = s.pending := by
  unfold rampStep
  (try dsimp only)
  (repeat' split) <;> simp

@[simp] theorem sampleNip_frame (openSw closedSw : Bool) (s : State) :
    (sampleNip openSw closedSw s).pins.powerGood = s.pins.powerGood ∧
    (sampleNip openSw closedSw s).pins.mainsOk = s.pins.mainsOk ∧ (sampleNip openSw closedSw s).cfg = s.cfg ∧
    (sampleNip openSw closedSw s).smp = s.smp ∧ (sampleNip openSw closedSw s).tr = s.tr ∧
    (sampleNip openSw closedSw s).re = s.re ∧ (sampleNip openSw closedSw s).ps = s.ps ∧
    (sampleNip openSw closedSw s).bt = s.bt ∧ (sampleNip openSw closedSw s).hc = s.hc ∧
    (sampleNip openSw closedSw s).dc = s.dc ∧ (sampleNip openSw closedSw s).mr = s.mr ∧
    (sampleNip openSw closedSw s).cv = s.cv ∧ (sampleNip openSw closedSw s).now = s.now ∧
    (sampleNip openSw closedSw s).freeCount = s.freeCount ∧ (sampleNip openSw closedSw s).out = s.out ∧
    (sampleNip openSw closedSw s).pending = s.pending := by
  unfold sampleNip
  (try dsimp only)
  (repeat' split) <;> simp

@[simp] theorem byteWhere_frame (p : ByteResult → Bool) (b : Byte) (framing : Bool) (s : State) :
    (byteWhere p b framing s).pins = s.pins ∧ (byteWhere p b framing s).cfg = s.cfg ∧
    (byteWhere p b framing s).smp.chainHead = s.smp.chainHead ∧ (byteWhere p b framing s).smp.progBase = s.smp.progBase ∧
    (byteWhere p b framing s).smp.noticeMask = s.smp.noticeMask ∧
    (byteWhere p b framing s).smp.burstLimit = s.smp.burstLimit ∧
    (byteWhere p b framing s).smp.pollPeriod = s.smp.pollPeriod ∧ (byteWhere p b framing s).smp.soft = s.smp.soft ∧
    (byteWhere p b framing s).smp.copies = s.smp.copies ∧ (byteWhere p b framing s).tr = s.tr ∧
    (byteWhere p b framing s).re = s.re ∧ (byteWhere p b framing s).ps.staging = s.ps.staging ∧
    (byteWhere p b framing s).bt.splices = s.bt.splices ∧ (byteWhere p b framing s).bt.pos = s.bt.pos ∧
    (byteWhere p b framing s).bt.nextNumber = s.bt.nextNumber ∧ (byteWhere p b framing s).bt.overflow = s.bt.overflow ∧
    (byteWhere p b framing s).hc = s.hc ∧ (byteWhere p b framing s).dc = s.dc ∧ (byteWhere p b framing s).mr = s.mr ∧
    (byteWhere p b framing s).now = s.now ∧ (byteWhere p b framing s).freeCount = s.freeCount ∧
    (byteWhere p b framing s).out = s.out ∧ (byteWhere p b framing s).pending = s.pending := by
  unfold byteWhere
  (try dsimp only)
  (repeat' split) <;> simp

@[simp] theorem instrumentSilence_frame (s : State) :
    (instrumentSilence s).pins = s.pins ∧ (instrumentSilence s).cfg = s.cfg ∧ (instrumentSilence s).smp = s.smp ∧
    (instrumentSilence s).tr = s.tr ∧ (instrumentSilence s).re = s.re ∧ (instrumentSilence s).ps = s.ps ∧
    (instrumentSilence s).bt = s.bt ∧ (instrumentSilence s).hc = s.hc ∧ (instrumentSilence s).dc = s.dc ∧
    (instrumentSilence s).mr = s.mr ∧ (instrumentSilence s).cv.list = s.cv.list ∧
    (instrumentSilence s).cv.drift = s.cv.drift ∧ (instrumentSilence s).now = s.now ∧
    (instrumentSilence s).freeCount = s.freeCount ∧ (instrumentSilence s).out = s.out ∧
    (instrumentSilence s).pending = s.pending := by
  unfold instrumentSilence
  (try dsimp only)
  (repeat' split) <;> simp

@[simp] theorem triggerTimeouts_frame (s : State) :
    (triggerTimeouts s).pins = s.pins ∧ (triggerTimeouts s).cfg = s.cfg ∧
    (triggerTimeouts s).smp.chainHead = s.smp.chainHead ∧ (triggerTimeouts s).smp.progBase = s.smp.progBase ∧
    (triggerTimeouts s).smp.noticeMask = s.smp.noticeMask ∧ (triggerTimeouts s).smp.burstLimit = s.smp.burstLimit ∧
    (triggerTimeouts s).smp.pollPeriod = s.smp.pollPeriod ∧ (triggerTimeouts s).smp.soft = s.smp.soft ∧
    (triggerTimeouts s).smp.copies = s.smp.copies ∧ (triggerTimeouts s).tr = s.tr ∧ (triggerTimeouts s).re = s.re ∧
    (triggerTimeouts s).ps = s.ps ∧ (triggerTimeouts s).bt.splices = s.bt.splices ∧
    (triggerTimeouts s).bt.pos = s.bt.pos ∧ (triggerTimeouts s).bt.nextNumber = s.bt.nextNumber ∧
    (triggerTimeouts s).bt.overflow = s.bt.overflow ∧ (triggerTimeouts s).hc = s.hc ∧ (triggerTimeouts s).dc = s.dc ∧
    (triggerTimeouts s).mr = s.mr ∧ (triggerTimeouts s).cv.drift = s.cv.drift ∧
    (triggerTimeouts s).cv.status = s.cv.status ∧ (triggerTimeouts s).now = s.now ∧
    (triggerTimeouts s).freeCount = s.freeCount ∧ (triggerTimeouts s).out = s.out ∧
    (triggerTimeouts s).pending = s.pending := by
  exact ⟨times_keeps timeoutHead (fun t => t.pins) (fun t => by simp) _ s,
    times_keeps timeoutHead (fun t => t.cfg) (fun t => by simp) _ s,
    times_keeps timeoutHead (fun t => t.smp.chainHead) (fun t => by simp) _ s,
    times_keeps timeoutHead (fun t => t.smp.progBase) (fun t => by simp) _ s,
    times_keeps timeoutHead (fun t => t.smp.noticeMask) (fun t => by simp) _ s,
    times_keeps timeoutHead (fun t => t.smp.burstLimit) (fun t => by simp) _ s,
    times_keeps timeoutHead (fun t => t.smp.pollPeriod) (fun t => by simp) _ s,
    times_keeps timeoutHead (fun t => t.smp.soft) (fun t => by simp) _ s,
    times_keeps timeoutHead (fun t => t.smp.copies) (fun t => by simp) _ s,
    times_keeps timeoutHead (fun t => t.tr) (fun t => by simp) _ s,
    times_keeps timeoutHead (fun t => t.re) (fun t => by simp) _ s,
    times_keeps timeoutHead (fun t => t.ps) (fun t => by simp) _ s,
    times_keeps timeoutHead (fun t => t.bt.splices) (fun t => by simp) _ s,
    times_keeps timeoutHead (fun t => t.bt.pos) (fun t => by simp) _ s,
    times_keeps timeoutHead (fun t => t.bt.nextNumber) (fun t => by simp) _ s,
    times_keeps timeoutHead (fun t => t.bt.overflow) (fun t => by simp) _ s,
    times_keeps timeoutHead (fun t => t.hc) (fun t => by simp) _ s,
    times_keeps timeoutHead (fun t => t.dc) (fun t => by simp) _ s,
    times_keeps timeoutHead (fun t => t.mr) (fun t => by simp) _ s,
    times_keeps timeoutHead (fun t => t.cv.drift) (fun t => by simp) _ s,
    times_keeps timeoutHead (fun t => t.cv.status) (fun t => by simp) _ s,
    times_keeps timeoutHead (fun t => t.now) (fun t => by simp) _ s,
    times_keeps timeoutHead (fun t => t.freeCount) (fun t => by simp) _ s,
    times_keeps timeoutHead (fun t => t.out) (fun t => by simp) _ s,
    times_keeps timeoutHead (fun t => t.pending) (fun t => by simp) _ s⟩

@[simp] theorem measureSent_frame (s : State) :
    (measureSent s).pins = s.pins ∧ (measureSent s).cfg = s.cfg ∧ (measureSent s).smp = s.smp ∧
    (measureSent s).tr = s.tr ∧ (measureSent s).re = s.re ∧ (measureSent s).ps = s.ps ∧ (measureSent s).bt = s.bt ∧
    (measureSent s).hc = s.hc ∧ (measureSent s).dc = s.dc ∧ (measureSent s).mr = s.mr ∧
    (measureSent s).cv.list = s.cv.list ∧ (measureSent s).cv.drift = s.cv.drift ∧
    (measureSent s).cv.status = s.cv.status ∧ (measureSent s).now = s.now ∧ (measureSent s).freeCount = s.freeCount ∧
    (measureSent s).pending = s.pending := by
  unfold measureSent
  (try dsimp only)
  (repeat' split) <;> simp

end Sys2Proof.Machine
end

