-- ==== Sys2Proof/Laws/Becomes.lean ====
section
/-! SUPPORT. Sys2Proof/Laws/Becomes.lean: what the arbiter, a progress request and a raised cause do to the port and to nothing else,
said once; a proof that a command `Becomes` something composes these. -/

namespace Sys2Proof.Machine

/-- The port's part of `Becomes`. -/
def PortStep (ns : List Notice) (p q : Port) : Prop :=
  q.chainHead = p.chainHead ∧ q.progBase = p.progBase ∧ q.noticeMask = p.noticeMask ∧ q.burstLimit = p.burstLimit ∧
  q.pollPeriod = p.pollPeriod ∧ q.soft = p.soft ∧ q.notice = ns.foldl (fun w n => w ||| (1#10 <<< n.bit)) p.notice ∧
  q.writes = p.writes ∧ q.copies = p.copies ∧ q.reads.filter Transfer.isTicketRead = p.reads.filter Transfer.isTicketRead

theorem PortStep.refl (p : Port) : PortStep [] p p := by simp [PortStep]

theorem PortStep.trans {ns ms : List Notice} {p q r : Port} (h1 : PortStep ns p q) (h2 : PortStep ms q r) :
    PortStep (ns ++ ms) p r := by
  obtain ⟨a1, a2, a3, a4, a5, a6, a7, a8, a9, a10⟩ := h1
  obtain ⟨b1, b2, b3, b4, b5, b6, b7, b8, b9, b10⟩ := h2
  refine ⟨b1.trans a1, b2.trans a2, b3.trans a3, b4.trans a4, b5.trans a5, b6.trans a6, ?_, b8.trans a8, b9.trans a9,
    b10.trans a10⟩
  rw [b7, a7, List.foldl_append]

/-- `Becomes` is: the same state but for the port, and a port step. -/
theorem becomes_iff (u t : State) (ns : List Notice) : Becomes u ns t ↔ t = { u with smp := t.smp } ∧ PortStep ns u.smp t.smp := by
  constructor
  · rintro ⟨⟨h1, h2, h3, h4, h5, ⟨r1, r2, r3, r4, r5⟩, h6, h7, h8⟩, ⟨w1, w2, w3⟩, h9⟩
    refine ⟨?_, r1, r2, r3, r4, r5, h6, h7, w1, w2, w3⟩
    have a1 := h8 .tr (by simp)
    have a2 := h8 .re (by simp)
    have a3 := h8 .ps (by simp)
    have a4 := h8 .bt (by simp)
    have a5 := h8 .hc (by simp)
    have a6 := h8 .dc (by simp)
    have a7 := h8 .mr (by simp)
    have a8 := h8 .cv (by simp)
    simp only [SameBlock] at a1 a2 a3 a4 a5 a6 a7 a8
    cases t
    simp_all
  · rintro ⟨h, p1, p2, p3, p4, p5, p6, p7, p8, p9, p10⟩
    rw [h]
    refine ⟨⟨rfl, rfl, rfl, rfl, rfl, ⟨p1, p2, p3, p4, p5⟩, p6, p7, ?_⟩, ⟨p8, p9, p10⟩, rfl⟩
    intro b _
    cases b <;> rfl

theorem Becomes.refl (s : State) : Becomes s [] s := (becomes_iff s s []).2 ⟨rfl, PortStep.refl _⟩

theorem Becomes.trans {ns ms : List Notice} {s u t : State} (h1 : Becomes s ns u) (h2 : Becomes u ms t) :
    Becomes s (ns ++ ms) t := by
  rw [becomes_iff] at *
  refine ⟨?_, h1.2.trans h2.2⟩
  rw [h2.1, h1.1]

/-- Everything the arbiter does (10 R185). -/
theorem kick_becomes (s : State) : Becomes s [] (kick s) := by
  rw [becomes_iff]
  unfold kick idleCounts
  simp only []
  split
  · simp [PortStep]
  · split
    · simp [PortStep]
    · unfold grantBurst
      simp only []
      split
      · split
        · rename_i t rest hr _ hp
          simp only [Transfer.isPendingProgress, Transfer.isProgress, Bool.and_eq_true, beq_iff_eq] at hp
          simp [startProgress, PortStep, hr, writeOf, Transfer.isTicketRead, hp.1]
        · simp [PortStep]
      all_goals simp [PortStep]

/-- The counts of the clients alone are the arbiter's move at an abandonment (10 R185). -/
theorem idleCounts_becomes (s : State) : Becomes s [] (idleCounts s) := by
  rw [becomes_iff]
  simp [idleCounts, PortStep]

/-- Everything a progress block request does (10 R187). -/
theorem requestProgress_becomes (s : State) : Becomes s [] (requestProgress s) := by
  rw [becomes_iff]
  unfold requestProgress
  (repeat' split) <;> simp [PortStep, queueRead, readOf, Transfer.isTicketRead]

/-- Everything raising a cause does (10 R183). -/
theorem raise_becomes (n : Notice) (s : State) : Becomes s [n] (raise n s) := by
  rw [becomes_iff]
  simp [raise, PortStep]

theorem raiseIf_becomes (c : Bool) (n : Notice) (s : State) : Becomes s (if c then [n] else []) (raiseIf c n s) := by
  cases c
  · exact Becomes.refl s
  · exact raise_becomes n s

/-- A powered command is its effect with the outputs cleared, then the arbiter. -/
theorem command_becomes {f : State → State} {s u : State} {ns : List Notice} (hp : s.pins.powerGood = true)
    (h : Becomes u ns (f { s with out := [] })) : Becomes u ns (command f s) := by
  have := h.trans (kick_becomes (f { s with out := [] }))
  simpa [command, powered, hp] using this

/-- The same for a command that comes with the levels of the input lines. -/
theorem commandAt_becomes {f : State → State} {l : Lines} {s u : State} {ns : List Notice} (hp : s.pins.powerGood = true)
    (h : Becomes u ns (f { sampleLines l s with out := [] })) : Becomes u ns (commandAt l f s) :=
  command_becomes (f := fun t => f (sampleLines l t)) hp h

/-! ## Updates of a block after the fact -/

theorem Becomes.setDc {ns : List Notice} {u t : State} (h : Becomes u ns t) (f : Drive → Drive) :
    Becomes { u with dc := f u.dc } ns { t with dc := f t.dc } := by
  rw [becomes_iff] at *
  exact ⟨by rw [h.1], h.2⟩

theorem Becomes.setTr {ns : List Notice} {u t : State} (h : Becomes u ns t) (f : Reader → Reader) :
    Becomes { u with tr := f u.tr } ns { t with tr := f t.tr } := by
  rw [becomes_iff] at *
  exact ⟨by rw [h.1], h.2⟩

theorem Becomes.setRe {ns : List Notice} {u t : State} (h : Becomes u ns t) (f : Raster → Raster) :
    Becomes { u with re := f u.re } ns { t with re := f t.re } := by
  rw [becomes_iff] at *
  exact ⟨by rw [h.1], h.2⟩

theorem Becomes.setBt {ns : List Notice} {u t : State} (h : Becomes u ns t) (f : Tracker → Tracker) :
    Becomes { u with bt := f u.bt } ns { t with bt := f t.bt } := by
  rw [becomes_iff] at *
  exact ⟨by rw [h.1], h.2⟩

theorem Becomes.setHc {ns : List Notice} {u t : State} (h : Becomes u ns t) (f : Heat → Heat) :
    Becomes { u with hc := f u.hc } ns { t with hc := f t.hc } := by
  rw [becomes_iff] at *
  exact ⟨by rw [h.1], h.2⟩

theorem Becomes.setMr {ns : List Notice} {u t : State} (h : Becomes u ns t) (f : Marks → Marks) :
    Becomes { u with mr := f u.mr } ns { t with mr := f t.mr } := by
  rw [becomes_iff] at *
  exact ⟨by rw [h.1], h.2⟩

theorem Becomes.setCv {ns : List Notice} {u t : State} (h : Becomes u ns t) (f : Verifier → Verifier) :
    Becomes { u with cv := f u.cv } ns { t with cv := f t.cv } := by
  rw [becomes_iff] at *
  exact ⟨by rw [h.1], h.2⟩

/-! ## Changes of state (05 R104, 06 R111, R123, 07 R145) -/

theorem setDrum_becomes {d : DrumState} {s : State} (h : s.hc.drum ≠ d) : Becomes { s with hc.drum := d } [.drum] (setDrum d s) := by
  unfold setDrum
  rw [if_neg h]
  exact (raise_becomes _ _).trans (requestProgress_becomes _)

theorem setLine_becomes {l : LineState} {s : State} (h : s.dc.line ≠ l) :
    Becomes { s with dc.line := l, dc.nipHold := 0,
                     dc.webs := if l.counts then s.dc.webs else s.dc.webs.map (fun w => { w with run := 0 }) } [.line]
      (setLine l s) := by
  unfold setLine
  rw [if_neg h]
  exact (raise_becomes _ _).trans (requestProgress_becomes _)

theorem setNip_becomes {n : NipState} {s : State} (h : s.dc.nip ≠ n) (hc : s.dc.nip ≠ .closed) :
    Becomes { s with dc.nip := n } [] (setNip n s) := by
  unfold setNip
  rw [if_neg h]
  simp only [hc, if_false]
  exact requestProgress_becomes _

theorem setNip_leaves_closed {n : NipState} {s : State} (h : s.dc.nip ≠ n) (hc : s.dc.nip = .closed) :
    Becomes { s with dc.nip := n,
                     bt.track := s.bt.track.map (fun b => b.flagIf (b.state == .onDrum) .stopExposed) } [] (setNip n s) := by
  unfold setNip
  rw [if_neg h]
  simp only [hc, if_true]
  have := (requestProgress_becomes { s with dc.nip := n }).setBt
    (fun t => { t with track := t.track.map (fun b => b.flagIf (b.state == .onDrum) .stopExposed) })
  exact this

end Sys2Proof.Machine
end

