-- ==== Sys2Proof/Laws/State.lean ====
section
/-! SUPPORT. Sys2Proof/Laws/State.lean: what each named update of State sets, one lemma per field, true by rfl. What each leaves is
in Sys2Proof/Laws/FramesA.lean. -/

namespace Sys2Proof.Machine

@[simp] theorem raise_notice (n : Notice) (s : State) : (raise n s).smp.notice = s.smp.notice ||| (1#10 <<< n.bit) := rfl
@[simp] theorem raise_writes (n : Notice) (s : State) : (raise n s).smp.writes = s.smp.writes := rfl
@[simp] theorem raise_reads (n : Notice) (s : State) : (raise n s).smp.reads = s.smp.reads := rfl
@[simp] theorem raise_copies (n : Notice) (s : State) : (raise n s).smp.copies = s.smp.copies := rfl
@[simp] theorem raise_grant (n : Notice) (s : State) : (raise n s).smp.grant = s.smp.grant := rfl
@[simp] theorem raise_soft (n : Notice) (s : State) : (raise n s).smp.soft = s.smp.soft := rfl

@[simp] theorem sampleLines_head (l : Lines) (s : State) : (sampleLines l s).pins.head = l.head := rfl
@[simp] theorem sampleLines_broken (l : Lines) (s : State) : (sampleLines l s).pins.broken = l.broken := rfl
@[simp] theorem sampleLines_powerGood (l : Lines) (s : State) : (sampleLines l s).pins.powerGood = s.pins.powerGood := rfl
@[simp] theorem sampleLines_mainsOk (l : Lines) (s : State) : (sampleLines l s).pins.mainsOk = s.pins.mainsOk := rfl

@[simp] theorem idleCounts_passOver (s : State) : (idleCounts s).smp.passOver = PassOver.ofFn s.passOverIdle := rfl
@[simp] theorem idleCounts_writes (s : State) : (idleCounts s).smp.writes = s.smp.writes := rfl
@[simp] theorem idleCounts_reads (s : State) : (idleCounts s).smp.reads = s.smp.reads := rfl
@[simp] theorem idleCounts_copies (s : State) : (idleCounts s).smp.copies = s.smp.copies := rfl
@[simp] theorem idleCounts_grant (s : State) : (idleCounts s).smp.grant = s.smp.grant := rfl
@[simp] theorem idleCounts_notice (s : State) : (idleCounts s).smp.notice = s.smp.notice := rfl

@[simp] theorem emit_out (o : Output) (s : State) : (emit o s).out = s.out ++ [o] := rfl
@[simp] theorem emit_smp (o : Output) (s : State) : (emit o s).smp = s.smp := rfl

@[simp] theorem queueWrite_writes (t : Transfer) (s : State) : (queueWrite t s).smp.writes = s.smp.writes ++ [t] := rfl
@[simp] theorem queueWrite_reads (t : Transfer) (s : State) : (queueWrite t s).smp.reads = s.smp.reads := rfl
@[simp] theorem queueWrite_notice (t : Transfer) (s : State) : (queueWrite t s).smp.notice = s.smp.notice := rfl
@[simp] theorem queueWrite_grant (t : Transfer) (s : State) : (queueWrite t s).smp.grant = s.smp.grant := rfl

@[simp] theorem queueRead_reads (t : Transfer) (s : State) : (queueRead t s).smp.reads = s.smp.reads ++ [t] := rfl
@[simp] theorem queueRead_notice (t : Transfer) (s : State) : (queueRead t s).smp.notice = s.smp.notice := rfl
@[simp] theorem queueRead_grant (t : Transfer) (s : State) : (queueRead t s).smp.grant = s.smp.grant := rfl

@[simp] theorem queueCopy_copies (t : Transfer) (s : State) : (queueCopy t s).smp.copies = s.smp.copies ++ [t] := rfl
@[simp] theorem queueCopy_reads (t : Transfer) (s : State) : (queueCopy t s).smp.reads = s.smp.reads := rfl
@[simp] theorem queueCopy_notice (t : Transfer) (s : State) : (queueCopy t s).smp.notice = s.smp.notice := rfl
@[simp] theorem queueCopy_grant (t : Transfer) (s : State) : (queueCopy t s).smp.grant = s.smp.grant := rfl

@[simp] theorem modBand_track (n : Nat) (f : Band → Band) (s : State) :
    (modBand n f s).bt.track = s.bt.track.map (fun b => if b.number = n then f b else b) := rfl
@[simp] theorem modBand_pos (n : Nat) (f : Band → Band) (s : State) : (modBand n f s).bt.pos = s.bt.pos := rfl
@[simp] theorem modBand_nextNumber (n : Nat) (f : Band → Band) (s : State) :
    (modBand n f s).bt.nextNumber = s.bt.nextNumber := rfl
@[simp] theorem modBand_retiring (n : Nat) (f : Band → Band) (s : State) : (modBand n f s).bt.retiring = s.bt.retiring := rfl

@[simp] theorem modTrack_track (f : Band → Band) (s : State) : (modTrack f s).bt.track = s.bt.track.map f := rfl
@[simp] theorem modTrack_pos (f : Band → Band) (s : State) : (modTrack f s).bt.pos = s.bt.pos := rfl

@[simp] theorem modTally_tallies (id : Nat) (f : Tally → Tally) (s : State) :
    (modTally id f s).bt.tallies = s.bt.tallies.map (fun t => if t.id = id then f t else t) := rfl
@[simp] theorem modTally_pos (id : Nat) (f : Tally → Tally) (s : State) : (modTally id f s).bt.pos = s.bt.pos := rfl
@[simp] theorem modTally_nextNumber (id : Nat) (f : Tally → Tally) (s : State) :
    (modTally id f s).bt.nextNumber = s.bt.nextNumber := rfl

@[simp] theorem setReader_reader (r : ReaderState) (s : State) : (setReader r s).tr.reader = r := rfl
@[simp] theorem setReader_ticket (r : ReaderState) (s : State) : (setReader r s).tr.ticket = s.tr.ticket := rfl
@[simp] theorem setReader_step (r : ReaderState) (s : State) : (setReader r s).tr.step = s.tr.step := rfl

@[simp] theorem modZones_zones (f : Zone → Zone) (s : State) : (modZones f s).hc.zones = s.hc.zones.map f := rfl
@[simp] theorem modZones_settle (f : Zone → Zone) (s : State) : (modZones f s).hc.settle = s.hc.settle := rfl

@[simp] theorem modSlot_slots (i : Fin 8) (f : ProfileSlot → ProfileSlot) (s : State) :
    (modSlot i f s).ps.slots = s.ps.slots.set i (f (s.ps.slots.get i)) := rfl
@[simp] theorem modSlot_staging (i : Fin 8) (f : ProfileSlot → ProfileSlot) (s : State) :
    (modSlot i f s).ps.staging = s.ps.staging := rfl

end Sys2Proof.Machine
end

