-- ==== Sys2Proof/Tests/Slice0.lean ====
section
/-! SUPPORT. Sys2Proof/Tests/Slice0.lean: the well-formedness smoke test, tests with expected results taken from the manual's worked
examples, and a witness for the hypotheses of each statement, clause by clause. -/

namespace Sys2Proof.Tests

open Sys2Proof Sys2Proof.Machine

/-! ## Well-formedness and decoding -/

/-- No head on the link and no broken-line flag. -/
def noLines : Lines := { head := ⟨0, 0⟩, broken := ⟨false, false, false⟩ }

/-- A burst of 17 words is more than the largest burst limit (10 R181). -/
theorem test_wf_refuses_long_burst : (Instr.burstEnd (List.replicate 17 0) noLines).wf = false := by decide

theorem test_wf_accepts_full_burst : (Instr.burstEnd (List.replicate 16 0) noLines).wf = true := by decide

/-- A burst of 16 words cannot have moved 16 before its error (10 R186). -/
theorem test_wf_refuses_bus_error_past_burst : (Instr.busError 16 noLines).wf = false := by decide

/-- A burst in progress as POWER_GOOD falls has moved at most its 16 words. -/
theorem test_wf_refuses_power_loss_past_burst : (Instr.powerGoodLow 17).wf = false := by decide

/-- Offset 20h lies outside the window, and 02h is no register's offset. -/
theorem test_wf_refuses_register_offset :
    (Instr.registerWrite 0x20 4 0 noLines).wf = false ∧ (Instr.registerWrite 0x02 4 0 noLines).wf = false := by decide

theorem test_wf_refuses_register_bytes :
    (Instr.registerWrite 0x08 5 0 noLines).wf = false ∧ (Instr.registerWrite 0x08 0 0 noLines).wf = false := by decide

theorem test_wf_refuses_wide_position : (Instr.markRead 0 true (2 ^ 64)).wf = false := by decide

/-- The table gives no row bits, so no word spells a command. -/
theorem test_decode_none : decodeTableWord 32 0x12345678 = none := rfl

/-! ## The manual's worked examples -/

/-- 03 R63: the dwell table. -/
theorem test_dwell : dwell 2000 350 = 571 ∧ dwell 2000 1000 = 200 ∧ dwell 800 1000 = 80 ∧ dwell 3000 50 = 6000 := by decide

/-- 03 R64: zones 0 to 5 enabled with the example's targets give Tm = 1997; zones 6 and 7 do not enter. -/
theorem test_mean_target :
    meanTarget ⟨{ Zone.reset with enable := true, target := 2000 }, { Zone.reset with enable := true, target := 2000 },
      { Zone.reset with enable := true, target := 2000 }, { Zone.reset with enable := true, target := 2000 },
      { Zone.reset with enable := true, target := 1990 }, { Zone.reset with enable := true, target := 1995 },
      { Zone.reset with target := 2300 }, { Zone.reset with target := 100 }⟩ = some 1997 := by decide

/-- 03 R60: u_C = 4095 alone with L = 2000 gives 2000. -/
theorem test_ink_limit_single : limitInk 2000 ⟨4095, 0, 0, 0⟩ = ⟨2000, 0, 0, 0⟩ := by decide

/-- 04 R81: the step table. -/
theorem test_trim_steps :
    [trimStep 90 0 64, trimStep 30 0 64, trimStep 6 0 64, trimStep 3 0 64, trimStep (-3) 0 64, trimStep (-200) 0 10]
      = [16, 7, 1, 0, -1, -8] := by decide

/-- 06 R134: s_raw steady at 150 from s = 0 runs 18, 34, 48, 60, 71. -/
theorem test_stretch_run :
    (List.range 5).map (fun n => n.repeat (fun s => stretchNext s 35000000 35525000) (0 : Int) |> (stretchNext · 35000000 35525000))
      = [18, 34, 48, 60, 71] := by decide

/-- 05 R92: ramp rate 20 and target 2000: 250 gives 270, and 1990 gives the target. -/
theorem test_ramp_step :
    let z : Zone := { Zone.reset with target := 2000, enable := true, state := .regulate }
    let s : State := { State.reset with
      hc.ramp := 20, hc.zones.z0 := { z with eff := 250 }, hc.zones.z1 := { z with eff := 1990 } }
    (match exec .rampStep s with
      | .next t => [t.hc.zones.z0.eff, t.hc.zones.z1.eff]
      | _ => []) = [270, 2000] := by decide

/-- 10 R181: the fields of PORTCFG are clamped as they are written. -/
theorem test_portcfg_clamps :
    (match exec (.portcfgWrite 0x0000FF1F) State.reset with
      | .next t => (t.smp.burstLimit, t.smp.pollPeriod)
      | _ => (0, 0)) = (16, 255) := by decide

/-- 10 R181: CHAINHEAD ignores its low four bits. -/
theorem test_chainhead_aligned :
    (match exec (.chainheadWrite 0x0000123F) State.reset with
      | .next t => t.smp.chainHead
      | _ => 0) = 0x00001230 := by decide

/-- 06 R114: RUN right after reset is refused because the drum is not at temperature. -/
theorem test_run_after_reset :
    (match exec (.run noLines) State.reset with
      | .next t => (t.dc.line, t.dc.startCause)
      | _ => (.running, .none)) = (.stopped, .drumNotReady) := by decide

/-- 08 R155: the bytes of a MEASURE frame sum to 0 after the start byte. -/
theorem test_measure_frame :
    (match exec .measureSent { State.reset with cv.txq := [7, 9] } with
      | .next t => t.out
      | _ => []) = [.measure [0xA5, 0x01, 0x01, 0x09, 0xF5]] := by decide

/-! ## States the witnesses are built from -/

/-- A band record at L0 = 0 in the state given. -/
def aBand (n : Nat) (st : BandState) : Band :=
  { number := n, tally := 0, index := 0, kind := .printed, slot := 0, gen := 0, tau := 0, g := 1024, firstRow := 0, p := 42333,
    l0 := 0, len := 64 * 42333, s := 0, dpred := 0, zones := Oct.fill false, lt := 0, at_ := 0, bt := 0, colourTol := 50,
    doseTol := 5, po := 0, state := st, flags := 0, fired := 0, lost := 0, clip := 0, doses := Oct.fill 0, samples := 0,
    lostZones := Oct.fill false, c := none, meas := none, trailing := false, verdict := none }

def aTicket (k : TicketKind) (body : List Word) (ph : TicketPhase) : Ticket :=
  { addr := 256, kind := k, notify := false, serial := 1, body := body, phase := ph }

def aTally (n : Nat) : Tally :=
  { id := n, addr := 512, notify := false, area := 1024, capacity := 1, created := 0, inTrack := 0, good := 0, suspect := 0,
    reject := 0, void := 0, written := 0, dropped := 0, discarded := 0, printed := false, cause := .ok, stale := true,
    closing := false }

def aSegment : Segment :=
  { tally := 0, addr := 512, base := 4096, stride := 16, width := 1, rows := 64, bandRows := 64, count := 1, first := 0,
    slot := 0, patch := 0, autoStart := false, testMark := false, voids := [], created := 0 }

def aContext : BandContext := { number := 1, index := 0, kind := .printed, l0 := 0, p := 42333, next := 1, blank := false }

/-- A segment TAKEN with a band in the track, TR holding. -/
def held (r : RasterState) (l : LineState) : State :=
  { State.reset with
    dc.line := l, re.raster := r, re.seg := some { aSegment with created := 1 },
    re.band := if r = .printing then some aContext else none, bt.track := [aBand 1 .travelling],
    bt.tallies := [{ aTally 0 with inTrack := 1 }], tr.reader := .holding }

theorem held_holds (r : RasterState) (l : LineState) :
    SegmentHeld { aSegment with created := 1 } { aTally 0 with inTrack := 1 } (held r l) :=
  ⟨rfl, rfl, by decide, rfl, rfl, rfl⟩

def aGrant (c : Client) (n : Nat) : Option Grant := some { client := c, words := n, dropped := false }

/-- Reset with the line in a state. -/
def inLine (l : LineState) : State := { State.reset with dc.line := l }

/-- The TAKEN write of a ticket is the burst in progress. -/
def handState (k : TicketKind) (body : List Word) : State :=
  { State.reset with
    tr.reader := .executing, tr.ticket := some (aTicket k body .taken), smp.grant := aGrant .write 1,
    smp.writes := [headerTransfer 256 { state := .taken, status := .ok, detail := 0, notify := false, role := .take k,
                                        repeating := false }] }

theorem handing_of (k : TicketKind) (body : List Word) (s : State) (hp : s.pins.powerGood = true) (hs : s.smp.soft = .off)
    (ht : s.tr.ticket = some (aTicket k body .taken)) (hg : s.smp.grant = aGrant .write 1)
    (hw : s.smp.writes = (handState k body).smp.writes) : Handing (aTicket k body .taken) [] s :=
  ⟨⟨hp, hs⟩, rfl, ht, rfl, hg, hw⟩

theorem handState_handing (k : TicketKind) (body : List Word) : Handing (aTicket k body .taken) [] (handState k body) :=
  handing_of k body _ rfl rfl rfl rfl rfl

/-- The body read of a ticket is the burst in progress, with `n` words asked for. -/
def bodyState (k : TicketKind) (n : Nat) : State :=
  { State.reset with
    tr.reader := .reading, tr.ticket := some (aTicket k [] .checking), smp.grant := aGrant .read n,
    smp.reads := [readOf .bodyRead 272 n] }

theorem bodyState_arrives (k : TicketKind) (n : Nat) (ws : List Word) (h : n ≤ min ws.length n) :
    BodyArrives (aTicket k [] .checking) (readOf .bodyRead 272 n) [] { client := .read, words := n, dropped := false } ws
      (bodyState k n) :=
  ⟨⟨rfl, rfl⟩, rfl, rfl, rfl, rfl, rfl, rfl, rfl, rfl, h⟩

/-- A header or link read is the burst in progress. -/
def readState (x : Transfer) (n : Nat) : State :=
  { State.reset with tr.reader := .reading, smp.reads := [x], smp.grant := aGrant .read n }

theorem readState_ends (x : Transfer) (n : Nat) (ws : List Word) (h : x.left ≤ min ws.length n) :
    ReadEnds x [] { client := .read, words := n, dropped := false } ws (readState x n) :=
  ⟨⟨rfl, rfl⟩, rfl, rfl, rfl, rfl, rfl, h⟩

/-- A write is the burst in progress. -/
def writeState (x : Transfer) (n : Nat) : State := { State.reset with smp.writes := [x], smp.grant := aGrant .write n }

theorem writeState_ends (x : Transfer) (n : Nat) (hx : x.isWrite = true) (h : x.left ≤ n) : WriteEnds x [] (writeState x n) :=
  ⟨⟨rfl, rfl⟩, rfl, hx, _, rfl, rfl, rfl, h⟩

/-! ## Witnesses: commands of the register window, power and soft reset -/

/-- The queue empty: unpowered; powered with every timer running, the references at 50,000 nm/ms and one below. -/
theorem witness_StepRunsFrontCommand :
    (∃ s : State, s.pending = [] ∧ s.pins.powerGood = false) ∧
    (∃ s : State, s.pending = [] ∧ s.pins.powerGood = true ∧ s.tr.pollRunning = true ∧ s.dc.line = .running ∧ s.re.raster = .idle ∧
      s.cfg.nipHoldLimit ≠ 0 ∧ s.bt.track = [] ∧ s.dc.nipTimer = some 1 ∧ s.dc.ref = 50000 ∧ s.cv.silenceOn = true ∧
      s.cv.rx = .type) ∧
    (∃ s : State, s.pending = [] ∧ s.pins.powerGood = true ∧ s.dc.line = .tripped ∧ s.dc.nipTimer = none ∧ s.dc.ref = 49999) :=
  ⟨⟨{ State.reset with pins.powerGood := false }, by decide⟩,
   ⟨{ inLine .running with tr.pollRunning := true, cfg.nipHoldLimit := 1, dc.nipTimer := some 1, dc.ref := 50000,
                           cv.silenceOn := true, cv.rx := .type }, by decide⟩,
   ⟨{ inLine .tripped with dc.nipTimer := none, dc.ref := 49999 }, by decide⟩⟩

theorem witness_NoticeAndInterrupt :
    (∃ s : State, s.pins.powerGood = false) ∧ (∃ s : State, s.pins.powerGood = false ∧ s.pins.mainsOk = true) ∧
    (∃ s : State, s.pins.powerGood = false ∧ s.pins.mainsOk = false) ∧
    (∃ s : State, s.pins.powerGood = true ∧ s.smp.notice.getLsbD Notice.power.bit = true) :=
  ⟨⟨{ State.reset with pins.powerGood := false }, rfl⟩, ⟨{ State.reset with pins.powerGood := false }, rfl, rfl⟩,
   ⟨{ State.reset with pins.powerGood := false, pins.mainsOk := false }, rfl, rfl⟩,
   ⟨{ State.reset with smp.notice := 0x200 }, rfl, by decide⟩⟩

/-- The last usable PROGBASE is FFFFFF80h; FFFFFF90h is not usable. -/
theorem witness_RegisterWrites :
    (∃ s : State, s.pins.powerGood = true ∧ s.tr.reader = .idle) ∧
    (∃ s : State, s.pins.powerGood = true ∧ s.tr.reader ≠ .idle) ∧
    (∃ v : Word, (v &&& 0xFFFFFFF0) ≠ 0 ∧ (v &&& 0xFFFFFFF0).toNat + 127 ≤ 0xFFFFFFFF ∧ 0xFFFFFFFF < v.toNat + 16 + 127) ∧
    (∃ v : Word, (v &&& 0xFFFFFFF0) = 0) ∧ (∃ v : Word, 0xFFFFFFFF < (v &&& 0xFFFFFFF0).toNat + 127) :=
  ⟨⟨State.reset, rfl, rfl⟩, ⟨{ State.reset with tr.reader := .stalled }, rfl, by decide⟩, ⟨0xFFFFFF80, by decide⟩,
   ⟨0x0000000F, by decide⟩, ⟨0xFFFFFF90, by decide⟩⟩

theorem witness_RegisterWindow :
    (∃ s : State, s.pins.powerGood = true ∧ s.smp.burstLimit = 16 ∧ s.smp.pollPeriod = 255 ∧ s.dc.line = .powerHeld ∧
      s.dc.startCause = .power ∧ s.smp.soft ≠ .off) ∧
    (∃ (s : State) (bytes : Nat), s.pins.powerGood = true ∧ bytes ≠ 4) ∧ (∃ v : Word, v.getLsbD 5 = true) ∧
    (∃ v : Word, v.getLsbD 5 = false ∧ v.getLsbD 4 = true ∧ v.getLsbD 2 = false ∧ v.getLsbD 1 = false ∧ v.getLsbD 0 = false) ∧
    (∃ v : Word, ∀ i : Fin 6, [false, false, false, true, false, false][i.val]? = some (v.getLsbD i.val)) ∧
    (∃ v : Word, ∀ i : Fin 6, [false, false, true, false, false, false][i.val]? = some (v.getLsbD i.val)) ∧
    (∃ v : Word, v.getLsbD 5 = false ∧ v.getLsbD 4 = false ∧ v.getLsbD 3 = false ∧ v.getLsbD 2 = false ∧ v.getLsbD 1 = true) ∧
    (∃ v : Word, ∀ i : Fin 6, [true, false, false, false, false, false][i.val]? = some (v.getLsbD i.val)) ∧
    (∃ v : Word, ∀ i : Fin 6, [false, false, false, false, false, false][i.val]? = some (v.getLsbD i.val)) ∧
    (∃ (v : Word) (s : State), s.pins.powerGood = true ∧ v.getLsbD 5 = false ∧ v.getLsbD 4 = true ∧ v.getLsbD 2 = false ∧
      v.getLsbD 1 = true ∧ s.smp.soft = .off ∧ s.dc.line = .running ∧ s.rasterIdle ∧ s.bt.track ≠ [] ∧ s.tr.reader = .reading) ∧
    (∃ (v : Word) (l : Lines) (s : State), s.pins.powerGood = true ∧
      (∀ i : Fin 6, [true, false, true, false, false, false][i.val]? = some (v.getLsbD i.val)) ∧ s.smp.soft = .off ∧
      s.dc.line = .tripped ∧ s.hc.drum = .atTemp ∧ s.dc.nip = .opened ∧ (∀ w ∈ s.dc.webs.toList, w.inRange = true) ∧
      l.broken = ⟨false, false, false⟩ ∧ s.tr.reader ≠ .paused ∧ s.tr.ticket = none ∧ s.re.seg = none) :=
  ⟨⟨{ inLine .powerHeld with smp.burstLimit := 16, smp.pollPeriod := 255, dc.startCause := .power, smp.soft := .settling }, by decide⟩,
   ⟨State.reset, 3, by decide⟩, ⟨0x3F, by decide⟩, ⟨0x18, by decide⟩, ⟨0x08, by decide⟩, ⟨0x04, by decide⟩, ⟨0x03, by decide⟩,
   ⟨0x01, by decide⟩, ⟨0xFFFFFFC0, by decide⟩,
   ⟨0x1B, { inLine .running with bt.track := [aBand 1 .onDrum], tr.reader := .reading }, by unfold State.rasterIdle; decide⟩,
   ⟨0x05, noLines,
    { inLine .tripped with hc.drum := .atTemp, dc.webs := State.reset.dc.webs.map (fun w => { w with inRange := true }) }, by decide⟩⟩

/-- Reset with the drum AT_TEMP and every load cell in range: RUN would start the line. -/
def readyState : State :=
  { State.reset with hc.drum := .atTemp, dc.webs := State.reset.dc.webs.map (fun w => { w with inRange := true }) }

theorem witness_RunCommand :
    (∃ (l : Lines) (s : State), s.commandable ∧ s.dc.line = .stopped ∧ s.hc.drum = .atTemp ∧ s.dc.nip = .opened ∧
      (∀ w ∈ s.dc.webs.toList, w.inRange = true) ∧ l.broken = ⟨false, false, false⟩) ∧
    (∃ s : State, s.commandable ∧ s.dc.line = .stopped ∧ s.hc.drum ≠ .atTemp) ∧
    (∃ s : State, s.commandable ∧ s.dc.line = .stopped ∧ s.hc.drum = .atTemp ∧ s.dc.nip ≠ .opened) ∧
    (∃ s : State, s.commandable ∧ s.dc.line = .stopped ∧ s.hc.drum = .atTemp ∧ s.dc.nip = .opened ∧
      ∃ w ∈ s.dc.webs.toList, w.inRange = false) ∧
    (∃ (l : Lines) (s : State), s.commandable ∧ s.dc.line = .stopped ∧ s.hc.drum = .atTemp ∧ s.dc.nip = .opened ∧
      l.broken ≠ ⟨false, false, false⟩) ∧
    (∃ s : State, s.commandable ∧ s.dc.line = .tripped) ∧ (∃ s : State, s.commandable ∧ s.dc.line = .powerHeld) ∧
    (∃ s : State, s.commandable ∧ s.dc.line = .draining ∧ s.rasterIdle) ∧ (∃ s : State, s.commandable ∧ s.dc.line = .stopping) :=
  ⟨⟨noLines, readyState, And.intro rfl rfl, by decide⟩, ⟨State.reset, And.intro rfl rfl, by decide⟩,
   ⟨{ readyState with dc.nip := .fault }, And.intro rfl rfl, by decide⟩,
   ⟨{ State.reset with hc.drum := .atTemp }, And.intro rfl rfl, by decide⟩,
   ⟨{ noLines with broken.drum := true }, readyState, And.intro rfl rfl, by decide⟩,
   ⟨inLine .tripped, And.intro rfl rfl, rfl⟩, ⟨inLine .powerHeld, And.intro rfl rfl, rfl⟩,
   ⟨inLine .draining, And.intro rfl rfl, rfl, ⟨rfl, rfl, rfl, rfl⟩⟩, ⟨inLine .stopping, And.intro rfl rfl, rfl⟩⟩

/-- The nip-hold limit of 30 s is reached exactly. -/
theorem witness_StopRequests :
    (∃ s : State, s.commandable ∧ s.dc.line = .running ∧ s.rasterIdle ∧ s.bt.track ≠ []) ∧
    (∃ s : State, s.commandable ∧ s.dc.line = .running ∧ s.rasterIdle ∧ s.bt.track = [] ∧ s.dc.nip = .closed) ∧
    (∀ n : NipState, ∃ s : State, s.commandable ∧ s.dc.line = .starting ∧ s.dc.nip = n) ∧
    (∃ s : State, s.commandable ∧ s.dc.line ≠ .running ∧ s.dc.line ≠ .starting) ∧
    (∃ (g : Segment) (e : Tally) (s : State), s.commandable ∧ s.dc.line = .running ∧ s.bt.track ≠ [] ∧ s.re.raster = .between ∧
      SegmentHeld g e s) ∧
    (∃ s : State, s.commandable ∧ s.dc.line = .running ∧ s.bt.track ≠ [] ∧ s.re.raster = .printing) ∧
    (∃ s : State, s.pins.powerGood = true ∧ s.dc.line = .running ∧ s.rasterIdle ∧ s.bt.track ≠ [] ∧
      (∀ b ∈ s.bt.track, b.state ≠ .printing ∧ b.state ≠ .travelling ∧ b.state ≠ .onDrum) ∧ s.cfg.nipHoldLimit ≠ 0 ∧
      s.cfg.nipHoldLimit * 1000 ≤ s.dc.nipHold) :=
  ⟨⟨{ inLine .running with bt.track := [aBand 1 .onDrum] }, And.intro rfl rfl, rfl, And.intro rfl ⟨rfl, rfl, rfl⟩, by decide⟩,
   ⟨{ inLine .running with dc.nip := .closed }, And.intro rfl rfl, rfl, And.intro rfl ⟨rfl, rfl, rfl⟩, rfl, rfl⟩,
   fun n => ⟨{ inLine .starting with dc.nip := n }, And.intro rfl rfl, rfl, rfl⟩, ⟨State.reset, And.intro rfl rfl, by decide⟩,
   ⟨_, _, held .between .running, And.intro rfl rfl, rfl, by decide, rfl, held_holds _ _⟩,
   ⟨held .printing .running, And.intro rfl rfl, by decide⟩,
   ⟨{ inLine .running with bt.track := [aBand 1 .pastDrum], dc.nipHold := 30000 }, rfl, rfl, And.intro rfl ⟨rfl, rfl, rfl⟩,
    by decide⟩⟩

/-- A reading of 2450 still permits the clear. -/
theorem witness_ClearTripCommand :
    (∃ s : State, s.commandable ∧ s.tr.reader ≠ .paused ∧ s.tr.ticket = none ∧ s.re.seg = none ∧ s.dc.line = .tripped ∧
      s.hc.drum ≠ .tripped ∧ s.dc.nip ≠ .fault) ∧
    (∃ s : State, s.commandable ∧ s.tr.reader ≠ .paused ∧ s.tr.ticket = none ∧ s.re.seg = none ∧ s.dc.line = .stopped ∧
      s.hc.drum ≠ .tripped ∧ s.dc.nip = .fault ∧ s.pins.nipOpenSw = true ∧ s.pins.nipClosedSw = false) ∧
    (∃ s : State, s.commandable ∧ s.tr.reader ≠ .paused ∧ s.tr.ticket = none ∧ s.re.seg = none ∧ s.dc.line = .stopped ∧
      s.hc.drum = .tripped ∧ s.dc.nip ≠ .fault ∧ s.pins.mainsOk = true ∧ s.hc.zones.z0.reading = some 2450 ∧
      ∀ z ∈ s.hc.zones.toList, ∀ r, z.reading = some r →
        r ≤ 2450 ∧ (z.enable = true → 1 ≤ z.target → r ≤ z.target + 150)) :=
  ⟨⟨inLine .tripped, And.intro rfl rfl, by decide⟩, ⟨{ State.reset with dc.nip := .fault }, And.intro rfl rfl, by decide⟩,
   ⟨{ State.reset with
       hc.drum := .tripped,
       hc.zones.z0 := { Zone.reset with enable := true, target := 2300, state := .regulate, reading := some 2450 } },
    And.intro rfl rfl, by decide, rfl, rfl, rfl, rfl, by decide, rfl, rfl, by
      intro z hz r hr
      simp only [Oct.toList, List.mem_cons, List.not_mem_nil, or_false] at hz
      rcases hz with rfl | rfl | rfl | rfl | rfl | rfl | rfl | rfl
      · cases hr
        decide
      all_goals cases hr⟩⟩

theorem witness_ChainCommands :
    (∃ s : State, s.commandable ∧ s.tr.reader = .idle ∧ s.smp.chainHead ≠ 0 ∧ s.re.raster = .idle ∧ s.tr.ticket = none ∧
      s.tr.awaitSeg = none ∧ s.tr.haltReq = false ∧ s.ticketReads = [] ∧ ∀ x ∈ s.smp.writes, x.awaited = false) ∧
    (∃ s : State, s.commandable ∧ s.tr.reader = .idle ∧ s.smp.chainHead ≠ 0 ∧ s.re.raster = .idle ∧ s.tr.ticket = none ∧
      s.tr.awaitSeg = none ∧ s.tr.haltReq = false ∧ s.ticketReads = [] ∧ ∃ x ∈ s.smp.writes, x.awaited = true) ∧
    (∃ s : State, s.commandable ∧ s.tr.reader = .idle ∧ s.smp.chainHead = 0) ∧
    (∃ s : State, s.commandable ∧ s.tr.reader = .stalled ∧ s.re.raster = .idle ∧ s.tr.ticket = none ∧ s.tr.awaitSeg = none ∧
      s.tr.haltReq = false ∧ (∀ x ∈ s.smp.writes, x.awaited = false) ∧ s.ticketReads = []) ∧
    (∃ s : State, s.commandable ∧ s.tr.reader = .stalled ∧ s.re.raster ≠ .idle) ∧
    (∃ s : State, s.commandable ∧ s.tr.reader ≠ .idle ∧ s.tr.reader ≠ .stalled) ∧
    (∃ s : State, s.commandable ∧ s.tr.reader = .waiting) ∧ (∃ s : State, s.commandable ∧ s.tr.reader = .paused) ∧
    (∃ s : State, s.commandable ∧ s.tr.reader = .holding) :=
  let q : ReaderState → State := fun r => { State.reset with smp.chainHead := 0x10, tr.reader := r }
  let close : HeaderWrite := { state := .failed, status := .badField, detail := 0, notify := false, role := .close, repeating := false }
  ⟨⟨q .idle, And.intro rfl rfl, by decide⟩,
   ⟨{ q .idle with smp.writes := [headerTransfer 256 close] }, And.intro rfl rfl, by decide⟩, ⟨State.reset, And.intro rfl rfl, by decide⟩,
   ⟨q .stalled, And.intro rfl rfl, by decide⟩, ⟨{ q .stalled with re.raster := .priming }, And.intro rfl rfl, by decide⟩,
   ⟨q .executing, And.intro rfl rfl, by decide⟩, ⟨q .waiting, And.intro rfl rfl, rfl⟩, ⟨q .paused, And.intro rfl rfl, rfl⟩,
   ⟨q .holding, And.intro rfl rfl, rfl⟩⟩

/-- A ticket's FAILED RESET. -/
def resetWrite (r : HeaderRole) : HeaderWrite :=
  { state := .failed, status := .reset, detail := 0, notify := true, role := r, repeating := false }

/-- Stage 2 of a soft reset with the last burst of a segment's FAILED RESET in progress, TR holding and MR locked. -/
def closingState : State :=
  { writeState (headerTransfer 512 (resetWrite (.segment false))) 1 with
    smp.soft := .closing, tr.reader := .holding, tr.haltReq := true, mr.lock := .locked, cfg.lockEdge := .both }

/-- 10 R190, the order the host sees: the reader becomes IDLE and the lock state SEARCH as the last header shows its final state, not
while another is still to come. -/
theorem test_soft_reset_headers_before_idle :
    (match exec .headerWriteDone { closingState with smp.writes := closingState.smp.writes ++ closingState.smp.writes },
        exec .headerWriteDone closingState with
      | .next t, .next u => [(t.tr.reader, t.mr.lock), (u.tr.reader, u.mr.lock)]
      | _, _ => []) = [(.holding, .locked), (.idle, .search)] := by decide

/-- The stop; the end of the last entry's counts write; of a snapshot write; of a header write with another still to come, and of the last
one, of a segment and of TR's own ticket, each with MR locked and the edge mode BOTH; then the completion. -/
theorem witness_SoftResetStages :
    (∃ s : State, s.commandable ∧ s.dc.line = .draining ∧ s.rasterIdle ∧ s.dc.nip = .closed) ∧
    (∃ (s : State) (e : Tally) (x : Transfer) (rest : List Transfer), s.pins.powerGood = true ∧ s.smp.soft = .finalising ∧
      s.bt.tallies = [e] ∧ LastWriteBurst x rest s ∧ x.kind = .countsWrite (.finalise e.id) ∧ s.tr.ticket = none ∧
      s.tr.awaitSeg = none ∧ (∀ y ∈ rest, y.isRepeatedTaken e.addr = false) ∧ e.cause = .reset) ∧
    (∃ (s : State) (k : Ticket) (x : Transfer) (more : List Transfer) (g : Grant), s.pins.powerGood = true ∧ s.smp.soft = .closing ∧
      s.tr.ticket = some k ∧ k.phase = .handed ∧ s.smp.copies = x :: more ∧ x.kind = .reportWrite ∧
      (∀ y ∈ more, y.kind ≠ .reportWrite) ∧ s.smp.grant = some g ∧ g.client = .copy ∧ g.dropped = false ∧ x.left ≤ g.words ∧
      ∀ y ∈ s.smp.writes, y.isRepeatedTaken k.addr = false) ∧
    (∃ (s : State) (addr : Nat) (h : HeaderWrite) (rest : List Transfer), s.pins.powerGood = true ∧ s.smp.soft = .closing ∧
      LastWriteBurst (headerTransfer addr h) rest s ∧ s.tr.ticket = none ∧ s.smp.copies = [] ∧ ∃ y ∈ rest, y.isHeaderWrite = true) ∧
    (∃ (s : State) (addr : Nat) (h : HeaderWrite) (rest : List Transfer), s.pins.powerGood = true ∧ s.smp.soft = .closing ∧
      LastWriteBurst (headerTransfer addr h) rest s ∧ s.tr.ticket = none ∧ s.smp.copies = [] ∧
      (∀ y ∈ rest, y.isHeaderWrite = false) ∧ s.cfg.lockEdge = .both ∧ s.mr.lock ≠ .search ∧ h.state = .failed ∧ h.notify = true) ∧
    (∃ (s : State) (addr : Nat) (h : HeaderWrite) (rest : List Transfer), s.pins.powerGood = true ∧ s.smp.soft = .closing ∧
      LastWriteBurst (headerTransfer addr h) rest s ∧ s.tr.ticket ≠ none ∧ h.role = .close ∧ s.smp.copies = [] ∧
      ∀ y ∈ rest, y.isHeaderWrite = false) ∧
    (∃ s : State, s.pins.powerGood = true ∧ s.smp.soft = .settling ∧ s.smp.writes = [] ∧ s.tr.ticket = none ∧
      (∀ x ∈ s.smp.copies, x.kind ≠ .reportWrite) ∧ ∀ x ∈ s.smp.reads, x.kind ≠ .progress) ∧
    (∃ s : State, s.pins.powerGood = true ∧ s.smp.soft = .settling ∧ ∃ x ∈ s.smp.reads, x.kind = .progress) ∧
    (∃ s : State, s.pins.powerGood = true ∧ s.smp.soft ≠ .off) :=
  let e : Tally := { aTally 0 with cause := .reset, stale := false, closing := true }
  let c : Transfer := writeOf (.countsWrite (.finalise 0)) 644 (List.replicate 8 0)
  let k : Ticket := aTicket .report [] .handed
  let own : Transfer := headerTransfer 256 (resetWrite .close)
  ⟨⟨{ inLine .draining with dc.nip := .closed }, And.intro rfl rfl, rfl, And.intro rfl ⟨rfl, rfl, rfl⟩, rfl⟩,
   ⟨{ writeState c 8 with smp.soft := .finalising, bt.tallies := [e] }, e, c, [], rfl, rfl, rfl,
    (writeState_ends c 8 rfl (by decide)).2, rfl, rfl, rfl, (fun _ h => nomatch h), rfl⟩,
   ⟨{ State.reset with smp.soft := .closing, tr.ticket := some k, smp.copies := [writeOf .reportWrite 256 [5]],
                       smp.grant := aGrant .copy 1 }, k, _, [], _, rfl, rfl, rfl, rfl, rfl, rfl, by decide, rfl, rfl, rfl, by decide,
    by decide⟩,
   ⟨{ closingState with smp.writes := closingState.smp.writes ++ [own] }, 512, resetWrite (.segment false), [own], rfl, rfl,
    ⟨rfl, rfl, _, rfl, rfl, rfl, by decide⟩, rfl, rfl, by decide⟩,
   ⟨closingState, 512, resetWrite (.segment false), [], rfl, rfl, ⟨rfl, rfl, _, rfl, rfl, rfl, by decide⟩, rfl, rfl,
    (fun _ h => nomatch h), rfl, by decide, rfl, rfl⟩,
   ⟨{ writeState own 1 with smp.soft := .closing, tr.ticket := some { k with phase := .final } }, 256, resetWrite .close, [], rfl, rfl,
    (writeState_ends own 1 rfl (by decide)).2, by decide, rfl, rfl, (fun _ h => nomatch h)⟩,
   ⟨{ State.reset with smp.soft := .settling, smp.copies := [readOf .profileCopy 64 64] }, by decide⟩,
   ⟨{ State.reset with smp.soft := .settling, smp.reads := [readOf .progress 4096 32] }, by decide⟩,
   ⟨{ State.reset with smp.soft := .stopping }, by decide⟩⟩

/-- One tally with a band, a retirement in progress, a header write in flight, a snapshot write, a handed ticket, nothing at all;
then the line at rest with mains lost, and a moving one at speed 0, by SPEED_ZERO and by the sample that just brings it there. -/
theorem witness_SoftResetAtRest :
    let reach : Instr → State → State → Prop := fun c s u =>
      ReachesBlocks c noLines s u ∧ s.pins.nipOpenSw = true ∧ s.pins.nipClosedSw = false ∧ s.dc.nip ≠ .fault ∧ s.rasterIdle
    let rest : State → Prop := fun s => reach .softReset s s
    let clean : State → Prop := fun s => s.bt.track = [] ∧ s.bt.tallies = [] ∧ s.bt.retiring = none
    (∃ s e, rest s ∧ s.bt.tallies = [e] ∧ e.closing = false ∧ s.bt.retiring = none ∧ (∃ b ∈ s.bt.track, b.tally = e.id) ∧
      ∀ x ∈ s.smp.writes, x.isHeaderWrite = false) ∧
    (∃ s, rest s ∧ s.bt.retiring ≠ none ∧ s.dc.nip ≠ .closed) ∧
    (∃ s, rest s ∧ s.bt.retiring = none ∧ ∃ x ∈ s.smp.writes, x.isHeaderWrite = true) ∧
    (∃ s, rest s ∧ clean s ∧ (∀ x ∈ s.smp.writes, x.isHeaderWrite = false) ∧ ∃ x ∈ s.smp.copies, x.kind = .reportWrite) ∧
    (∃ s k, rest s ∧ clean s ∧ s.tr.ticket = some k ∧ k.phase = .handed ∧ (∀ x ∈ s.smp.writes, x.isHeaderWrite = false) ∧
      ∀ x ∈ s.smp.copies, x.kind ≠ .reportWrite) ∧
    (∃ s, rest s ∧ clean s ∧ s.tr.ticket = none ∧ (∀ x ∈ s.smp.writes, x.isHeaderWrite = false) ∧
      (∀ x ∈ s.smp.copies, x.kind ≠ .reportWrite) ∧ s.hc.retain = true) ∧
    (∃ s, rest s ∧ clean s ∧ s.tr.ticket = none ∧ (∀ x ∈ s.smp.writes, x.isHeaderWrite = false) ∧
      (∀ x ∈ s.smp.copies, x.kind ≠ .reportWrite) ∧ s.hc.retain = false) ∧
    (∃ s, rest s ∧ clean s ∧ s.tr.ticket = none ∧ s.smp.writes = [] ∧ s.smp.copies = [] ∧ s.dc.line = .powerHeld ∧
      s.pins.mainsOk = false) ∧
    (∃ s, reach (.speedZero noLines) s (sampleLines noLines s) ∧ clean s ∧ s.tr.ticket = none ∧ s.smp.writes = [] ∧
      s.smp.copies = [] ∧ s.dc.line = .powerStop) ∧
    (∃ s cells, reach (.tensionSample cells noLines) s (sampleLines noLines s) ∧ clean s ∧ s.tr.ticket = none ∧ s.smp.writes = [] ∧
      s.smp.copies = [] ∧ s.dc.line = .stopping ∧ s.dc.ref = s.cfg.stopDecel * 5 ∧ s.dc.ref ≠ 0) := by
  have at_rest : ∀ s : State, s.pins = State.reset.pins → s.smp.soft = .off → s.dc = State.reset.dc → s.re = State.reset.re →
      ReachesBlocks .softReset noLines s s ∧ s.pins.nipOpenSw = true ∧ s.pins.nipClosedSw = false ∧ s.dc.nip ≠ .fault ∧
        s.rasterIdle := by
    intro s hp hs hd hr
    refine ⟨⟨by rw [hp]; rfl, .inl ⟨rfl, rfl, hs, .inl (by rw [hd]; rfl)⟩⟩, by rw [hp]; rfl, by rw [hp]; rfl, by rw [hd]; decide, ?_⟩
    exact ⟨by rw [hr]; rfl, by rw [hr]; rfl, by rw [hr]; rfl, by rw [hr]; rfl⟩
  exact ⟨⟨{ State.reset with bt.tallies := [{ aTally 0 with inTrack := 1 }], bt.track := [aBand 1 .awaiting] },
      { aTally 0 with inTrack := 1 }, at_rest _ rfl rfl rfl rfl, by decide⟩,
    ⟨{ State.reset with bt.retiring := some .counts }, at_rest _ rfl rfl rfl rfl, by decide⟩,
    ⟨handState .stop [], at_rest _ rfl rfl rfl rfl, by decide⟩,
    ⟨{ State.reset with smp.copies := [writeOf .reportWrite 256 [5]] }, at_rest _ rfl rfl rfl rfl, by decide⟩,
    ⟨{ State.reset with tr.ticket := some (aTicket .stop [] .handed) }, aTicket .stop [] .handed, at_rest _ rfl rfl rfl rfl, by decide⟩,
    ⟨{ State.reset with hc.retain := true }, at_rest _ rfl rfl rfl rfl, by decide⟩, ⟨State.reset, at_rest _ rfl rfl rfl rfl, by decide⟩,
    ⟨{ inLine .powerHeld with pins.mainsOk := false },
      ⟨⟨rfl, .inl ⟨rfl, rfl, rfl, .inr (.inr rfl)⟩⟩, rfl, rfl, by decide, rfl, rfl, rfl, rfl⟩, by decide⟩,
    ⟨{ inLine .powerStop with smp.soft := .stopping },
      ⟨⟨rfl, .inr ⟨rfl, rfl, .inr rfl, .inl ⟨rfl, rfl⟩⟩⟩, rfl, rfl, by decide, rfl, rfl, rfl, rfl⟩, by decide⟩,
    ⟨{ inLine .stopping with smp.soft := .stopping, dc.stopKind := .fast, dc.ref := Settings.reset.stopDecel * 5 },
      ⟨⟨0, false⟩, ⟨0, false⟩, ⟨0, false⟩⟩,
      ⟨⟨rfl, .inr ⟨rfl, rfl, .inl ⟨rfl, rfl⟩, .inr ⟨_, rfl, by decide⟩⟩⟩, rfl, rfl, by decide, rfl, rfl, rfl, rfl⟩, by decide⟩⟩

theorem witness_PowerGood :
    (∃ s : State, s.pins.powerGood = false) ∧
    (∀ c ∈ [Instr.mainsOkLoss, .nipSwitchChange true false noLines, .rampStep],
      ∃ s : State, s.pins.powerGood = false ∧ (∀ n, c ≠ .powerGoodLow n) ∧ c ≠ .powerGoodRise) ∧
    ∃ (s : State) (x : Transfer) (rest : List Transfer) (g : Grant), s.smp.grant = some g ∧ g.client = .write ∧ g.dropped = false ∧
      s.smp.writes = x :: rest ∧ x.isWrite = true ∧ x.moved + g.words = x.words.length :=
  ⟨⟨{ State.reset with pins.powerGood := false }, rfl⟩,
   fun c h => ⟨{ State.reset with pins.powerGood := false }, rfl, fun n e => by subst e; simp at h, fun e => by subst e; simp at h⟩,
   handState .stop [], _, [], _, rfl, rfl, rfl, rfl, rfl, rfl⟩

/-- A reference of 1 is not yet 0. -/
theorem witness_MainsOk :
    (∃ s : State, s.pins.powerGood = true ∧ s.dc.line ≠ .powerStop ∧ s.dc.line ≠ .powerHeld ∧ s.dc.ref ≠ 0 ∧ s.dc.nip = .closing) ∧
    (∃ s : State, s.pins.powerGood = true ∧ s.dc.line ≠ .powerStop ∧ s.dc.line ≠ .powerHeld ∧ s.dc.ref = 0) ∧
    (∃ s : State, s.pins.powerGood = true ∧ s.dc.line = .powerStop) ∧
    (∃ (s : State) (g : Segment) (e : Tally), s.pins.powerGood = true ∧ s.dc.line ≠ .powerStop ∧ s.dc.line ≠ .powerHeld ∧
      s.dc.ref ≠ 0 ∧ SegmentHeld g e s) ∧
    (∃ s : State, s.pins.powerGood = true ∧ s.dc.line = .powerHeld ∧ s.tr.ticket = none) :=
  ⟨⟨{ inLine .starting with dc.ref := 1, dc.nip := .closing }, by decide⟩, ⟨State.reset, by decide⟩,
   ⟨inLine .powerStop, by decide⟩,
   ⟨{ held .printing .running with dc.ref := 1 }, _, _, rfl, by decide, by decide, by decide, ⟨rfl, rfl, by decide, rfl, rfl, rfl⟩⟩,
   ⟨inLine .powerHeld, by decide⟩⟩

/-! ## Witnesses: tickets -/

theorem witness_SpeedAndTensionTickets :
    (∃ t rest s, Handing t rest s ∧ t.kind = .setSpeed ∧ natAt t.body 0 = 1000) ∧
    (∃ t rest s, Handing t rest s ∧ t.kind = .setTension) :=
  ⟨⟨_, _, _, handState_handing .setSpeed [1000, 10], rfl, rfl⟩, ⟨_, _, _, handState_handing .setTension (List.replicate 17 100), rfl⟩⟩

/-- A zone that enters with a reading, one that enters without, one already on, one off; a target change of 30 and of 31. -/
theorem witness_HeatTicket :
    (∃ t rest s, Handing t rest s ∧ t.kind = .setHeat ∧ s.hc.drum = .tripped) ∧
    (∃ t rest s, Handing t rest s ∧ t.kind = .setHeat ∧ s.hc.drum = .cold ∧ (wordAt t.body 8).getLsbD 0 = true ∧
      natAt t.body 0 = 2000 ∧ s.hc.zones.z0.reading = some 250 ∧ s.hc.zones.z1.reading = none ∧
      (wordAt t.body 8).getLsbD 1 = true) ∧
    (∃ t rest s, Handing t rest s ∧ t.kind = .setHeat ∧ s.hc.drum = .atTemp ∧ s.hc.zones.z0.enable = true ∧
      s.hc.zones.z0.target = 1970 ∧ (wordAt t.body 8) = 1 ∧ natAt t.body 0 = 2000) ∧
    (∃ t rest s, Handing t rest s ∧ t.kind = .setHeat ∧ s.hc.drum = .atTemp ∧ s.hc.zones.z0.enable = true ∧
      s.hc.zones.z0.target = 1969 ∧ (wordAt t.body 8) = 1 ∧ natAt t.body 0 = 2000) ∧
    (∃ t rest s, Handing t rest s ∧ t.kind = .setHeat ∧ s.hc.drum = .atTemp ∧ wordAt t.body 8 = 0) :=
  let body : Word → List Word := fun m => [2000, 2000, 0, 0, 0, 0, 0, 0, m, 1400, 20, 64, 8, 0]
  let on : Nat → Zone := fun n => { Zone.reset with enable := true, target := n, state := .regulate, reading := some n }
  ⟨⟨_, _, { handState .setHeat (body 1) with hc.drum := .tripped }, handing_of .setHeat (body 1) _ rfl rfl rfl rfl rfl, rfl, rfl⟩,
   ⟨_, _, { handState .setHeat (body 3) with hc.zones.z0.reading := some 250 },
    handing_of .setHeat (body 3) _ rfl rfl rfl rfl rfl, by decide⟩,
   ⟨_, _, { handState .setHeat (body 1) with hc.drum := .atTemp, hc.zones.z0 := on 1970 },
    handing_of .setHeat (body 1) _ rfl rfl rfl rfl rfl, by decide⟩,
   ⟨_, _, { handState .setHeat (body 1) with hc.drum := .atTemp, hc.zones.z0 := on 1969 },
    handing_of .setHeat (body 1) _ rfl rfl rfl rfl rfl, by decide⟩,
   ⟨_, _, { handState .setHeat (body 0) with hc.drum := .atTemp }, handing_of .setHeat (body 0) _ rfl rfl rfl rfl rfl, by decide⟩⟩

theorem witness_ConfigureTicket :
    (∃ t rest s, Handing t rest s ∧ t.kind = .configure ∧ (s.dc.line = .stopped ∨ s.dc.line = .tripped) ∧ s.bt.track = []) ∧
    (∃ t rest s, Handing t rest s ∧ t.kind = .configure ∧
      ¬((s.dc.line = .stopped ∨ s.dc.line = .tripped) ∧ s.bt.track = [])) :=
  ⟨⟨_, _, _, handState_handing .configure [], rfl, .inl rfl, rfl⟩,
   ⟨_, _, { handState .configure [] with bt.track := [aBand 1 .awaiting] }, handing_of .configure [] _ rfl rfl rfl rfl rfl, rfl,
    by decide⟩⟩

theorem witness_LoadAndReportTickets :
    (∃ t rest s, Handing t rest s ∧ t.kind = .loadProfile) ∧ (∃ t rest s, Handing t rest s ∧ t.kind = .report) ∧
    (∃ (t : Ticket) (s : State) (x : Transfer) (more : List Transfer) (g : Grant), s.pins.powerGood = true ∧ s.smp.soft = .off ∧
      s.tr.ticket = some t ∧ s.smp.copies = x :: more ∧ x.kind = .reportWrite ∧ s.smp.grant = some g ∧ g.client = .copy ∧
      g.dropped = false ∧ x.left ≤ g.words ∧ ∀ y ∈ s.smp.writes, y.isRepeatedTaken t.addr = false) :=
  ⟨⟨_, _, _, handState_handing .loadProfile [7, 256], rfl⟩, ⟨_, _, _, handState_handing .report [256], rfl⟩,
   ⟨aTicket .report [256] .handed,
    { State.reset with
      tr.ticket := some (aTicket .report [256] .handed), smp.grant := aGrant .copy 1,
      smp.copies := [writeOf .reportWrite 256 [5]] },
    writeOf .reportWrite 256 [5], [], { client := .copy, words := 1, dropped := false }, by decide⟩⟩

/-- The body of a SEGMENT with every field at a good value: 64 rows of one pixel, 16 words to a row, slot 0. -/
def segmentBody : List Word := [4096, 64, 1, 64, 64, 1, 0, 0, 0, 0, 65536, 1, 0] ++ List.replicate 16 0

/-- Slot 0 is valid. -/
def validSlot (s : State) : State := { s with ps.slots.z0.valid := true }

/-- With AUTO_START and without it: the line can start, the drum is HEATING, the drum is COLD. -/
theorem witness_SegmentTicket :
    ∀ auto : Bool, ∀ d ∈ [DrumState.atTemp, DrumState.heating, DrumState.cold],
    ∃ (t : Ticket) (x : Transfer) (more : List Transfer) (g : Grant) (ws : List Word) (l : Lines) (s : State),
      BodyArrives t x more g ws s ∧ t.kind = .segment ∧ s.tr.reader = .reading ∧
      takeCheck { t with body := x.words ++ ws.take g.words } s = none ∧ s.dc.line = .stopped ∧ s.re.raster = .idle ∧
      s.re.slots = [] ∧ 0 ∉ voidsOf (x.words ++ ws.take g.words) ∧ (wordAt (x.words ++ ws.take g.words) 9).getLsbD 0 = auto ∧
      s.hc.drum = d ∧ s.dc.nip = .opened ∧ (∀ w ∈ s.dc.webs.toList, w.inRange = true) ∧ l.broken = ⟨false, false, false⟩ ∧
      s.tr.haltReq = false ∧ ∀ y ∈ s.bt.tallies, y.id ≠ s.bt.nextTally := by
  intro auto d hd
  refine ⟨_, _, _, _, segmentBody.set 9 (if auto then 1 else 0), noLines,
    { validSlot (bodyState .segment 29) with
      hc.drum := d, dc.webs := State.reset.dc.webs.map (fun w => { w with inRange := true }) },
    ⟨⟨rfl, rfl⟩, rfl, rfl, rfl, rfl, rfl, rfl, rfl, rfl, ?_⟩, rfl, rfl, ?_⟩
  · cases auto <;> decide
  · simp only [List.mem_cons, List.not_mem_nil, or_false] at hd
    rcases hd with rfl | rfl | rfl <;> cases auto <;> decide

theorem witness_EndSegmentTicket :
    (∃ t rest s, Handing t rest s ∧ t.kind = .endSegment ∧ s.re.raster = .idle) ∧
    (∃ t rest s, Handing t rest s ∧ t.kind = .endSegment ∧
      ∃ c : BandContext, s.re.raster = .printing ∧ s.re.band = some c ∧ natAt t.body 0 = 1 ∧ s.re.ending ≠ .now) ∧
    (∃ t rest s, Handing t rest s ∧ t.kind = .endSegment ∧
      ∃ c : BandContext, s.re.raster = .printing ∧ s.re.band = some c ∧ natAt t.body 0 = 0 ∧
        (s.re.ending = .none ∨ s.re.ending = .drain)) ∧
    (∃ t rest s, Handing t rest s ∧ t.kind = .endSegment ∧ s.re.raster = .printing ∧
      (s.re.ending = .now ∨ (s.re.ending = .atBoundary ∧ natAt t.body 0 = 0))) ∧
    (∀ r : RasterState, r = .priming ∨ r = .between → ∃ t rest s, Handing t rest s ∧ t.kind = .endSegment ∧
      ∃ (g : Segment) (e : Tally), s.re.raster = r ∧ s.tr.reader = .holding ∧ s.re.seg = some g ∧
        s.bt.tallies.find? (fun y => y.id = g.tally) = some e ∧ e.inTrack = 0 ∧ e.closing = false ∧ e.stale = true) :=
  ⟨⟨_, _, _, handState_handing .endSegment [0], rfl, rfl⟩,
   ⟨_, _, { handState .endSegment [1] with
             re.raster := .printing, re.band := some aContext, re.seg := some aSegment, re.ending := .atBoundary },
    handing_of .endSegment [1] _ rfl rfl rfl rfl rfl, rfl, aContext, by decide⟩,
   ⟨_, _, { handState .endSegment [0] with
             re.raster := .printing, re.band := some aContext, re.seg := some aSegment, re.ending := .drain },
    handing_of .endSegment [0] _ rfl rfl rfl rfl rfl, rfl, aContext, by decide⟩,
   ⟨_, _, { handState .endSegment [0] with
             re.raster := .printing, re.band := some aContext, re.seg := some aSegment, re.ending := .atBoundary },
    handing_of .endSegment [0] _ rfl rfl rfl rfl rfl, rfl, by decide⟩,
   fun r _ => ⟨_, _, { handState .endSegment [0] with
             re.raster := r, tr.reader := .holding, re.seg := some aSegment, bt.tallies := [aTally 0] },
    handing_of .endSegment [0] _ rfl rfl rfl rfl rfl, rfl, aSegment, aTally 0, rfl, rfl, rfl, rfl, rfl, rfl, rfl⟩⟩

theorem witness_StopTicket :
    (∃ t rest s, Handing t rest s ∧ t.kind = .stop ∧ s.dc.line = .stopped) ∧
    (∃ t rest s, Handing t rest s ∧ t.kind = .stop ∧ s.dc.line = .powerStop) ∧
    (∃ t rest s, Handing t rest s ∧ t.kind = .stop ∧ s.dc.line = .stopping) ∧
    (∃ t rest s, Handing t rest s ∧ t.kind = .stop ∧ s.dc.line = .running ∧ s.rasterIdle ∧ s.bt.track ≠ []) ∧
    (∃ t rest s, Handing t rest s ∧ t.kind = .stop ∧ s.dc.line = .starting ∧ s.dc.nip = .opened) :=
  ⟨⟨_, _, _, handState_handing .stop [], rfl, rfl⟩,
   ⟨_, _, { handState .stop [] with dc.line := .powerStop }, handing_of .stop [] _ rfl rfl rfl rfl rfl, rfl, rfl⟩,
   ⟨_, _, { handState .stop [] with dc.line := .stopping }, handing_of .stop [] _ rfl rfl rfl rfl rfl, rfl, rfl⟩,
   ⟨_, _, { handState .stop [] with dc.line := .running, bt.track := [aBand 1 .printing] },
    handing_of .stop [] _ rfl rfl rfl rfl rfl, rfl, rfl, ⟨rfl, rfl, rfl, rfl⟩, by decide⟩,
   ⟨_, _, { handState .stop [] with dc.line := .starting }, handing_of .stop [] _ rfl rfl rfl rfl rfl, rfl, rfl, rfl⟩⟩

/-! ## Witnesses: paper, bands and marks -/

/-- Band 1 from L0 = 0 alone in the track with c = 0, the next paper pulse reaching exactly: its midpoint at the nip (here with
overflow set, and without), the drum exit, the patch (VOID, PRINTED with READY, PRINTED without), the trailing edge (AWAITING, and
CLEARING with room in the result area and with none); and a splice entry that leaves from an empty track. -/
theorem witness_EncoderPositions :
    let open_ : State → Prop := fun s =>
      s.pins.powerGood = true ∧ s.rasterIdle ∧ s.smp.soft = .off ∧ s.bt.retiring = none
    let at_ : State → Nat := fun s => (s.bt.pos.paper.advance s.cfg.scale.paper).nm
    let alone : State → Band → Prop := fun s b =>
      open_ s ∧ s.bt.track = [b] ∧ b.c = some 0 ∧ b.l0 = 0 ∧ ∀ x ∈ s.bt.splices.head?, (at_ s : Int) < x + s.cfg.w * 1000000
    (∃ (e : EncoderId) (s : State), s.pins.powerGood = true ∧ e ≠ .paper) ∧
    (∃ s b, alone s b ∧ b.state = .travelling ∧ at_ s = b.len / 2 + s.cfg.dpn * 1000000 ∧ s.bt.overflow = true) ∧
    (∃ s b, alone s b ∧ b.state = .travelling ∧ at_ s = b.len / 2 + s.cfg.dpn * 1000000 ∧ s.bt.overflow = false ∧ s.bt.splices = []) ∧
    (∃ s b, alone s b ∧ b.state = .onDrum ∧ at_ s = b.len / 2 + s.cfg.dpn * 1000000 + s.cfg.w * 1000000 ∧
      at_ s < b.po + s.cfg.dpn * 1000000 + s.cfg.w * 1000000 + s.cfg.dxi * 1000000) ∧
    (∀ k : BandKind, ∀ st : InstrumentStatus, ∃ s b, alone s b ∧ b.state = .pastDrum ∧ b.kind = k ∧ s.cv.status = st ∧
      s.cv.list.length < 4 ∧ at_ s = b.po + s.cfg.dpn * 1000000 + s.cfg.w * 1000000 + s.cfg.dxi * 1000000 ∧
      at_ s < b.len + s.cfg.dpn * 1000000 + s.cfg.w * 1000000 + s.cfg.dxi * 1000000) ∧
    (∀ full : Bool, ∃ s b y, alone s b ∧ b.state = .clearing ∧ s.bt.tallies = [y] ∧ y.id = b.tally ∧
      y.written = (if full then 1 else 0) ∧ y.capacity = 1 ∧
      at_ s = b.len + s.cfg.dpn * 1000000 + s.cfg.w * 1000000 + s.cfg.dxi * 1000000) ∧
    (∃ s b, alone s b ∧ b.state = .awaiting ∧ at_ s = b.len + s.cfg.dpn * 1000000 + s.cfg.w * 1000000 + s.cfg.dxi * 1000000) ∧
    (∃ (s : State) (x : Nat) (rest : List Nat), open_ s ∧ s.bt.track = [] ∧ s.bt.splices = x :: rest ∧
      x + s.cfg.w * 1000000 = at_ s ∧ ∀ y ∈ rest.head?, at_ s < y + s.cfg.w * 1000000) :=
  let b : BandState → Band := fun st => { aBand 1 st with c := some 0 }
  let q : BandState → Nat → State := fun st nm => { State.reset with bt.track := [b st], bt.pos.paper := ⟨nm, 0⟩ }
  have idle : ∀ s : State, s.re = State.reset.re → s.pins = State.reset.pins → s.smp.soft = .off → s.bt.retiring = none →
      s.pins.powerGood = true ∧ s.rasterIdle ∧ s.smp.soft = .off ∧ s.bt.retiring = none :=
    fun s hr hp hs ht => ⟨by rw [hp]; rfl, by unfold State.rasterIdle; rw [hr]; decide, hs, ht⟩
  ⟨⟨.drum, State.reset, by decide⟩,
   ⟨{ q .travelling 5001344656 with bt.overflow := true }, b .travelling,
     ⟨idle _ rfl rfl rfl rfl, rfl, rfl, rfl, by decide⟩, by decide⟩,
   ⟨q .travelling 5001344656, b .travelling, ⟨idle _ rfl rfl rfl rfl, rfl, rfl, rfl, by decide⟩, by decide⟩,
   ⟨q .onDrum 7001344656, b .onDrum, ⟨idle _ rfl rfl rfl rfl, rfl, rfl, rfl, by decide⟩, by decide⟩,
   fun k st => ⟨{ q .pastDrum 8499990000 with bt.track := [{ b .pastDrum with kind := k }], cv.status := st },
     { b .pastDrum with kind := k }, ⟨idle _ rfl rfl rfl rfl, rfl, rfl, rfl, fun _ h => nomatch h⟩, rfl, rfl, rfl, Nat.zero_lt_succ _,
     by cases k <;> cases st <;> decide, by cases k <;> cases st <;> decide⟩,
   fun full => ⟨{ q .clearing 8502699312 with bt.tallies := [{ aTally 0 with written := if full then 1 else 0 }] }, b .clearing,
     { aTally 0 with written := if full then 1 else 0 }, ⟨idle _ rfl rfl rfl rfl, rfl, rfl, rfl, fun _ h => nomatch h⟩, rfl, rfl, rfl,
     rfl, rfl, by cases full <;> decide⟩,
   ⟨q .awaiting 8502699312, b .awaiting, ⟨idle _ rfl rfl rfl rfl, rfl, rfl, rfl, by decide⟩, by decide⟩,
   ⟨{ State.reset with bt.splices := [0, 1], bt.pos.paper := ⟨1999990000, 0⟩ }, 0, [1], idle _ rfl rfl rfl rfl, by decide⟩⟩

/-- PRINTING band 1 from P = 0, row 1 due at 42,333 nm; the next paper pulse adds 10,000 nm. -/
def printing (slots : List RowSlot) (blank : Bool) (nm : Nat) : State :=
  { State.reset with
    dc.line := .running, re.raster := .printing, re.seg := some { aSegment with created := 1 },
    re.band := some { aContext with blank := blank }, re.slots := slots, bt.track := [aBand 1 .printing],
    bt.pos.paper := ⟨nm, 0⟩ }

def aSlot : RowSlot := { band := 0, row := 1, repeatRow := 1, words := [0], complete := true }

/-- A row event has come to the one band of the track, as RowEvents asks. -/
def rowDue (q : State) (g : Segment) (c : BandContext) (b : Band) : Prop :=
  q.pins.powerGood = true ∧ q.re.raster = .printing ∧ q.re.seg = some g ∧ q.re.band = some c ∧ q.bt.track = [b] ∧
    b.number = c.number ∧ b.c = none ∧ b.state = .printing ∧ q.bt.splices = [] ∧ (q.dc.line = .running ∨ q.dc.line = .draining) ∧
    c.l0 + c.next * c.p ≤ (q.bt.pos.paper.advance q.cfg.scale.paper).nm ∧
    (q.bt.pos.paper.advance q.cfg.scale.paper).nm ≤ b.l0 + q.cfg.dpm * 1000000 + q.halfWindow

/-- Row 1 of band 1 with a complete row, with none, and under blanking at the last nanometre before row 2; a VOID row; rows 1 and 2 in
one pulse, at the nanometre of row 2: under blanking, with no row, with one and with two; the last row of a PRINTED and of a VOID band,
with more bands to come and with the segment complete. -/
theorem witness_RowEvents :
    (∃ q g c b, rowDue q g c b ∧ c.kind = .printed ∧ c.next + 1 < g.bandRows ∧
      (q.bt.pos.paper.advance q.cfg.scale.paper).nm < c.l0 + (c.next + 1) * c.p ∧ c.blank = false ∧ q.re.depth ≠ 0) ∧
    (∃ q g c b, rowDue q g c b ∧ c.kind = .printed ∧ c.next + 1 < g.bandRows ∧
      (q.bt.pos.paper.advance q.cfg.scale.paper).nm < c.l0 + (c.next + 1) * c.p ∧ c.blank = false ∧ q.re.depth = 0) ∧
    (∃ q g c b, rowDue q g c b ∧ c.kind = .printed ∧ c.next + 1 < g.bandRows ∧
      (q.bt.pos.paper.advance q.cfg.scale.paper).nm + 1 = c.l0 + (c.next + 1) * c.p ∧ c.blank = true) ∧
    (∃ q g c b, rowDue q g c b ∧ c.kind = .void ∧ c.next + 1 < g.bandRows ∧
      (q.bt.pos.paper.advance q.cfg.scale.paper).nm < c.l0 + (c.next + 1) * c.p) ∧
    (∀ (dark : Bool) (n : Fin 3), ∃ q g c b, rowDue q g c b ∧ c.kind = .printed ∧ c.blank = dark ∧ c.next + 2 < g.bandRows ∧
      0 < c.p ∧ c.l0 + (c.next + 1) * c.p = (q.bt.pos.paper.advance q.cfg.scale.paper).nm ∧
      q.re.slots = List.replicate n.val aSlot ∧ q.re.depth = n.val) ∧
    (∀ k : BandKind, ∃ q g c b, rowDue q g c b ∧ c.kind = k ∧ c.next + 1 = g.bandRows ∧ q.re.ending = .none ∧ g.created < g.count ∧
      (q.bt.pos.paper.advance q.cfg.scale.paper).nm < q.re.printEnd) ∧
    (∀ k : BandKind, ∃ q g c b e, rowDue q g c b ∧ c.kind = k ∧ c.next + 1 = g.bandRows ∧ g.count ≠ 0 ∧ g.created = g.count ∧
      SegmentHeld g e q) ∧
    (∀ n ∈ [EndPending.drain, .atBoundary, .now], ∃ q g c b e, rowDue q g c b ∧ c.next + 1 = g.bandRows ∧ q.re.ending = n ∧
      g.count = 0 ∧ SegmentHeld g e q) :=
  let last : BandKind → Nat → State := fun k n =>
    { printing [aSlot] false 2656979 with
      re.seg := some { aSegment with created := 1, count := n }, re.band := some { aContext with kind := k, next := 63 },
      re.printEnd := 2666980, bt.tallies := [{ aTally 0 with inTrack := 1 }], tr.reader := .holding }
  ⟨⟨printing [aSlot] false 32333, _, _, _, ⟨rfl, rfl, rfl, rfl, rfl, by decide⟩, by decide⟩,
   ⟨printing [] false 32333, _, _, _, ⟨rfl, rfl, rfl, rfl, rfl, by decide⟩, by decide⟩,
   ⟨printing [aSlot] true 74665, _, _, _, ⟨rfl, rfl, rfl, rfl, rfl, by decide⟩, by decide⟩,
   ⟨{ printing [] false 32333 with re.band := some { aContext with kind := .void } }, _, _, _, ⟨rfl, rfl, rfl, rfl, rfl, by decide⟩,
    by decide⟩,
   fun dark n => ⟨printing (List.replicate n.val aSlot) dark 74666, _, _, _, ⟨rfl, rfl, rfl, rfl, rfl, by decide +revert⟩, rfl, rfl,
     by decide +revert⟩,
   fun k => ⟨last k 2, _, _, _, ⟨rfl, rfl, rfl, rfl, rfl, by cases k <;> decide⟩, rfl, by cases k <;> decide⟩,
   fun k => ⟨last k 1, _, _, _, { aTally 0 with inTrack := 1 }, ⟨rfl, rfl, rfl, rfl, rfl, by cases k <;> decide⟩, rfl, rfl, by decide, rfl,
     ⟨rfl, rfl, by decide, rfl, rfl, rfl⟩⟩,
   fun n _ => ⟨{ last .printed 0 with re.ending := n }, _, _, _, { aTally 0 with inTrack := 1 }, ⟨rfl, rfl, rfl, rfl, rfl, by cases n <;> decide⟩,
     rfl, rfl, rfl, ⟨rfl, rfl, by decide, rfl, rfl, rfl⟩⟩⟩

/-- The links of RowEvents: ready, and one present link not ready. -/
theorem witness_RowEvents_links :
    ((0x0003 : BitVec 16) ≠ 0 ∧ (0x0003 : BitVec 16) &&& ~~~0x0003 = 0) ∧ ¬((0x0003 : BitVec 16) &&& ~~~0x0001 = 0) := by decide

/-- A span's last nanometre, 2,500 mm before the nip, holds the splice; four splices are stored. -/
theorem witness_SplicePulse :
    (∃ s : State, s.pins.powerGood = true ∧ s.bt.splices.length = 3) ∧
    (∃ s : State, s.pins.powerGood = true ∧ s.bt.splices.length = 4) ∧
    (∃ (s : State) (b : Band), s.bt.track[0]? = some b ∧ b.c = some 0 ∧
      s.bt.pos.paper.nm + s.cfg.fn * 1000000 = b.l0 + b.len + s.cfg.dpn * 1000000) :=
  ⟨⟨{ State.reset with bt.splices := [1, 2, 3] }, by decide⟩, ⟨{ State.reset with bt.splices := [1, 2, 3, 4] }, by decide⟩,
   ⟨{ State.reset with bt.track := [{ aBand 1 .travelling with c := some 0 }], bt.pos.paper := ⟨2502709312, 0⟩ },
    { aBand 1 .travelling with c := some 0 }, by decide⟩⟩

/-- The window of band 1 opens 3 mm before x = 4,000 mm; a read one nanometre earlier is a stray, as is a repeat at its far end; a read and a
pulse one nanometre past that end miss the mark, the read of two bands at the near end of the second's window. -/
theorem witness_MarkReads :
    (∃ s : State, s.pins.powerGood = true ∧ s.mr.errors ≤ 65535 ∧ ∀ b ∈ s.bt.track, b.c ≠ none) ∧
    (∃ (position : Nat) (s : State), s.pins.powerGood = true ∧ s.mr.errors = 65534 ∧ s.cfg.counterSource ≠ .missed ∧
      ∃ b ∈ s.bt.track.find? (fun r => r.c.isNone),
        position + (if s.mr.lock = .search then 4 else 1) * (s.cfg.markWindow * 1000) < b.l0 + s.cfg.dpm * 1000000) ∧
    (∃ (code : Byte) (position : Nat) (s : State) (b : Band), s.pins.powerGood = true ∧ s.bt.track.find? (fun r => r.c.isNone) = some b ∧
      position = b.l0 + s.cfg.dpm * 1000000 + 1 * (s.cfg.markWindow * 1000) ∧ s.mr.lock = .locked ∧
      s.mr.lastRead = some ⟨b.number, position⟩ ∧ code.toNat = b.number % 256) ∧
    (∃ (position : Nat) (s : State) (b : Band), s.pins.powerGood = true ∧ s.mr.errors = 65533 ∧ s.cfg.counterSource = .both ∧
      s.mr.lock = .locked ∧ s.mr.miss = 3 ∧ s.bt.track.find? (fun r => r.c.isNone) = some b ∧
      (∀ r ∈ s.bt.track, r.c = none → r.number = b.number) ∧
      b.l0 + s.cfg.dpm * 1000000 + 1 * (s.cfg.markWindow * 1000) + 1 = position) ∧
    (∃ (code : Byte) (position : Nat) (s : State) (b r : Band), s.pins.powerGood = true ∧ s.mr.errors ≤ 65535 ∧ s.mr.lock = .locked ∧
      s.bt.track = [b, r] ∧ b.c = none ∧ r.c = none ∧ b.number ≠ r.number ∧
      b.l0 + s.cfg.dpm * 1000000 + 1 * (s.cfg.markWindow * 1000) < position ∧
      r.l0 + s.cfg.dpm * 1000000 = position + 1 * (s.cfg.markWindow * 1000) ∧ code.toNat = r.number % 256 ∧ s.mr.lastRead = none) ∧
    (∀ k ∈ [LockState.lost, LockState.locked], ∃ (code : Byte) (position : Nat) (s : State) (b : Band), s.pins.powerGood = true ∧
      s.bt.track.find? (fun r => r.c.isNone) = some b ∧ (∀ r ∈ s.bt.track, r.c = none → r.number = b.number) ∧
      b.l0 + s.cfg.dpm * 1000000 ≤ position + 1 * (s.cfg.markWindow * 1000) ∧ position ≤ b.l0 + s.cfg.dpm * 1000000 ∧
      s.mr.lastRead = none ∧ s.mr.lock = k ∧ s.mr.found = 2 ∧ code.toNat = b.number % 256) ∧
    (∀ ok : Bool, ∃ (code : Byte) (position : Nat) (s : State) (b : Band), s.pins.powerGood = true ∧
      s.bt.track.find? (fun r => r.c.isNone) = some b ∧ (∀ r ∈ s.bt.track, r.c = none → r.number = b.number) ∧
      b.l0 + s.cfg.dpm * 1000000 ≤ position + 1 * (s.cfg.markWindow * 1000) ∧
      position = b.l0 + s.cfg.dpm * 1000000 + 1 * (s.cfg.markWindow * 1000) ∧ s.mr.lastRead = none ∧
      s.mr.lock = .locked ∧ s.mr.errors < 65534 ∧ s.cfg.counterSource = .both ∧ s.mr.miss = 3 ∧ (ok = false ∨ code.toNat ≠ b.number % 256)) ∧
    (∃ (s : State) (b : Band), s.pins.powerGood = true ∧ s.mr.errors ≤ 65535 ∧ s.rasterIdle ∧ s.bt.track = [b] ∧ b.c = none ∧
      b.state = .travelling ∧ s.bt.splices = [] ∧ s.mr.lock = .locked ∧
      b.l0 + s.cfg.dpm * 1000000 + s.cfg.markWindow * 1000 + 1 = (s.bt.pos.paper.advance s.cfg.scale.paper).nm ∧
      ((s.bt.pos.paper.advance s.cfg.scale.paper).nm : Int) < b.l0 + (b.len / 2 : Nat) + s.cfg.dpn * 1000000 + s.mr.ccur) :=
  let q : State := { State.reset with mr.lock := .locked, bt.track := [aBand 1 .travelling] }
  ⟨⟨{ State.reset with bt.track := [{ aBand 1 .travelling with c := some 0 }] }, by decide⟩,
   ⟨3996999999, { q with mr.errors := 65534 }, by decide⟩,
   ⟨1, 4003000000, { q with mr.lastRead := some ⟨1, 4003000000⟩ }, aBand 1 .travelling, by decide⟩,
   ⟨4003000001, { q with mr.miss := 3, mr.errors := 65533 }, aBand 1 .travelling, by decide⟩,
   ⟨2, 4003000001, { q with bt.track := [aBand 1 .travelling, { aBand 2 .travelling with l0 := 6000001 }] }, aBand 1 .travelling,
    { aBand 2 .travelling with l0 := 6000001 }, by decide⟩,
   fun k hk => ⟨1, 3997000000, { q with mr.lock := k, mr.found := 2 }, aBand 1 .travelling, by
     simp only [List.mem_cons, List.not_mem_nil, or_false] at hk
     rcases hk with rfl | rfl <;> decide⟩,
   fun ok => ⟨if ok then 9 else 1, 4003000000, { q with mr.miss := 3, mr.errors := 65533 }, aBand 1 .travelling, by
     cases ok <;> decide⟩,
   ⟨{ q with bt.pos.paper := ⟨4002990001, 0⟩ }, aBand 1 .travelling, by unfold State.rasterIdle; decide⟩⟩

theorem witness_LockAndDriftChanges :
    (∃ s : State, s.pins.powerGood = true ∧ s.mr.lock ≠ .locked ∧ s.mr.found = 3 ∧ ∀ b ∈ s.bt.track, b.c ≠ none) ∧
    (∃ s : State, s.pins.powerGood = true ∧ s.mr.lock ≠ .locked ∧ s.mr.found = 2) ∧
    (∃ s : State, s.pins.powerGood = true ∧ s.mr.lock = .locked ∧ s.mr.miss = 4) ∧
    (∃ s : State, s.pins.powerGood = true ∧ s.mr.lock = .locked ∧ s.mr.miss = 3) ∧
    (∃ s : State, s.pins.powerGood = true ∧ s.cv.drift = false ∧ s.cv.failRun = 3) ∧
    (∃ s : State, s.pins.powerGood = true ∧ s.cv.drift = false ∧ s.cv.failRun = 2) ∧
    (∃ s : State, s.pins.powerGood = true ∧ s.cv.drift = true ∧ s.cv.passRun = 16) ∧
    (∃ s : State, s.pins.powerGood = true ∧ s.cv.drift = true ∧ s.cv.passRun = 15) :=
  ⟨⟨{ State.reset with mr.found := 3 }, by decide⟩, ⟨{ State.reset with mr.found := 2 }, by decide⟩,
   ⟨{ State.reset with mr.lock := .locked, mr.miss := 4 }, by decide⟩,
   ⟨{ State.reset with mr.lock := .locked, mr.miss := 3 }, by decide⟩, ⟨{ State.reset with cv.failRun := 3 }, by decide⟩,
   ⟨{ State.reset with cv.failRun := 2 }, by decide⟩, ⟨{ State.reset with cv.drift := true, cv.passRun := 16 }, by decide⟩,
   ⟨{ State.reset with cv.drift := true, cv.passRun := 15 }, by decide⟩⟩

/-- RUNNING and PRIMING with 8 rows in hand, the lead rows at reset. -/
def starting : State :=
  { State.reset with
    dc.line := .running, re.raster := .priming, re.seg := some aSegment, re.slots := List.replicate 8 aSlot,
    bt.tallies := [aTally 0] }

/-- The last band number, FFFFFFFFh, is given; the next band waits, as one does with 96 bands in the track. A PRINTED and a VOID band
behind 95 others with a link not ready, the VOID one with no row in hand. -/
theorem witness_BandStart :
    (∃ (l : Lines) (g : Segment) (s : State), s.pins.powerGood = true ∧ s.re.seg = some g ∧
      ((s.re.raster = .priming ∨ s.re.raster = .between) ∧ s.re.ending = .none ∧ (g.count = 0 ∨ g.created < g.count) ∧
        s.dc.line = .running ∧ s.re.printEnd ≤ s.bt.pos.paper.nm ∧ (g.created ∈ g.voids ∨ s.cfg.leadRows ≤ s.re.depth)) ∧
      s.bt.track.length < 96 ∧ s.bt.nextNumber = 4294967295 ∧ g.created ∉ g.voids ∧ 2 ≤ g.bandRows ∧ 2 ≤ s.cfg.leadRows ∧
      (∀ b ∈ s.bt.track, b.number < s.bt.nextNumber) ∧ l.head.present ≠ 0 ∧ l.head.present &&& ~~~l.head.ready = 0) ∧
    (∀ void : Bool, ∃ (l : Lines) (g : Segment) (s : State), s.pins.powerGood = true ∧ s.re.seg = some g ∧
      (s.re.raster = .priming ∨ s.re.raster = .between) ∧ s.re.ending = .none ∧ (g.count = 0 ∨ g.created < g.count) ∧
      s.dc.line = .running ∧ s.re.printEnd ≤ s.bt.pos.paper.nm ∧ (g.created ∈ g.voids ↔ void = true) ∧
      (s.cfg.leadRows ≤ s.re.depth ↔ void = false) ∧ s.bt.track.length = 95 ∧ s.bt.nextNumber ≤ 4294967295 ∧ 2 ≤ g.bandRows ∧
      2 ≤ s.cfg.leadRows ∧ (∀ b ∈ s.bt.track, b.number < s.bt.nextNumber) ∧ l.head.present &&& ~~~l.head.ready ≠ 0) ∧
    (∃ (g : Segment) (s : State), s.pins.powerGood = true ∧ s.re.seg = some g ∧
      ((s.re.raster = .priming ∨ s.re.raster = .between) ∧ s.re.ending = .none ∧ (g.count = 0 ∨ g.created < g.count) ∧
        s.dc.line = .running ∧ s.re.printEnd ≤ s.bt.pos.paper.nm ∧ (g.created ∈ g.voids ∨ s.cfg.leadRows ≤ s.re.depth)) ∧
      4294967295 < s.bt.nextNumber) ∧
    (∃ (g : Segment) (s : State), s.pins.powerGood = true ∧ s.re.seg = some g ∧
      ((s.re.raster = .priming ∨ s.re.raster = .between) ∧ s.re.ending = .none ∧ (g.count = 0 ∨ g.created < g.count) ∧
        s.dc.line = .running ∧ s.re.printEnd ≤ s.bt.pos.paper.nm ∧ (g.created ∈ g.voids ∨ s.cfg.leadRows ≤ s.re.depth)) ∧
      96 ≤ s.bt.track.length) ∧
    (∃ (g : Segment) (s : State), s.pins.powerGood = true ∧ s.re.seg = some g ∧ s.re.depth = 7 ∧
      ¬(g.created ∈ g.voids ∨ s.cfg.leadRows ≤ s.re.depth)) :=
  ⟨⟨{ noLines with head := ⟨3, 7⟩ }, aSegment, { starting with bt.nextNumber := 4294967295 }, by decide⟩,
   fun void => ⟨{ noLines with head := ⟨3, 1⟩ }, { aSegment with voids := if void then [0] else [] },
    { starting with
      re.seg := some { aSegment with voids := if void then [0] else [] }, re.slots := if void then [] else List.replicate 8 aSlot,
      bt.track := List.replicate 95 (aBand 1 .awaiting), bt.nextNumber := 2 },
    rfl, rfl, .inl rfl, rfl, .inr (by cases void <;> decide), rfl, by cases void <;> decide, by cases void <;> decide,
    by cases void <;> decide, rfl, by cases void <;> decide, by cases void <;> decide, by cases void <;> decide,
    fun b hb => List.eq_of_mem_replicate hb ▸ (by decide : (aBand 1 .awaiting).number < 2), by decide⟩,
   ⟨aSegment, { starting with bt.nextNumber := 4294967296 }, by decide⟩,
   ⟨aSegment, { starting with bt.track := List.replicate 96 (aBand 1 .awaiting) }, rfl, rfl, by decide, by simp⟩,
   ⟨aSegment, { starting with re.slots := List.replicate 7 aSlot }, by decide⟩⟩

/-- The last word of a row of one pixel arrives behind a complete row. -/
theorem witness_RowArrived :
    ∃ (ws : List Word) (g : Segment) (x : RowSlot) (done rest : List RowSlot) (n : Nat) (s : State), s.pins.powerGood = true ∧
      s.smp.grant = some { client := .row, words := n, dropped := false } ∧ s.re.seg = some g ∧ s.re.slots = done ++ x :: rest ∧
      (∀ y ∈ done, y.complete = true) ∧ x.complete = false ∧ x.words.length < g.width ∧
      g.width ≤ x.words.length + min ws.length n ∧ s.dc.line ≠ .running :=
  ⟨[5], aSegment, { aSlot with row := 2, words := [], complete := false }, [aSlot], [], 1,
   { State.reset with
     smp.grant := aGrant .row 1, re.raster := .priming, re.seg := some aSegment,
     re.slots := [aSlot, { aSlot with row := 2, words := [], complete := false }] }, by decide⟩

/-! ## Witnesses: heat -/

/-- Reset with zone 0 enabled at 2000 in the zone state, effective setpoint, reading and duty given. -/
def heated (d : DrumState) (st : ZoneState) (eff : Nat) (r : Option Nat) (duty : Nat) : State :=
  { State.reset with
    hc.drum := d,
    hc.zones.z0 := { Zone.reset with target := 2000, enable := true, eff := eff, reading := r, state := st, duty := duty } }

/-- The top reading 2600, one past it, and the three zone states with the run at its ends. -/
theorem witness_HeatReadings :
    (∃ (ch : Oct Channel) (s : State), s.pins.powerGood = true ∧ (ch.get 0).fault = false ∧ (ch.get 0).value.toNat = 2600 ∧
      2600 < (ch.get 1).value.toNat ∧ (s.hc.zones.get 0).state = .regulate ∧ (s.hc.zones.get 1).state = .off) ∧
    (∃ s : State, s.pins.powerGood = true ∧ (s.hc.zones.get 0).state = .lost ∧ (s.hc.zones.get 0).validRun = 18) ∧
    (∃ s : State, s.pins.powerGood = true ∧ (s.hc.zones.get 0).state = .lost ∧ (s.hc.zones.get 0).validRun = 19) :=
  ⟨⟨{ Oct.fill ⟨0, false⟩ with z0 := ⟨2600, false⟩, z1 := ⟨2601, false⟩ }, heated .heating .regulate 2000 (some 2000) 0, by decide⟩,
   ⟨{ heated .heating .lost 2000 none 0 with
       hc.zones.z0 := { Zone.reset with target := 2000, enable := true, state := .lost, validRun := 18 } }, by decide⟩,
   ⟨{ heated .heating .lost 2000 none 0 with
       hc.zones.z0 := { Zone.reset with target := 2000, enable := true, state := .lost, validRun := 19 } }, by decide⟩⟩

/-- The state after a command, where the command answers one. -/
def after (c : Instr) (s : State) : State :=
  match exec c s with
  | .next t => t
  | .fault _ => s
  | .refused _ => s

/-- 150 above the effective setpoint does not trip; 151 does, and so does 2451 in an OFF zone (05 R100). -/
theorem witness_HeatTrip :
    (after (.heatSample (Oct.fill ⟨1150, false⟩)) (heated .atTemp .regulate 1000 (some 1000) 0)).hc.drum = .deviation ∧
    (after (.heatSample (Oct.fill ⟨1151, false⟩)) (heated .atTemp .regulate 1000 (some 1000) 0)).hc.drum = .tripped ∧
    (after (.heatSample (Oct.fill ⟨2451, false⟩)) State.reset).hc.drum = .tripped ∧
    (∃ s : State, s.stoppable) ∧ (∃ s : State, ¬s.stoppable) ∧ (∃ s : State, s.pins.powerGood = true ∧ s.hc.drum = .tripped) :=
  ⟨by decide, by decide, by decide, ⟨inLine .running, .inr (.inl rfl)⟩,
   ⟨State.reset, fun h => h.elim (fun h => by cases h) (fun h => h.elim (fun h => by cases h) (fun h => h.elim (fun h => by cases h)
     (fun h => by cases h.1)))⟩, ⟨heated .tripped .off 0 none 0, rfl, rfl⟩⟩

/-- A sample that regulates: the zone stays in REGULATE, its error is 10 and the drum does not trip. -/
theorem witness_HeatRegulation :
    let t := after (.heatSample (Oct.fill ⟨1990, false⟩)) (heated .heating .regulate 2000 (some 1980) 0)
    t.hc.drum ≠ .tripped ∧ t.hc.zones.z0.state = .regulate ∧ t.hc.zones.z0.reading = some 1990 := by decide

/-- At the limits: 30 and 31 off in HEATING, 80 and 81 off in AT_TEMP, and a band ON_DRUM with the nip CLOSED, the drum AT_TEMP and TRIPPED. -/
theorem witness_DoseAndSettling :
    (after (.heatSample (Oct.fill ⟨2030, false⟩)) { heated .heating .regulate 2000 (some 2000) 0 with hc.settle := 199 }).hc.drum
      = .atTemp ∧
    (after (.heatSample (Oct.fill ⟨2031, false⟩)) { heated .heating .regulate 2000 (some 2000) 0 with hc.settle := 199 }).hc.settle
      = 0 ∧
    (after (.heatSample (Oct.fill ⟨1920, false⟩)) (heated .atTemp .regulate 2000 (some 2000) 0)).hc.drum = .atTemp ∧
    (after (.heatSample (Oct.fill ⟨1919, false⟩)) (heated .atTemp .regulate 2000 (some 2000) 0)).hc.drum = .deviation ∧
    ((after (.heatSample (Oct.fill ⟨2000, false⟩))
        { heated .atTemp .regulate 2000 (some 2000) 0 with
          dc.nip := .closed, bt.track := [aBand 1 .onDrum] }).bt.track.map (fun b => (b.samples, b.doses.z0)))
      = [(1, 5 * 600)] ∧
    ((after (.heatSample (Oct.fill ⟨2000, false⟩))
        { heated .tripped .regulate 2000 (some 2000) 0 with
          dc.nip := .closed, bt.track := [aBand 1 .onDrum] }).bt.track.map (fun b => (b.samples, b.doses.z0)))
      = [(1, 5 * 600)] ∧
    (after (.heatSample (Oct.fill ⟨2000, false⟩)) State.reset).hc.drum = .cold := by decide

theorem witness_RampStep :
    (∃ s : State, s.pins.powerGood = true ∧ s.hc.drum = .tripped) ∧
    (∃ s : State, s.pins.powerGood = true ∧ s.hc.drum ≠ .tripped ∧ (s.hc.zones.get 0).state = .regulate ∧
      (s.hc.zones.get 0).eff < (s.hc.zones.get 0).target ∧ (s.hc.zones.get 1).state ≠ .regulate) ∧
    (∃ s : State, s.pins.powerGood = true ∧ s.hc.drum ≠ .tripped ∧ (s.hc.zones.get 0).state = .regulate ∧
      (s.hc.zones.get 0).target < (s.hc.zones.get 0).eff) ∧
    (∃ s : State, s.pins.powerGood = true ∧ s.hc.drum ≠ .tripped ∧ (s.hc.zones.get 0).state = .regulate ∧
      (s.hc.zones.get 0).eff = (s.hc.zones.get 0).target) :=
  ⟨⟨heated .tripped .off 0 none 0, by decide⟩, ⟨heated .heating .regulate 1999 none 0, by decide⟩,
   ⟨heated .heating .regulate 2001 none 0, by decide⟩, ⟨heated .heating .regulate 2000 none 0, by decide⟩⟩

theorem witness_DrumAndZones :
    (∃ (r : Nat) (s : State), s.pins.powerGood = true ∧ (s.hc.zones.get 0).state = .lost ∧ (s.hc.zones.get 0).reading = some r ∧
      (s.hc.zones.get 0).validRun = 20) ∧
    (∃ s : State, s.pins.powerGood = true ∧ (s.hc.zones.get 0).state = .lost ∧ (s.hc.zones.get 0).validRun = 19) ∧
    (∃ s : State, s.pins.powerGood = true ∧ s.hc.drum = .deviation ∧ s.hc.settle = 200) ∧
    (∃ s : State, s.pins.powerGood = true ∧ s.hc.drum = .heating ∧ s.hc.settle = 199) :=
  ⟨⟨2600, { State.reset with hc.zones.z0 := { Zone.reset with state := .lost, reading := some 2600, validRun := 20 } }, by decide⟩,
   ⟨{ State.reset with hc.zones.z0 := { Zone.reset with state := .lost, reading := some 2600, validRun := 19 } }, by decide⟩,
   ⟨{ State.reset with hc.drum := .deviation, hc.settle := 200 }, by decide⟩,
   ⟨{ State.reset with hc.drum := .heating, hc.settle := 199 }, by decide⟩⟩

/-! ## Witnesses: drive, tension and nip -/

theorem witness_TensionReference :
    (∃ s : State, s.pins.powerGood = true ∧ s.dc.line = .powerHeld) ∧
    (∃ s : State, s.pins.powerGood = true ∧ s.dc.line = .starting ∧ s.dc.ref = s.dc.setpoint * 1000) ∧
    (∃ s : State, s.pins.powerGood = true ∧ s.dc.line = .running ∧ s.dc.ref = s.dc.setpoint * 1000 + 1) ∧
    (∃ s : State, s.pins.powerGood = true ∧ s.dc.line = .stopping ∧ s.dc.stopKind = .normal ∧ s.dc.nip ≠ .opened) ∧
    (∃ s : State, s.pins.powerGood = true ∧ s.dc.line = .stopping ∧ s.dc.stopKind = .normal ∧ s.dc.nip = .opened ∧ s.dc.ref = 1) ∧
    (∃ s : State, s.pins.powerGood = true ∧ s.dc.line = .stopping ∧ s.dc.stopKind = .fast) ∧
    (∃ s : State, s.pins.powerGood = true ∧ s.dc.line = .powerStop) :=
  ⟨⟨inLine .powerHeld, by decide⟩, ⟨{ inLine .starting with dc.ref := 200000 }, by decide⟩,
   ⟨{ inLine .running with dc.ref := 200001 }, by decide⟩, ⟨{ inLine .stopping with dc.nip := .opening }, by decide⟩,
   ⟨{ inLine .stopping with dc.ref := 1 }, by decide⟩, ⟨{ inLine .stopping with dc.stopKind := .fast }, by decide⟩,
   ⟨inLine .powerStop, by decide⟩⟩

/-- Counts 1 and FFFEh are in range; a run of 78 samples is one short of the 400 ms fault time. -/
theorem witness_TensionLoops :
    ∃ (cells : Webs LoadCell) (s : State), s.pins.powerGood = true ∧ (s.dc.line = .running ∨ s.dc.line = .draining) ∧
      (∀ c ∈ cells.toList, c.fault = false ∧ c.count ≠ 0 ∧ c.count ≠ 0xFFFF) ∧
      (∀ w ∈ s.dc.webs.toList, (w.run + 1) * 5 < s.dc.faultTime) ∧ s.dc.webs.paper.run = 78 :=
  ⟨⟨⟨1, false⟩, ⟨0xFFFE, false⟩, ⟨300, false⟩⟩, { inLine .draining with dc.webs.paper.run := 78 }, by decide⟩

/-- A cell out of range in each kind of line state; a reference one above what the sample takes off. -/
theorem witness_SensorFault :
    (∃ (cells : Webs LoadCell) (s : State), s.pins.powerGood = true ∧ (webOf cells .fabric).count = 0xFFFF ∧
      s.dc.line = .running ∧ s.rasterIdle) ∧
    (∃ (cells : Webs LoadCell) (s : State), s.pins.powerGood = true ∧ (webOf cells .fabric).count = 0xFFFF ∧
      s.dc.line = .stopping ∧ s.dc.stopKind = .normal ∧ s.dc.ref ≠ 0 ∧ s.dc.accel * 5 + 1 = s.dc.ref ∧ s.rasterIdle) ∧
    (∃ (cells : Webs LoadCell) (s : State), s.pins.powerGood = true ∧ (webOf cells .paper).count = 0 ∧ s.dc.line = .stopped) ∧
    (∃ (cells : Webs LoadCell) (s : State), s.pins.powerGood = true ∧ (webOf cells .tissue).fault = true ∧ s.dc.line = .powerStop ∧
      s.cfg.stopDecel * 5 + 1 = s.dc.ref) :=
  ⟨⟨⟨⟨1, false⟩, ⟨0xFFFF, false⟩, ⟨300, false⟩⟩, inLine .running, rfl, by decide, rfl, ⟨rfl, rfl, rfl, rfl⟩⟩,
   ⟨⟨⟨1, false⟩, ⟨0xFFFF, false⟩, ⟨300, false⟩⟩, { inLine .stopping with dc.ref := 501 }, by unfold State.rasterIdle; decide⟩,
   ⟨⟨⟨0, false⟩, ⟨1, false⟩, ⟨300, false⟩⟩, State.reset, by decide⟩,
   ⟨⟨⟨1, false⟩, ⟨1, false⟩, ⟨300, true⟩⟩, { inLine .powerStop with dc.ref := 2501 }, by decide⟩⟩

/-- 80 samples of 5 ms are the 400 ms fault time, 79 are not; 50,000 µm/s and 100 ms silence are the encoder limits. -/
theorem witness_FastStopCauses :
    (∃ (g : Segment) (e : Tally) (s : State), s.pins.powerGood = true ∧ s.dc.line = .running ∧
      s.dc.faultTime = (webOf s.dc.webs .paper).run * 5 ∧ SegmentHeld g e s) ∧
    (∃ s : State, s.pins.powerGood = true ∧ s.rasterIdle ∧ s.dc.line = .running ∧ s.dc.faultTime = (webOf s.dc.webs .paper).run * 5) ∧
    (∃ s : State, s.pins.powerGood = true ∧ s.rasterIdle ∧ s.dc.line = .running ∧ (webOf s.dc.webs .paper).run * 5 + 5 = s.dc.faultTime) ∧
    (∃ s : State, s.pins.powerGood = true ∧ s.rasterIdle ∧ s.dc.ref = 50000 ∧ s.cfg.encoderTimeout = encOf s.dc.silence .drum ∧
      s.stoppable) ∧
    (∃ s : State, s.pins.powerGood = true ∧ s.rasterIdle ∧ s.dc.ref = 49999 ∧ s.cfg.encoderTimeout = encOf s.dc.silence .drum ∧
      s.stoppable) ∧
    (∃ s : State, s.pins.powerGood = true ∧ s.rasterIdle ∧ s.dc.nipTimer = some 0 ∧ s.dc.nip = .closing ∧ s.stoppable) ∧
    (∃ s : State, s.pins.powerGood = true ∧ s.rasterIdle ∧ s.dc.nipTimer = some 0 ∧ s.dc.nip = .opening ∧ s.dc.line = .tripped) ∧
    (∃ s : State, s.pins.powerGood = true ∧ s.rasterIdle ∧ s.dc.nipTimer = some 1) :=
  ⟨⟨_, _, { held .printing .running with dc.webs.paper.run := 80 }, rfl, rfl, rfl, ⟨rfl, rfl, by decide, rfl, rfl, rfl⟩⟩,
   ⟨{ inLine .running with dc.webs.paper.run := 80 }, rfl, And.intro rfl ⟨rfl, rfl, rfl⟩, by decide⟩,
   ⟨{ inLine .running with dc.webs.paper.run := 79 }, rfl, And.intro rfl ⟨rfl, rfl, rfl⟩, by decide⟩,
   ⟨{ inLine .running with dc.ref := 50000, dc.silence.drum := 100 }, rfl, And.intro rfl ⟨rfl, rfl, rfl⟩, rfl, rfl, .inr (.inl rfl)⟩,
   ⟨{ inLine .running with dc.ref := 49999, dc.silence.drum := 100 }, rfl, And.intro rfl ⟨rfl, rfl, rfl⟩, rfl, rfl, .inr (.inl rfl)⟩,
   ⟨{ inLine .starting with dc.nip := .closing, dc.nipTimer := some 0 }, rfl, And.intro rfl ⟨rfl, rfl, rfl⟩, rfl, rfl, .inl rfl⟩,
   ⟨{ inLine .tripped with dc.nip := .opening, dc.nipTimer := some 0 }, rfl, And.intro rfl ⟨rfl, rfl, rfl⟩, rfl, rfl, rfl⟩,
   ⟨{ inLine .tripped with dc.nip := .opening, dc.nipTimer := some 1 }, rfl, And.intro rfl ⟨rfl, rfl, rfl⟩, rfl⟩⟩

theorem witness_LineRunningAndSpeedZero :
    let rest : State → Prop := fun s => s.commandable ∧ s.rasterIdle ∧ s.tr.ticket = none
    (∃ s, rest s ∧ s.dc.line = .starting ∧ s.dc.nip = .closed ∧ s.dc.ref = s.dc.setpoint * 1000) ∧
    (∃ s, rest s ∧ s.dc.line = .starting ∧ s.dc.ref + 1 = s.dc.setpoint * 1000) ∧
    (∃ s, rest s ∧ s.dc.ref = 0 ∧ s.dc.line = .stopping ∧ s.dc.stopKind = .normal ∧ s.dc.nip = .opened) ∧
    (∃ s, rest s ∧ s.dc.ref = 0 ∧ s.dc.line = .stopping ∧ s.dc.stopKind = .fast) ∧
    (∃ s, rest s ∧ s.dc.ref = 0 ∧ s.dc.line = .powerStop ∧ s.pins.mainsOk = true) ∧
    (∃ s, rest s ∧ s.dc.ref = 0 ∧ s.dc.line = .powerStop ∧ s.pins.mainsOk = false) ∧
    (∃ s, rest s ∧ s.dc.ref = 1) ∧ (∃ s, rest s ∧ s.dc.ref = 0 ∧ s.dc.line = .starting) ∧
    (∃ s, rest s ∧ s.dc.ref = 0 ∧ s.dc.line = .stopping ∧ s.dc.stopKind = .normal ∧ s.dc.nip ≠ .opened) :=
  ⟨⟨{ inLine .starting with dc.nip := .closed, dc.ref := 200000 }, ⟨And.intro rfl rfl, And.intro rfl ⟨rfl, rfl, rfl⟩, rfl⟩, by decide⟩,
   ⟨{ inLine .starting with dc.nip := .closed, dc.ref := 199999 }, ⟨And.intro rfl rfl, And.intro rfl ⟨rfl, rfl, rfl⟩, rfl⟩, by decide⟩,
   ⟨inLine .stopping, ⟨And.intro rfl rfl, And.intro rfl ⟨rfl, rfl, rfl⟩, rfl⟩, by decide⟩,
   ⟨{ inLine .stopping with dc.stopKind := .fast }, ⟨And.intro rfl rfl, And.intro rfl ⟨rfl, rfl, rfl⟩, rfl⟩, by decide⟩,
   ⟨inLine .powerStop, ⟨And.intro rfl rfl, And.intro rfl ⟨rfl, rfl, rfl⟩, rfl⟩, by decide⟩,
   ⟨{ inLine .powerStop with pins.mainsOk := false }, ⟨And.intro rfl rfl, And.intro rfl ⟨rfl, rfl, rfl⟩, rfl⟩, by decide⟩,
   ⟨{ State.reset with dc.ref := 1 }, ⟨And.intro rfl rfl, And.intro rfl ⟨rfl, rfl, rfl⟩, rfl⟩, rfl⟩,
   ⟨inLine .starting, ⟨And.intro rfl rfl, And.intro rfl ⟨rfl, rfl, rfl⟩, rfl⟩, by decide⟩,
   ⟨{ inLine .stopping with dc.nip := .opening }, ⟨And.intro rfl rfl, And.intro rfl ⟨rfl, rfl, rfl⟩, rfl⟩, by decide⟩⟩

theorem witness_StretchUpdate :
    (∃ s : State, s.pins.powerGood = true ∧ s.bt.pos.infeed.nm = s.dc.storedIn) ∧
    (∃ s : State, s.pins.powerGood = true ∧ s.bt.pos.infeed.nm = s.dc.storedIn + 1) :=
  ⟨⟨State.reset, by decide⟩, ⟨{ State.reset with bt.pos.infeed := ⟨1, 0⟩ }, by decide⟩⟩

theorem witness_NipSwitches :
    (∀ n : NipState, ∃ s : State, s.pins.powerGood = true ∧ s.dc.nip = n) ∧
    (∃ s : State, s.pins.powerGood = true ∧ s.dc.nip = .closing ∧ s.dc.line ≠ .starting) ∧
    (∃ s : State, s.pins.powerGood = true ∧ s.dc.nip = .closing ∧ s.dc.line = .starting ∧ s.dc.ref = s.dc.setpoint * 1000 ∧
      s.rasterIdle) ∧
    (∃ s : State, s.pins.powerGood = true ∧ ¬s.stoppable ∧ s.dc.nip = .closed) ∧
    (∃ s : State, s.pins.powerGood = true ∧ s.stoppable ∧ s.rasterIdle ∧ s.dc.nip = .closed) :=
  ⟨fun n => ⟨{ State.reset with dc.nip := n }, rfl, rfl⟩, ⟨{ State.reset with dc.nip := .closing }, by decide⟩,
   ⟨{ inLine .starting with dc.nip := .closing, dc.ref := 200000 }, rfl, rfl, rfl, rfl, ⟨rfl, rfl, rfl, rfl⟩⟩,
   ⟨{ State.reset with dc.nip := .closed }, rfl, by unfold State.stoppable; decide, rfl⟩,
   ⟨{ inLine .running with dc.nip := .closed }, rfl, .inr (.inl rfl), ⟨rfl, rfl, rfl, rfl⟩, rfl⟩⟩

/-! ## Witnesses: instrument -/

/-- 5 ms between two bytes is in time, 6 ms is not; each receiver position; sum bytes 250 and 249 make the STATUS sums 0, 239 that of a
REPLY with status 2. -/
theorem witness_LinkFrames :
    (∃ s : State, s.pins.powerGood = true ∧ s.cv.rx ≠ .hunting ∧ s.cv.rxGap = 6) ∧
    (∃ s : State, s.pins.powerGood = true ∧ s.onTime ∧ s.cv.rx = .type ∧ s.cv.rxGap = 5) ∧
    (∃ s : State, s.pins.powerGood = true ∧ s.onTime ∧ s.cv.rx = .length 2) ∧
    (∃ s : State, s.pins.powerGood = true ∧ s.onTime ∧ s.cv.rx = .length 3) ∧
    (∃ s : State, s.pins.powerGood = true ∧ s.onTime ∧ ∃ ty n got, s.cv.rx = .body ty n got ∧ got.length + 1 = n) ∧
    (∃ s : State, ∃ b : Byte, s.pins.powerGood = true ∧ s.onTime ∧ ∃ ty n got, s.cv.rx = .body ty n got ∧ n ≤ got.length ∧
      ty + BitVec.ofNat 8 n + got.foldl (· + ·) 0 + b ≠ 0) ∧
    (∃ s : State, ∃ v b : Byte, s.pins.powerGood = true ∧ s.onTime ∧ s.cv.rx = .body 3 1 [v] ∧ 3 + 1 + v + b = 0 ∧ v = 2) ∧
    (∃ s : State, ∃ v b : Byte, s.pins.powerGood = true ∧ s.onTime ∧ s.cv.rx = .body 3 1 [v] ∧ 3 + 1 + v + b = 0 ∧ v = 3) ∧
    (∃ (s : State) (p : List Byte) (b : Byte), s.pins.powerGood = true ∧ s.onTime ∧ s.cv.rx = .body 2 8 p ∧ p.length = 8 ∧
      2 + 8 + p.foldl (· + ·) 0 + b = 0 ∧ p.getD 1 0 ≠ 0 ∧ p.getD 1 0 ≠ 1) :=
  let q : Receiver → State := fun r => { State.reset with cv.rx := r, cv.rxGap := 5 }
  ⟨⟨{ q .type with cv.rxGap := 6 }, by decide⟩, ⟨q .type, rfl, .inr (by decide), rfl, rfl⟩,
   ⟨q (.length 2), rfl, .inr (by decide), rfl⟩, ⟨q (.length 3), rfl, .inr (by decide), rfl⟩,
   ⟨q (.body 2 8 (List.replicate 7 0)), rfl, .inr (by decide), 2, 8, List.replicate 7 0, rfl, rfl⟩,
   ⟨q (.body 3 1 [0]), 0, rfl, .inr (by decide), 3, 1, [0], rfl, by decide, by decide⟩,
   ⟨q (.body 3 1 [2]), 2, 250, rfl, .inr (by decide), rfl, by decide, rfl⟩,
   ⟨q (.body 3 1 [3]), 3, 249, rfl, .inr (by decide), rfl, by decide, rfl⟩,
   ⟨q (.body 2 8 [5, 2, 0, 0, 0, 0, 0, 0]), [5, 2, 0, 0, 0, 0, 0, 0], 239, rfl, .inr (by decide), rfl, by decide⟩⟩

/-- A reply for the AWAITING band 1 under sequence number 5, INVALID and OK, and a late one; the reply that makes the third fail, one past
the tolerance of 50, and with drift set the one that makes the 16th pass, at it. -/
theorem witness_ReplyFrame :
    (∃ (p : List Byte) (b : Byte) (s : State), s.pins.powerGood = true ∧ s.onTime ∧ s.cv.rx = .body 2 8 p ∧ p.length = 8 ∧
      2 + 8 + p.foldl (· + ·) 0 + b = 0 ∧ p.getD 1 0 = 0 ∧ ∀ e ∈ s.cv.list, e.seq ≠ (p.getD 0 0).toNat) ∧
    (∃ (p : List Byte) (b : Byte) (s : State) (e : Trigger) (r : Band), s.pins.powerGood = true ∧ s.onTime ∧
      s.cv.rx = .body 2 8 p ∧ p.length = 8 ∧ 2 + 8 + p.foldl (· + ·) 0 + b = 0 ∧
      s.cv.list.find? (fun y => y.seq = (p.getD 0 0).toNat) = some e ∧ s.noneStarts [r.number] ∧ r ∈ s.bt.track ∧
      (∀ y ∈ s.bt.track, y.number = e.band ↔ y = r) ∧ r.state = .awaiting ∧ p.getD 1 0 = 1) ∧
    (∃ (p : List Byte) (b : Byte) (s : State) (e : Trigger) (r : Band), s.pins.powerGood = true ∧ s.onTime ∧
      s.cv.rx = .body 2 8 p ∧ p.length = 8 ∧ 2 + 8 + p.foldl (· + ·) 0 + b = 0 ∧
      s.cv.list.find? (fun y => y.seq = (p.getD 0 0).toNat) = some e ∧ s.noneStarts [r.number] ∧ r ∈ s.bt.track ∧
      (∀ y ∈ s.bt.track, y.number = e.band ↔ y = r) ∧ r.state = .awaiting ∧ p.getD 1 0 = 0 ∧ s.cv.drift = false ∧
      s.cv.failRun = 2 ∧ r.colourTol < (0 - r.lt).natAbs ∧ r.flags.getLsbD 11 = false) ∧
    (∃ (p : List Byte) (b : Byte) (s : State) (e : Trigger) (r : Band), s.pins.powerGood = true ∧ s.onTime ∧
      s.cv.rx = .body 2 8 p ∧ p.length = 8 ∧ 2 + 8 + p.foldl (· + ·) 0 + b = 0 ∧
      s.cv.list.find? (fun y => y.seq = (p.getD 0 0).toNat) = some e ∧ s.noneStarts [r.number] ∧ r ∈ s.bt.track ∧
      (∀ y ∈ s.bt.track, y.number = e.band ↔ y = r) ∧ r.state = .awaiting ∧ p.getD 1 0 = 0 ∧ s.cv.drift = true ∧
      s.cv.passRun = 15 ∧ (0 - r.lt).natAbs = r.colourTol ∧ r.flags.getLsbD 11 = false) ∧
    (∀ status ∈ [(0 : Byte), 1], ∀ written ∈ [0, 1],
      ∃ (p : List Byte) (b : Byte) (s : State) (e : Trigger) (r : Band) (tl : List Band) (y : Tally), s.pins.powerGood = true ∧
        s.onTime ∧ s.cv.rx = .body 2 8 p ∧ p.length = 8 ∧ 2 + 8 + p.foldl (· + ·) 0 + b = 0 ∧
        s.cv.list.find? (fun y => y.seq = (p.getD 0 0).toNat) = some e ∧ s.bt.track = r :: tl ∧
        (∀ y ∈ s.bt.track, y.number = e.band ↔ y = r) ∧ r.state = .awaiting ∧ p.getD 1 0 = status ∧ r.trailing = true ∧
        s.bt.retiring = none ∧ s.smp.soft = .off ∧ r.flags.getLsbD 11 = false ∧ y ∈ s.bt.tallies ∧
        (∀ z ∈ s.bt.tallies, z.id = r.tally ↔ z = y) ∧ y.capacity = 1 ∧ y.written = written) :=
  let q : Byte → State := fun v =>
    { State.reset with
      cv.rx := .body 2 8 [5, v, 0, 0, 0, 0, 0, 0], cv.list := [⟨5, 1, 300⟩], bt.track := [aBand 1 .awaiting] }
  let off : Int → Band := fun n => { aBand 1 .awaiting with lt := n }
  ⟨⟨[6, 0, 0, 0, 0, 0, 0, 0], 240, { State.reset with cv.rx := .body 2 8 [6, 0, 0, 0, 0, 0, 0, 0] }, rfl, .inr (by decide), rfl, by decide⟩,
   ⟨[5, 1, 0, 0, 0, 0, 0, 0], 240, q 1, ⟨5, 1, 300⟩, aBand 1 .awaiting, rfl, .inr (by decide), rfl, rfl, by decide, by decide,
    by unfold State.noneStarts; decide, by decide⟩,
   ⟨[5, 0, 0, 0, 0, 0, 0, 0], 241, { q 0 with cv.failRun := 2, bt.track := [off 51] }, ⟨5, 1, 300⟩, off 51, rfl, .inr (by decide), rfl, rfl,
    by decide, by decide, by unfold State.noneStarts; decide, by decide⟩,
   ⟨[5, 0, 0, 0, 0, 0, 0, 0], 241, { q 0 with cv.drift := true, cv.passRun := 15, bt.track := [off 50] }, ⟨5, 1, 300⟩, off 50, rfl,
    .inr (by decide), rfl, rfl, by decide, by decide, by unfold State.noneStarts; decide, by decide⟩,
   fun v hv n hn => by
    simp only [List.mem_cons, List.not_mem_nil, or_false] at hv hn
    refine ⟨[5, v, 0, 0, 0, 0, 0, 0], 241 - v,
      { q v with
        bt.track := [{ aBand 1 .awaiting with trailing := true }, aBand 2 .awaiting],
        bt.tallies := [{ aTally 0 with inTrack := 1, written := n }] },
      ⟨5, 1, 300⟩, { aBand 1 .awaiting with trailing := true }, [aBand 2 .awaiting], { aTally 0 with inTrack := 1, written := n }, rfl, .inr (Nat.zero_le _),
      rfl, rfl, ?_⟩
    rcases hv with rfl | rfl <;> rcases hn with rfl | rfl <;> decide⟩

/-- 5,000 ms of silence, one less; two deadlines just reached and one a millisecond away, with nothing that retires and with a head band
that has its trailing-passed marker, its area with room and without; no deadline reached; queues of 2 and 1 frames. -/
theorem witness_InstrumentTimers :
    (∃ s : State, s.pins.powerGood = true ∧ s.cv.silenceOn = true ∧ s.cv.silence = 5000) ∧
    (∃ s : State, s.pins.powerGood = true ∧ s.cv.silenceOn = true ∧ s.cv.silence = 4999) ∧
    (∃ (s : State) (gone rest : List Trigger), s.pins.powerGood = true ∧ s.cv.list = gone ++ rest ∧ gone.length = 2 ∧
      (∀ e ∈ gone, e.deadline ≤ s.now) ∧ (∀ e ∈ rest.head?, s.now < e.deadline) ∧ rest ≠ [] ∧
      s.noneStarts (gone.map Trigger.band)) ∧
    (∀ written ∈ [0, 1], ∃ (s : State) (pre post rest : List Trigger) (e : Trigger) (b : Band) (tl : List Band) (y : Tally),
      s.pins.powerGood = true ∧ s.cv.list = (pre ++ e :: post) ++ rest ∧ (∀ x ∈ pre ++ e :: post, x.deadline ≤ s.now) ∧
      (∀ x ∈ rest.head?, s.now < x.deadline) ∧ post ≠ [] ∧ (∀ x ∈ pre ++ post, x.band ≠ b.number) ∧ e.band = b.number ∧
      s.bt.track = b :: tl ∧ b.state = .awaiting ∧ b.trailing = true ∧ s.bt.retiring = none ∧ s.smp.soft = .off ∧ y ∈ s.bt.tallies ∧
      (∀ z ∈ s.bt.tallies, z.id = b.tally ↔ z = y) ∧ y.capacity = 1 ∧ y.written = written) ∧
    (∃ s : State, s.pins.powerGood = true ∧ s.cv.list ≠ [] ∧ ∀ e ∈ s.cv.list, s.now < e.deadline) ∧
    (∃ (s : State) (n m : Nat) (rest : List Nat), s.pins.powerGood = true ∧ s.cv.txq = n :: m :: rest) ∧
    (∃ s : State, s.pins.powerGood = true ∧ s.cv.txq.length = 1) :=
  let q : State := { State.reset with now := 300, cv.list := [⟨1, 1, 300⟩, ⟨2, 2, 300⟩, ⟨3, 3, 301⟩] }
  ⟨⟨{ State.reset with cv.silence := 5000 }, by decide⟩, ⟨{ State.reset with cv.silence := 4999 }, by decide⟩,
   ⟨{ q with bt.track := [aBand 1 .awaiting, aBand 2 .awaiting] }, [⟨1, 1, 300⟩, ⟨2, 2, 300⟩], [⟨3, 3, 301⟩], rfl, rfl, rfl, by decide,
    by decide, by decide, by unfold State.noneStarts; decide⟩,
   fun n hn => by
    simp only [List.mem_cons, List.not_mem_nil, or_false] at hn
    refine ⟨{ q with
        bt.track := [{ aBand 1 .awaiting with trailing := true }, aBand 2 .awaiting],
        bt.tallies := [{ aTally 0 with inTrack := 2, written := n }] },
      [], [⟨2, 2, 300⟩], [⟨3, 3, 301⟩], ⟨1, 1, 300⟩, { aBand 1 .awaiting with trailing := true }, [aBand 2 .awaiting],
      { aTally 0 with inTrack := 2, written := n }, rfl, rfl, ?_⟩
    rcases hn with rfl | rfl <;> decide,
   ⟨{ State.reset with now := 299, cv.list := [⟨1, 1, 300⟩] }, by decide⟩, ⟨{ State.reset with cv.txq := [3, 4] }, 3, 4, [], by decide⟩,
   ⟨{ State.reset with cv.txq := [3] }, by decide⟩⟩

/-! ## Witnesses: chain and port -/

/-- The poll timer just at its period of 10 ms, and one less; an AUTO_START segment that waits, the drum AT_TEMP and HEATING. -/
theorem witness_ChainPoll :
    let due : State → Prop := fun s =>
      s.commandable ∧ s.tr.pollRunning = true ∧ s.tr.pollInForce = s.tr.pollElapsed ∧ s.tr.ticket = none ∧ s.tr.awaitSeg = none ∧
        (∀ x ∈ s.smp.writes, x.awaited = false) ∧ s.ticketReads = []
    (∃ s, due s ∧ s.tr.reader = .waiting) ∧ (∃ s, due s ∧ s.tr.reader = .holding ∧ s.re.autoRetry = false) ∧
    (∀ d : DrumState, ∃ (l : Lines) (s : State) (g : Segment), due s ∧ s.tr.reader = .holding ∧ s.re.autoRetry = true ∧
      s.re.raster = .priming ∧ s.re.seg = some g ∧ g.autoStart = true ∧ s.dc.line = .stopped ∧ s.hc.drum = d ∧ s.dc.nip = .opened ∧
      (∀ w ∈ s.dc.webs.toList, w.inRange = true) ∧ l.broken = ⟨false, false, false⟩) ∧
    (∃ s, due s ∧ s.tr.reader ≠ .waiting ∧ s.tr.reader ≠ .holding) ∧
    (∃ s : State, s.commandable ∧ s.tr.pollRunning = false) ∧
    (∃ s : State, s.commandable ∧ s.tr.pollRunning = true ∧ s.tr.pollElapsed + 1 = s.tr.pollInForce) :=
  let q : ReaderState → Nat → State := fun r n =>
    { State.reset with tr.reader := r, tr.pollRunning := true, tr.pollElapsed := n }
  ⟨⟨q .waiting 10, ⟨And.intro rfl rfl, by decide⟩, rfl⟩, ⟨q .holding 10, ⟨And.intro rfl rfl, by decide⟩, rfl, rfl⟩,
   fun d => ⟨noLines,
     { q .holding 10 with
       re.autoRetry := true, re.raster := .priming, re.seg := some { aSegment with autoStart := true }, hc.drum := d,
       dc.webs := State.reset.dc.webs.map (fun w => { w with inRange := true }) },
     { aSegment with autoStart := true }, ⟨And.intro rfl rfl, by cases d <;> decide⟩, by cases d <;> decide⟩,
   ⟨q .stalled 10, ⟨And.intro rfl rfl, by decide⟩, by decide⟩, ⟨State.reset, And.intro rfl rfl, rfl⟩,
   ⟨q .waiting 9, And.intro rfl rfl, by decide⟩⟩

/-- A header read of four words and a link read of one. -/
def headRead : Transfer := readOf .headerRead 256 4

def linkRead : Transfer := readOf .linkRead 256 1

/-- READING: a halt pending, a state other than NEW, links 0Fh and 10h, a pause, kind 10, a short body, a body of just the length.
HOLDING: the same two links, a REPORT, a state other than NEW, an END_SEGMENT under a pause, the same with a halt pending, without a body and with
one. -/
theorem witness_ChainWalk :
    let ends : Transfer → List Word → State → Prop := fun x ws s =>
      ∃ more g, ReadEnds x more g ws s ∧ (∀ y ∈ more, y.isTicketRead = false) ∧ x.left ≤ g.words ∧
        (∀ y ∈ s.smp.writes, y.isRepeatedTaken s.tr.pos = false ∧ y.awaited = false) ∧ x.words = [] ∧ s.tr.awaitSeg = none
    (∃ ws s, ends headRead ws s ∧ s.tr.reader = .reading ∧ s.tr.haltReq = true) ∧
    (∃ ws s, ends headRead ws s ∧ s.tr.reader = .reading ∧ s.tr.haltReq = false ∧ (headerOf ws).state ≠ 0) ∧
    (∃ ws s, ends linkRead ws s ∧ s.tr.reader = .reading ∧ s.tr.haltReq = false ∧ natAt ws 0 = 15) ∧
    (∃ ws s, ends linkRead ws s ∧ s.tr.reader = .reading ∧ s.tr.haltReq = false ∧ natAt ws 0 = 16) ∧
    (∃ ws s, ends headRead ws s ∧ s.tr.reader = .reading ∧ s.tr.haltReq = false ∧ (headerOf ws).state = 0 ∧ s.tr.pauseReq = true) ∧
    (∃ ws s, ends headRead ws s ∧ s.tr.reader = .reading ∧ s.tr.haltReq = false ∧ (headerOf ws).state = 0 ∧ s.tr.pauseReq = false ∧
      (headerOf ws).kindCode = 10) ∧
    (∃ ws s, ends headRead ws s ∧ s.tr.reader = .reading ∧ s.tr.haltReq = false ∧ (headerOf ws).state = 0 ∧ s.tr.pauseReq = false ∧
      kindOfCode (headerOf ws).kindCode = some .report ∧ (headerOf ws).bodyLen < bodyLength .report) ∧
    (∃ ws s, ends headRead ws s ∧ s.tr.reader = .reading ∧ s.tr.haltReq = false ∧ (headerOf ws).state = 0 ∧ s.tr.pauseReq = false ∧
      kindOfCode (headerOf ws).kindCode = some .report ∧ (headerOf ws).bodyLen = bodyLength .report) ∧
    (∃ ws s, ends linkRead ws s ∧ s.tr.reader = .holding ∧ natAt ws 0 = 15) ∧
    (∃ ws s, ends linkRead ws s ∧ s.tr.reader = .holding ∧ natAt ws 0 = 16) ∧
    (∃ ws s, ends headRead ws s ∧ s.tr.reader = .holding ∧ (headerOf ws).state ≠ 0) ∧
    (∃ ws s, ends headRead ws s ∧ s.tr.reader = .holding ∧ (headerOf ws).state = 0 ∧ (headerOf ws).kindCode = 9) ∧
    (∃ ws s, ends headRead ws s ∧ s.tr.reader = .holding ∧ (headerOf ws).state = 0 ∧ (headerOf ws).kindCode = 7 ∧ s.tr.pauseReq = true ∧
      s.tr.haltReq = false) ∧
    (∃ ws s, ends headRead ws s ∧ s.tr.reader = .holding ∧ (headerOf ws).state = 0 ∧ (headerOf ws).kindCode = 7 ∧ s.tr.pauseReq = true ∧
      s.tr.haltReq = true) ∧
    (∀ n ∈ [0, 1], ∃ ws s, ends headRead ws s ∧ s.tr.reader = .holding ∧ (headerOf ws).state = 0 ∧ (headerOf ws).kindCode = 7 ∧
      s.tr.pauseReq = false ∧ (headerOf ws).bodyLen = n) := by
  have head : ∀ (ws : List Word) (s : State), ReadEnds headRead [] ⟨.read, 4, false⟩ ws s → s.smp.writes = [] → s.tr.awaitSeg = none →
      ∃ more g, ReadEnds headRead more g ws s ∧ (∀ y ∈ more, y.isTicketRead = false) ∧ headRead.left ≤ g.words ∧
        (∀ y ∈ s.smp.writes, y.isRepeatedTaken s.tr.pos = false ∧ y.awaited = false) ∧ headRead.words = [] ∧ s.tr.awaitSeg = none :=
    fun ws s h hw ha => ⟨[], _, h, by decide, by decide, fun y hy => absurd (hw ▸ hy) List.not_mem_nil, rfl, ha⟩
  have link : ∀ (ws : List Word) (s : State), ReadEnds linkRead [] ⟨.read, 1, false⟩ ws s → s.smp.writes = [] → s.tr.awaitSeg = none →
      ∃ more g, ReadEnds linkRead more g ws s ∧ (∀ y ∈ more, y.isTicketRead = false) ∧ linkRead.left ≤ g.words ∧
        (∀ y ∈ s.smp.writes, y.isRepeatedTaken s.tr.pos = false ∧ y.awaited = false) ∧ linkRead.words = [] ∧ s.tr.awaitSeg = none :=
    fun ws s h hw ha => ⟨[], _, h, by decide, by decide, fun y hy => absurd (hw ▸ hy) List.not_mem_nil, rfl, ha⟩
  have hh : ∀ (ws : List Word) (r : ReaderState) (halt pause : Bool), 4 ≤ min ws.length 4 → ReadEnds headRead [] ⟨.read, 4, false⟩ ws
      { readState headRead 4 with tr.reader := r, tr.haltReq := halt, tr.pauseReq := pause } :=
    fun _ _ _ _ h => ⟨⟨rfl, rfl⟩, rfl, rfl, rfl, rfl, rfl, h⟩
  have hl : ∀ (ws : List Word) (r : ReaderState), 1 ≤ min ws.length 1 →
      ReadEnds linkRead [] ⟨.read, 1, false⟩ ws { readState linkRead 1 with tr.reader := r } :=
    fun _ _ h => ⟨⟨rfl, rfl⟩, rfl, rfl, rfl, rfl, rfl, h⟩
  exact ⟨⟨[0, 0, 0, 0], _, head _ _ (hh _ .reading true false (by decide)) rfl rfl, by decide⟩,
    ⟨[0, 0, 1, 0], _, head _ _ (hh _ .reading false false (by decide)) rfl rfl, by decide⟩,
    ⟨[15], _, link _ _ (hl _ .reading (by decide)) rfl rfl, by decide⟩, ⟨[16], _, link _ _ (hl _ .reading (by decide)) rfl rfl, by decide⟩,
    ⟨[0, 0, 0, 0], _, head _ _ (hh _ .reading false true (by decide)) rfl rfl, by decide⟩,
    ⟨[0, 10, 0, 0], _, head _ _ (hh _ .reading false false (by decide)) rfl rfl, by decide⟩,
    ⟨[0, 9, 0, 0], _, head _ _ (hh _ .reading false false (by decide)) rfl rfl, by decide⟩,
    ⟨[0, 0x10009, 0, 0], _, head _ _ (hh _ .reading false false (by decide)) rfl rfl, by decide⟩,
    ⟨[15], _, link _ _ (hl _ .holding (by decide)) rfl rfl, by decide⟩, ⟨[16], _, link _ _ (hl _ .holding (by decide)) rfl rfl, by decide⟩,
    ⟨[0, 7, 1, 0], _, head _ _ (hh _ .holding false false (by decide)) rfl rfl, by decide⟩,
    ⟨[0, 0x10009, 0, 0], _, head _ _ (hh _ .holding false false (by decide)) rfl rfl, by decide⟩,
    ⟨[0, 7, 0, 0], _, head _ _ (hh _ .holding false true (by decide)) rfl rfl, by decide⟩,
    ⟨[0, 7, 0, 0], _, head _ _ (hh _ .holding true true (by decide)) rfl rfl, by decide⟩,
    fun n hn => by
      simp only [List.mem_cons, List.not_mem_nil, or_false] at hn
      rcases hn with rfl | rfl
      · exact ⟨[0, 7, 0, 0], _, head _ _ (hh _ .holding false false (by decide)) rfl rfl, by decide⟩
      · exact ⟨[0, 0x10007, 0, 0], _, head _ _ (hh _ .holding false false (by decide)) rfl rfl, by decide⟩⟩

/-- The CONFIGURE defaults as a body (09 R175), with the mark position given. -/
def configureBody (dpm : Word) : List Word :=
  [10000, 0, 10000, 0, 10000, 0, dpm, 5000, 2000, 1500, 2500, 42333, 8, 100, 1500, 30, 500, 3000, 2, 0, 300, 100, 0, 0]

/-- The checks at their edges: a CONFIGURE whose field 4 is one below its range, one whose roller is 100 mm too near the sensor, and the
defaults; LOAD_PROFILE slot 8 and an image one block past the last; REPORT's first bad area; END_SEGMENT mode 2. -/
theorem witness_TicketTakes :
    (∃ t x more g ws s, BodyArrives t x more g ws s ∧ (s.tr.reader = .reading ∨ s.tr.reader = .holding) ∧
      takeCheck { t with body := x.words ++ ws.take g.words } s = some (.badField, 1) ∧
      ∀ y ∈ s.smp.writes, y.isRepeatedTaken s.tr.pos = false) ∧
    (∃ t x more g ws s, BodyArrives t x more g ws s ∧ (s.tr.reader = .reading ∨ s.tr.reader = .holding) ∧
      takeCheck { t with body := x.words ++ ws.take g.words } s = none ∧ t.kind ≠ .segment) ∧
    (∃ x more g ws s, ReadEnds x more g ws s ∧ s.tr.reader = .reading ∧ s.tr.haltReq = false ∧ s.tr.pauseReq = false ∧
      x.kind = .headerRead ∧ (headerOf (x.words ++ ws.take g.words)).state = 0 ∧
      (headerOf (x.words ++ ws.take g.words)).kindCode = 8) ∧
    (let check : TicketKind → List Word → Option (Status × Nat) := fun k body => takeCheck (aTicket k body .checking) State.reset
     check .configure (configureBody 99) = some (.badField, 4) ∧ check .configure (configureBody 4897) = some (.badField, 5) ∧
     check .configure (configureBody 4896) = none ∧ check .loadProfile [8, 0] = some (.badField, 1) ∧
     check .loadProfile [7, 0xFFFFFF10] = some (.badField, 2) ∧ check .loadProfile [7, 0xFFFFFF00] = none ∧
     check .report [0xFFFFFF10] = some (.badField, 1) ∧ check .report [0xFFFFFF0F] = none ∧
     check .endSegment [2] = some (.badField, 1) ∧ check .endSegment [1] = none ∧ check .setSpeed [0, 0] = none) :=
  ⟨⟨_, _, _, _, [8, 0], _, bodyState_arrives .loadProfile 2 _ (by decide), .inl rfl, by decide⟩,
   ⟨_, _, _, _, [1], _, bodyState_arrives .report 1 _ (by decide), .inl rfl, by decide⟩,
   ⟨_, _, _, [0, 8, 0, 0], _, readState_ends headRead 4 _ (by decide), rfl, by decide⟩, by decide⟩

/-- Bodies with one field just outside its range: two rows at the top of memory, stride 24, width 80,001, R = 0, 63 rows, first row R,
slot 8, patch 65,536 mm, an area past the top, capacity 0, 17 void entries, and the second of two at N. Then the patch offset at the
band's length; the good body with slot 0 valid, with it invalid, and with the drum nearer than a band. -/
theorem witness_SegmentChecks :
    (let bad : List Word → Nat → Prop := fun ws n =>
       takeCheck (aTicket .segment ws .checking) (validSlot State.reset) = some (.badField, n)
     let put : Nat → Word → List Word := fun i w => segmentBody.set i w
     bad ((put 0 0xFFFFFFC0).set 3 2) 1 ∧ bad (put 1 24) 2 ∧ bad ((put 2 80001).set 1 320016) 3 ∧ bad (put 3 0) 4 ∧ bad ((((put 0 0xFFFFFFF0).set 1 256).set 2 8).set 3 0) 4 ∧ bad (put 4 63) 5 ∧
     bad (put 6 64) 7 ∧ bad (put 7 8) 8 ∧ bad (put 8 65536) 9 ∧ bad ((put 10 0xFFFFFFC0).set 11 2) 11 ∧ bad (put 11 0) 12 ∧
     bad (put 12 17) 13 ∧
     bad (((put 12 2).set 5 7).set 14 7) 15) ∧
    takeCheck (aTicket .segment (segmentBody.set 8 3) .checking) (validSlot State.reset) = some (.badGeometry, 9) ∧
    takeCheck (aTicket .segment segmentBody .checking) (validSlot State.reset) = none ∧
    takeCheck (aTicket .segment segmentBody .checking) State.reset = some (.noProfile, 8) ∧
    takeCheck (aTicket .segment segmentBody .checking) { validSlot State.reset with cfg.dpn := 2 } = some (.badGeometry, 5) ∧
    (aTicket .segment segmentBody .checking).kind = .segment := by decide

theorem witness_HeaderWriteDone :
    (∃ addr h rest s, WriteEnds (headerTransfer addr h) rest s ∧ h.role = .close ∧ s.tr.reader = .executing ∧ s.tr.awaitSeg = none ∧
      (∀ y ∈ rest, y.awaited = false) ∧ s.ticketReads = [] ∧ s.tr.haltReq = false ∧ h.state = .done ∧ h.notify = true) ∧
    (∃ addr h rest s, WriteEnds (headerTransfer addr h) rest s ∧ h.role = .close ∧ s.tr.reader = .reading ∧ s.tr.awaitSeg = none ∧
      (∀ y ∈ rest, y.awaited = false) ∧ s.ticketReads = [] ∧ s.tr.haltReq = true) ∧
    (∀ role ∈ [HeaderRole.segment true, .take .segment], ∃ addr h rest s, WriteEnds (headerTransfer addr h) rest s ∧ h.role = role ∧
      s.tr.reader = .reading ∧
      s.tr.awaitSeg = none ∧ s.tr.ticket = none ∧ (∀ y ∈ rest, y.awaited = false) ∧ s.ticketReads = [] ∧ s.tr.haltReq = false) ∧
    (∃ addr h rest s, WriteEnds (headerTransfer addr h) rest s ∧ h.role = .segment false ∧ s.tr.reader ≠ .reading) :=
  let h : HeaderRole → HeaderWrite := fun r =>
    { state := .done, status := .ok, detail := 0, notify := true, role := r, repeating := false }
  ⟨⟨256, h .close, [], { writeState (headerTransfer 256 (h .close)) 1 with tr.reader := .executing },
    writeState_ends (headerTransfer 256 (h .close)) 1 rfl (by decide), by decide⟩,
   ⟨256, h .close, [], { writeState (headerTransfer 256 (h .close)) 1 with tr.reader := .reading, tr.haltReq := true },
    writeState_ends (headerTransfer 256 (h .close)) 1 rfl (by decide), by decide⟩,
   fun r _ => ⟨256, h r, [], { writeState (headerTransfer 256 (h r)) 1 with tr.reader := .reading },
    writeState_ends (headerTransfer 256 (h r)) 1 rfl (Nat.le_refl 1), rfl, rfl, rfl, rfl, (fun _ h => nomatch h), rfl, rfl⟩,
   ⟨256, h (.segment false), [], _, writeState_ends (headerTransfer 256 (h (.segment false))) 1 rfl (by decide), by decide⟩⟩

/-- A profile image with good fields: knots 0, matrix 0, limit 1024, Dref 1, dose tolerance 1, colour tolerance 1. -/
def goodImage : List Word := List.replicate 44 0 ++ [0x00000400, 1, 0x00010001] ++ List.replicate 17 0

/-- A copy in flight whose whole image arrives now. -/
def copyState : State :=
  { State.reset with
    tr.ticket := some (aTicket .loadProfile [3, 256] .handed), ps.staging := some { target := 3, words := [] },
    smp.copies := [readOf .profileCopy 256 64], smp.grant := aGrant .copy 64 }

theorem witness_ProfileCopy :
    (∃ (t : Ticket) (c : Copying) (x : Transfer) (more : List Transfer) (g : Grant) (ws : List Word) (s : State), s.commandable ∧
      s.tr.ticket = some t ∧ s.ps.staging = some c ∧ s.smp.copies = x :: more ∧ x.kind = .profileCopy ∧ s.smp.grant = some g ∧
      g.client = .copy ∧ g.dropped = false ∧ x.left ≤ min ws.length g.words ∧
      (∀ y ∈ s.smp.writes, y.isRepeatedTaken t.addr = false) ∧ firstFail (imageChecks (x.words ++ ws.take g.words)) = none) ∧
    (∃ (t : Ticket) (c : Copying) (x : Transfer) (more : List Transfer) (g : Grant) (ws : List Word) (s : State), s.commandable ∧
      s.tr.ticket = some t ∧ s.ps.staging = some c ∧ s.smp.copies = x :: more ∧ x.kind = .profileCopy ∧ s.smp.grant = some g ∧
      g.client = .copy ∧ g.dropped = false ∧ x.left ≤ min ws.length g.words ∧
      (∀ y ∈ s.smp.writes, y.isRepeatedTaken t.addr = false) ∧ firstFail (imageChecks (x.words ++ ws.take g.words)) = some 89) :=
  ⟨⟨_, _, readOf .profileCopy 256 64, [], { client := .copy, words := 64, dropped := false }, goodImage, copyState, And.intro rfl rfl,
    rfl, rfl, by decide⟩,
   ⟨_, _, readOf .profileCopy 256 64, [], { client := .copy, words := 64, dropped := false }, List.replicate 64 0, copyState,
    And.intro rfl rfl, rfl, rfl, by decide⟩⟩

/-- A band of tally 0 at the head of the track, its tally being retired or finalised. -/
def retireState (x : Transfer) (e : Tally) : State :=
  { writeState x 16 with bt.track := [aBand 1 .awaiting], bt.tallies := [e] }

/-- A record write, the counts write of a retirement with the segment not PRINTED and with it PRINTED at its last band, and that of a
finalisation; bands whose values fit their fields of the record, with a checked zone and with none. -/
theorem witness_RetirementWrites :
    (∃ x rest s, WriteEnds x rest s ∧ s.rasterIdle ∧ s.dc.line ≠ .draining ∧
      ∃ (b : Band) (tl : List Band) (e : Tally), s.bt.track = b :: tl ∧ (∀ y ∈ s.bt.tallies, y.id = b.tally ↔ y = e) ∧
        e ∈ s.bt.tallies ∧ x.kind = .recordWrite) ∧
    (∃ x rest s, WriteEnds x rest s ∧ s.rasterIdle ∧ s.dc.line ≠ .draining ∧
      ∃ (b : Band) (tl : List Band) (e : Tally), s.bt.track = b :: tl ∧ (∀ y ∈ s.bt.tallies, y.id = b.tally ↔ y = e) ∧
        e ∈ s.bt.tallies ∧ x.kind = .countsWrite .retirement ∧ (∀ y ∈ tl, y.state ≠ .finished) ∧ e.printed = false) ∧
    (∃ x rest s, WriteEnds x rest s ∧ s.rasterIdle ∧ s.dc.line ≠ .draining ∧
      ∃ (b : Band) (tl : List Band) (e : Tally), s.bt.track = b :: tl ∧ (∀ y ∈ s.bt.tallies, y.id = b.tally ↔ y = e) ∧
        e ∈ s.bt.tallies ∧ x.kind = .countsWrite .retirement ∧ (∀ y ∈ tl, y.state ≠ .finished) ∧ e.printed = true ∧
        e.inTrack = 1 ∧ e.stale = false ∧ e.closing = false ∧ (∀ y ∈ rest, y.isRepeatedTaken e.addr = false) ∧ s.tr.awaitSeg = none) ∧
    (∃ x rest s, WriteEnds x rest s ∧ s.rasterIdle ∧ s.dc.line ≠ .draining ∧
      ∃ e : Tally, (∀ y ∈ s.bt.tallies, y.id = e.id ↔ y = e) ∧ e ∈ s.bt.tallies ∧ x.kind = .countsWrite (.finalise e.id) ∧
        (∀ y ∈ rest, y.isRepeatedTaken e.addr = false) ∧ s.tr.awaitSeg = none) ∧
    (∀ on : Bool, ∃ b : Band, b.p < 2 ^ 18 ∧ b.dpred < 2 ^ 23 ∧ b.s < 2 ^ 9 ∧ b.g < 2 ^ 11 ∧ b.firstRow < 2 ^ 20 ∧
      ((∃ i : Fin 8, b.zones.get i = true ∧ b.lostZones.get i = false) ↔ on = true)) :=
  let e : Tally := { aTally 0 with inTrack := 1 }
  let done : Tally := { e with printed := true, stale := false }
  ⟨⟨writeOf .recordWrite 1024 (List.replicate 16 0), [], retireState (writeOf .recordWrite 1024 (List.replicate 16 0)) e,
    ⟨⟨rfl, rfl⟩, rfl, rfl, _, rfl, rfl, rfl, by decide⟩, ⟨rfl, rfl, rfl, rfl⟩, by decide, _, _, e, rfl, by decide⟩,
   ⟨writeOf (.countsWrite .retirement) 644 [0], [], retireState (writeOf (.countsWrite .retirement) 644 [0]) e,
    ⟨⟨rfl, rfl⟩, rfl, rfl, _, rfl, rfl, rfl, by decide⟩, ⟨rfl, rfl, rfl, rfl⟩, by decide, _, _, e, rfl, by decide⟩,
   ⟨writeOf (.countsWrite .retirement) 644 [0], [], retireState (writeOf (.countsWrite .retirement) 644 [0]) done,
    ⟨⟨rfl, rfl⟩, rfl, rfl, _, rfl, rfl, rfl, by decide⟩, ⟨rfl, rfl, rfl, rfl⟩, by decide, _, _, done, rfl, by decide⟩,
   ⟨writeOf (.countsWrite (.finalise 0)) 644 [0], [], retireState (writeOf (.countsWrite (.finalise 0)) 644 [0]) (aTally 0),
    ⟨⟨rfl, rfl⟩, rfl, rfl, _, rfl, rfl, rfl, by decide⟩, ⟨rfl, rfl, rfl, rfl⟩, by decide, aTally 0, by decide⟩,
   fun on => ⟨{ aBand 1 .finished with zones := Oct.fill on }, by cases on <;> decide⟩⟩

/-- A write with one word left over for each kind that can have one, a read, a profile copy, a row; and each owner's bus error. -/
theorem witness_Bursts :
    (∃ s : State, s.commandable ∧ s.smp.grant = none) ∧
    (∀ k ∈ [TransferKind.recordWrite, .countsWrite .retirement, .reportWrite, .progress],
      ∃ (s : State) (x : Transfer) (rest : List Transfer) (g : Grant), s.commandable ∧ s.smp.grant = some g ∧ g.dropped = false ∧
        s.smp.queue g.client = x :: rest ∧ x.kind = k ∧ g.words + 1 = x.left ∧ x.isWrite = true ∧ x.words ≠ [] ∧
        x.moved + x.left = x.words.length) ∧
    (∃ (s : State) (x : Transfer) (rest : List Transfer) (g : Grant), s.commandable ∧ s.smp.grant = some g ∧ g.dropped = false ∧
      s.smp.queue g.client = x :: rest ∧ g.words + 1 = x.left ∧ x.isWrite = false ∧ x.kind ≠ .profileCopy) ∧
    (∃ (s : State) (x : Transfer) (rest : List Transfer) (g : Grant) (p : Copying), s.commandable ∧ s.smp.grant = some g ∧
      g.dropped = false ∧ s.smp.queue g.client = x :: rest ∧ g.words < x.left ∧ g.client = .copy ∧ x.kind = .profileCopy ∧
      s.ps.staging = some p) ∧
    (∃ (s : State) (g : Grant), s.commandable ∧ s.smp.grant = some g ∧ g.dropped = true) ∧
    (∃ (s : State) (addr : Nat) (h : HeaderWrite) (rest : List Transfer), s.commandable ∧
      s.smp.grant = some { client := .write, words := 1, dropped := false } ∧ s.smp.writes = headerTransfer addr h :: rest) ∧
    (∃ (s : State) (x : Transfer) (rest : List Transfer) (g : Grant), s.commandable ∧ s.smp.grant = some g ∧ g.client = .read ∧
      g.dropped = false ∧ s.smp.reads = x :: rest ∧ x.isTicketRead = true ∧ s.tr.haltReq = false ∧ s.tr.ticket = none) ∧
    (∃ (s : State) (x : Transfer) (rest : List Transfer) (g : Grant) (b : Band) (tl : List Band) (e : Tally), s.commandable ∧
      s.smp.grant = some g ∧ g.client = .write ∧ g.dropped = false ∧ s.smp.writes = x :: rest ∧ x.kind = .recordWrite ∧
      s.bt.track = b :: tl ∧ e ∈ s.bt.tallies ∧ ∀ y ∈ s.bt.tallies, y.id = b.tally ↔ y = e) ∧
    (∃ (s : State) (x : Transfer) (rest : List Transfer) (g : Grant) (k : Ticket), s.commandable ∧ s.smp.grant = some g ∧
      g.client = .copy ∧ g.dropped = false ∧ s.smp.copies = x :: rest ∧ x.kind = .profileCopy ∧ s.tr.ticket = some k ∧
      ∀ y ∈ s.smp.writes, y.isRepeatedTaken k.addr = false) ∧
    (∃ (s : State) (x : Transfer) (rest : List Transfer) (g : Grant) (k : Ticket), s.commandable ∧ s.smp.grant = some g ∧
      g.client = .copy ∧ g.dropped = false ∧ s.smp.copies = x :: rest ∧ x.kind = .reportWrite ∧ x.moved + g.words = x.words.length ∧
      s.tr.ticket = some k ∧ ∀ y ∈ s.smp.writes, y.isRepeatedTaken k.addr = false) ∧
    (∃ (s : State) (x : Transfer) (rest : List Transfer) (g : Grant) (e : Tally), s.commandable ∧ s.smp.grant = some g ∧
      g.client = .write ∧ g.dropped = false ∧ s.smp.writes = x :: rest ∧ x.moved + g.words = x.words.length ∧ e ∈ s.bt.tallies ∧
      x.kind = .countsWrite (.finalise e.id) ∧ (∀ y ∈ s.bt.tallies, y.id = e.id ↔ y = e) ∧
      (∀ y ∈ rest, y.isRepeatedTaken e.addr = false) ∧ s.tr.awaitSeg = none) ∧
    (∃ (s : State) (x : Transfer) (rest : List Transfer) (g : Grant) (e : Tally) (b : Band) (tl : List Band), s.commandable ∧
      s.smp.grant = some g ∧ g.client = .write ∧ g.dropped = false ∧ s.smp.writes = x :: rest ∧ x.moved + g.words < x.words.length ∧
      e ∈ s.bt.tallies ∧ x.kind = .countsWrite .retirement ∧ s.bt.track = b :: tl ∧ (∀ y ∈ s.bt.tallies, y.id = b.tally ↔ y = e) ∧
      (∀ y ∈ tl, y.state ≠ .finished) ∧ e.printed = false ∧ s.rasterIdle ∧ s.dc.line ≠ .draining) ∧
    (∃ (s : State) (x : Transfer) (rest : List Transfer) (g : Grant), s.commandable ∧ s.smp.grant = some g ∧ g.client = .read ∧
      g.dropped = false ∧ s.smp.reads = x :: rest ∧ x.kind = .progress ∧ x.moved + g.words = x.words.length ∧ rest ≠ [] ∧
      ∀ y ∈ rest.head?, y.kind ≠ .progress) ∧
    (∃ (s : State) (g : Grant) (w : Segment) (ws : List Word) (y : RowSlot) (done rest : List RowSlot), s.commandable ∧
      s.smp.grant = some g ∧ g.client = .row ∧ g.dropped = false ∧ s.re.seg = some w ∧ s.re.slots = done ++ y :: rest ∧
      (∀ z ∈ done, z.complete = true) ∧ y.complete = false ∧ y.words.length + min ws.length g.words + 1 = w.width) ∧
    (∃ (s : State) (g : Grant) (y : RowSlot) (done rest : List RowSlot), s.commandable ∧ s.smp.grant = some g ∧ g.client = .row ∧
      g.dropped = false ∧ s.re.slots = done ++ y :: rest ∧ (∀ z ∈ done, z.complete = true) ∧ y.complete = false) :=
  let x : TransferKind → Transfer := fun k => writeOf k 1024 [1, 2]
  ⟨⟨State.reset, And.intro rfl rfl, rfl⟩,
   fun k hk => by
     simp only [List.mem_cons, List.not_mem_nil, or_false] at hk
     rcases hk with rfl | rfl | rfl | rfl
     · exact ⟨writeState (x .recordWrite) 1, _, [], _, And.intro rfl rfl, rfl, rfl, rfl, by decide⟩
     · exact ⟨writeState (x (.countsWrite .retirement)) 1, _, [], _, And.intro rfl rfl, rfl, rfl, rfl, by decide⟩
     · exact ⟨{ State.reset with smp.copies := [x .reportWrite], smp.grant := aGrant .copy 1 }, _, [], _, And.intro rfl rfl, rfl, rfl, rfl,
         by decide⟩
     · exact ⟨{ State.reset with smp.reads := [x .progress], smp.grant := aGrant .read 1 }, _, [], _, And.intro rfl rfl, rfl, rfl, rfl,
         by decide⟩,
   ⟨readState headRead 3, headRead, [], _, And.intro rfl rfl, rfl, by decide⟩,
   ⟨{ copyState with smp.grant := aGrant .copy 16 }, readOf .profileCopy 256 64, [], _, _, And.intro rfl rfl, rfl, rfl, rfl, by decide,
    rfl, rfl, rfl⟩,
   ⟨{ State.reset with smp.grant := some { client := .read, words := 1, dropped := true } }, _, And.intro rfl rfl, rfl, rfl⟩,
   ⟨handState .stop [], 256, _, [], And.intro rfl rfl, rfl, rfl⟩,
   ⟨readState linkRead 1, linkRead, [], _, And.intro rfl rfl, rfl, by decide⟩,
   ⟨retireState (writeOf .recordWrite 1024 (List.replicate 16 0)) (aTally 0), _, [], _, aBand 1 .awaiting, [], aTally 0, And.intro rfl rfl,
    rfl, rfl, rfl, rfl, by decide⟩,
   ⟨copyState, readOf .profileCopy 256 64, [], _, aTicket .loadProfile [3, 256] .handed, And.intro rfl rfl, rfl, by decide⟩,
   ⟨{ State.reset with
       smp.copies := [x .reportWrite], smp.grant := aGrant .copy 2, tr.ticket := some (aTicket .report [4096] .handed) }, _, [], _, _,
    And.intro rfl rfl, rfl, rfl, rfl, rfl, rfl, rfl, rfl, by decide⟩,
   ⟨{ retireState (x (.countsWrite (.finalise 0))) (aTally 0) with smp.grant := aGrant .write 2 }, _, [], _, aTally 0, And.intro rfl rfl,
    rfl, rfl, rfl, rfl, by decide⟩,
   ⟨{ retireState (x (.countsWrite .retirement)) (aTally 0) with smp.grant := aGrant .write 1 }, _, [], _, aTally 0, _, [],
    And.intro rfl rfl, rfl, rfl, rfl, rfl, by decide, by decide, rfl, rfl, by decide, by decide, rfl, ⟨rfl, rfl, rfl, rfl⟩, by decide⟩,
   ⟨{ State.reset with smp.reads := [x .progress, linkRead], smp.grant := aGrant .read 2 }, x .progress, [linkRead], _,
    And.intro rfl rfl, rfl, by decide⟩,
   ⟨{ State.reset with
       smp.grant := aGrant .row 1, re.seg := some { aSegment with width := 2 },
       re.slots := [aSlot, { aSlot with words := [], complete := false }] }, _, { aSegment with width := 2 }, [7],
    { aSlot with words := [], complete := false }, [aSlot], [], And.intro rfl rfl, rfl, by decide⟩,
   ⟨{ State.reset with smp.grant := aGrant .row 1, re.slots := [aSlot, { aSlot with complete := false }] }, _,
    { aSlot with complete := false }, [aSlot], [], And.intro rfl rfl, rfl, by decide⟩⟩

theorem witness_Progress :
    (∃ s : State, s.commandable ∧ s.dc.line.moving = true ∧ s.smp.progTimer = 1000 ∧ PortLaw s ∧ s.smp.progBase = 0) ∧
    (∃ s : State, s.commandable ∧ s.dc.line.moving = true ∧ s.smp.progTimer = 1000 ∧ PortLaw s ∧
      s.smp.progBase.toNat + 127 = 4294967311) ∧
    (∃ s : State, s.commandable ∧ s.dc.line.moving = true ∧ s.smp.progTimer = 1000 ∧ PortLaw s ∧ s.smp.progBase ≠ 0 ∧
      s.smp.progBase.toNat + 127 = 4294967295 ∧ s.smp.grant = none ∧ s.smp.reads = []) ∧
    (∃ s : State, s.commandable ∧ s.dc.line.moving = true ∧ s.smp.progTimer = 1000 ∧ s.smp.progBase ≠ 0 ∧
      s.smp.progBase.toNat + 127 = 4294967295 ∧ s.smp.grant ≠ none ∧ ∃ x ∈ s.smp.reads, x.kind = .progress ∧ x.words = []) ∧
    (∃ s : State, s.commandable ∧ s.dc.line.moving = true ∧ s.smp.progTimer = 1000 ∧ s.smp.progBase ≠ 0 ∧
      s.smp.progBase.toNat + 127 ≤ 4294967295 ∧ s.smp.grant ≠ none ∧ s.smp.reads ≠ [] ∧
      ∀ x ∈ s.smp.reads, x.kind = .progress → x.words ≠ []) ∧
    (∃ s : State, s.commandable ∧ s.dc.line.moving = true ∧ s.smp.progTimer = 999) ∧
    (∃ (s : State) (x : Transfer) (more : List Transfer) (g : Grant), s.commandable ∧ s.smp.reads = x :: more ∧ x.kind = .progress ∧
      s.smp.grant = some g ∧ g.client = .read ∧ g.dropped = false ∧ x.left ≤ g.words ∧ x.moved + g.words = x.words.length ∧
      ∃ y ∈ more, y.kind = .progress) :=
  let x : Transfer := { kind := .progress, addr := 4096, moved := 31, left := 1, words := List.replicate 32 1 }
  let q : List Transfer → Word → State := fun l base =>
    { inLine .running with smp.reads := l, smp.grant := aGrant .read 1, smp.progBase := base, smp.progTimer := 1000 }
  have law : ∀ base : Word, PortLaw { inLine .stopping with smp.progTimer := 1000, smp.progBase := base } := fun _ =>
    ⟨fun _ c => by cases c <;> rfl, fun _ _ h => nomatch h⟩
  ⟨⟨{ inLine .stopping with smp.progTimer := 1000 }, And.intro rfl rfl, rfl, rfl, law 0, rfl⟩,
   ⟨{ inLine .stopping with smp.progTimer := 1000, smp.progBase := 0xFFFFFF90 }, And.intro rfl rfl, rfl, rfl, law _, by decide⟩,
   ⟨{ inLine .stopping with smp.progTimer := 1000, smp.progBase := 0xFFFFFF80 }, And.intro rfl rfl, rfl, rfl, law _, by decide⟩,
   ⟨q [readOf .linkRead 256 1, readOf .progress 0 32] 0xFFFFFF80, And.intro rfl rfl, by decide⟩,
   ⟨q [x] 4096, And.intro rfl rfl, by decide⟩,
   ⟨{ inLine .running with smp.progTimer := 999 }, And.intro rfl rfl, by decide⟩,
   ⟨q [x, readOf .progress 0 32] 4096, x, [readOf .progress 0 32], { client := .read, words := 1, dropped := false }, And.intro rfl rfl,
    by decide⟩⟩

/-- The burst's transfer is abandoned: nothing waiting; two clients waiting with the lower one passed over 7 times, and 8 times; a
progress block write waiting. -/
theorem witness_ArbiterChoice :
    (∃ (s : State) (g : Grant), s.pins.powerGood = true ∧ s.smp.grant = some g ∧ g.dropped = true ∧ s.leftOf .row = 0 ∧
      s.leftOf .write = 0 ∧ s.leftOf .read = 0 ∧ s.leftOf .copy = 0) ∧
    (∃ (s : State) (g : Grant), s.pins.powerGood = true ∧ s.smp.grant = some g ∧ g.dropped = true ∧ s.leftOf .write ≠ 0 ∧
      s.leftOf .copy ≠ 0 ∧ s.smp.passOver.copy = 7) ∧
    (∃ (s : State) (g : Grant), s.pins.powerGood = true ∧ s.smp.grant = some g ∧ g.dropped = true ∧ s.leftOf .write ≠ 0 ∧
      s.leftOf .copy ≠ 0 ∧ s.smp.passOver.copy = 8) ∧
    (∃ (s : State) (g : Grant) (x : Transfer) (more : List Transfer), s.pins.powerGood = true ∧ s.smp.grant = some g ∧
      g.dropped = true ∧ s.smp.reads = x :: more ∧ x.kind = .progress ∧ x.words = []) :=
  let g : Grant := { client := .read, words := 1, dropped := true }
  let q : Nat → State := fun n =>
    { State.reset with
      smp.writes := [writeOf .recordWrite 1024 (List.replicate 16 0)], smp.copies := [readOf .profileCopy 256 64],
      smp.passOver := ⟨0, 0, 0, n⟩, smp.grant := some g }
  ⟨⟨{ State.reset with smp.grant := some g }, g, by decide⟩, ⟨q 7, g, by decide⟩, ⟨q 8, g, by decide⟩,
   ⟨{ State.reset with smp.progBase := 4096, smp.reads := [readOf .progress 4096 32], smp.grant := some g }, g,
    readOf .progress 4096 32, [], by decide⟩⟩

/-! ## Witnesses: rules and laws -/

/-- One verdict each, with flags at both ends of their lists. -/
theorem witness_VerdictTable :
    ({ aBand 1 .finished with kind := .void, flags := 0xFFF } : Band).verdictOf = .void ∧
    ({ aBand 1 .finished with flags := 0x800 } : Band).verdictOf = .reject ∧
    ({ aBand 1 .finished with flags := 0x040 } : Band).verdictOf = .reject ∧
    ({ aBand 1 .finished with flags := 0x400 } : Band).verdictOf = .suspect ∧
    ({ aBand 1 .finished with flags := 0x080 } : Band).verdictOf = .suspect ∧ (aBand 1 .finished).verdictOf = .good := by decide

/-- A sum at the limit and one above it. -/
theorem witness_InkLimitLaw :
    (∃ (limit : Nat) (u : Ink Nat), limit < u.c + u.m + u.y + u.k) ∧ (∃ (limit : Nat) (u : Ink Nat), u.c + u.m + u.y + u.k ≤ limit) :=
  ⟨⟨1024, ⟨1025, 0, 0, 0⟩, by decide⟩, ⟨1024, ⟨1024, 0, 0, 0⟩, by decide⟩⟩

/-- The ends of the ranges: no zone enabled, and every zone at 2300 with the shortest and the longest dwell. -/
theorem witness_Compensation :
    (∃ w v : Nat, 800 ≤ w ∧ w ≤ 3000 ∧ 50 ≤ v ∧ v ≤ 1000 ∧ dwell w v = 80) ∧
    (∃ w v : Nat, 800 ≤ w ∧ w ≤ 3000 ∧ 50 ≤ v ∧ v ≤ 1000 ∧ dwell w v = 6000) ∧
    (∃ zones : Oct Zone, zones.toList.filter (fun z => z.enable && decide (1 ≤ z.target)) = []) ∧
    (∃ zones : Oct Zone, zones.toList.filter (fun z => z.enable && decide (1 ≤ z.target)) ≠ [] ∧
      (∀ z ∈ zones.toList, z.target ≤ 2300) ∧ predictedDose zones 1200 3000 50 = 6600000) ∧
    (∃ (s : State) (g : Segment), 0 < (s.ps.slots.get g.slot).prof.dref) ∧ (∃ dref d d' : Nat, 0 < dref ∧ d ≤ d') :=
  ⟨⟨800, 1000, by decide⟩, ⟨3000, 50, by decide⟩, ⟨Oct.fill Zone.reset, by decide⟩,
   ⟨Oct.fill { Zone.reset with enable := true, target := 2300 }, by decide⟩,
   ⟨{ State.reset with ps.slots := Oct.fill { valid := true, gen := 1, tau := 0, prof := { Profile.blank with dref := 1 } } },
    { tally := 0, addr := 0, base := 0, stride := 16, width := 1, rows := 1, bandRows := 64, count := 1, first := 0, slot := 0,
      patch := 0, autoStart := false, testMark := false, voids := [], created := 0 }, by decide⟩, ⟨1, 0, 1, by decide⟩⟩

/-- Every law holds of the state after reset, and of one with a TRIPPED drum in POWER_STOP, one with the nip closing in STARTING. -/
theorem witness_HeaterLawKept : ∃ s : State, HeaterLaw s ∧ s.dc.line = .powerStop ∧ step s = .next (tick s) :=
  ⟨{ inLine .powerStop with hc.drum := .tripped, pins.mainsOk := false }, by unfold HeaterLaw; decide, rfl, rfl⟩

theorem witness_NipLawKept : ∃ s : State, NipLaw s ∧ s.dc.valve = .closing ∧ step s = .next (tick s) :=
  ⟨{ inLine .starting with dc.valve := .closing, dc.nip := .closing }, by unfold NipLaw; decide, rfl, rfl⟩

/-- A state at the ends of the ranges. -/
theorem witness_ValueLawsKept :
    ∃ s : State, TrimLaw s ∧ CompensationLaw s ∧ CapacityLaw s ∧ PortLaw s ∧ s.ps.slots.z0.tau = 255 ∧ s.ps.slots.z1.tau = -256 ∧
      s.bt.splices.length = 4 ∧ s.bt.track ≠ [] ∧ step s = .next (tick s) :=
  ⟨{ State.reset with
      ps.slots.z0.tau := 255, ps.slots.z1.tau := -256, bt.splices := [1, 2, 3, 4],
      bt.track := [{ aBand 1 .awaiting with g := 768 }, { aBand 2 .awaiting with g := 1280 }] },
   by unfold TrimLaw; decide, by unfold CompensationLaw; decide, by unfold CapacityLaw; decide, ⟨fun _ c => by cases c <;> rfl, fun _ _ h => nomatch h⟩,
   by decide, by decide, by decide,
   by decide, rfl⟩

end Sys2Proof.Tests
end

section
/-! The layer of facts the proofs of the band-track statements share: what `Becomes` and `Frame` give, field by field, and how they
compose. -/

namespace Sys2Proof.Machine

/-! ## The one element of a list that meets a test -/

section
variable {α : Type} [DecidableEq α] {p : α → Prop} [DecidablePred p] {a : α} {l : List α}

omit [DecidableEq α] in
theorem find?_of_unique (hm : a ∈ l) (hu : ∀ y ∈ l, p y ↔ y = a) : l.find? (fun y => p y) = some a := by
  cases hf : l.find? (fun y => p y) with
  | none => exact absurd ((hu a hm).2 rfl) (by simpa using List.find?_eq_none.1 hf a hm)
  | some y => exact congrArg some ((hu y (List.mem_of_find?_eq_some hf)).1 (by simpa using List.find?_some hf))

theorem map_ite_of_unique (hu : ∀ y ∈ l, p y ↔ y = a) (f : α → α) :
    l.map (fun y => if p y then f y else y) = l.map (fun y => if y = a then f a else y) := by
  refine List.map_congr_left fun y hy => ?_
  by_cases hya : y = a
  · rw [if_pos ((hu y hy).2 hya), if_pos hya, hya]
  · rw [if_neg (fun hc => hya ((hu y hy).1 hc)), if_neg hya]

end

/-! ## `Becomes` and `Frame`, field by field -/

section
variable {u t : State} {ns : List Notice}

theorem Becomes.frame (h : Becomes u ns t) : Frame [] ns u t := h.1
theorem Becomes.out (h : Becomes u ns t) : t.out = u.out := h.2.2
theorem Becomes.writes (h : Becomes u ns t) : t.smp.writes = u.smp.writes := h.2.1.1
theorem Becomes.copies (h : Becomes u ns t) : t.smp.copies = u.smp.copies := h.2.1.2.1
theorem Becomes.ticketReads (h : Becomes u ns t) : t.ticketReads = u.ticketReads := h.2.1.2.2
theorem Becomes.eq_setPort (h : Becomes u ns t) : t = { u with smp := t.smp } := ((becomes_iff u t ns).1 h).1
theorem Becomes.port (h : Becomes u ns t) : PortStep ns u.smp t.smp := ((becomes_iff u t ns).1 h).2
theorem Becomes.soft (h : Becomes u ns t) : t.smp.soft = u.smp.soft := by
  obtain ⟨-, -, -, -, -, hsoft, -⟩ := h.port
  exact hsoft
theorem Becomes.cfg (h : Becomes u ns t) : t.cfg = u.cfg := by rw [h.eq_setPort]
theorem Becomes.pins (h : Becomes u ns t) : t.pins = u.pins := by rw [h.eq_setPort]
theorem Becomes.tr (h : Becomes u ns t) : t.tr = u.tr := by rw [h.eq_setPort]
theorem Becomes.re (h : Becomes u ns t) : t.re = u.re := by rw [h.eq_setPort]
theorem Becomes.ps (h : Becomes u ns t) : t.ps = u.ps := by rw [h.eq_setPort]
theorem Becomes.bt (h : Becomes u ns t) : t.bt = u.bt := by rw [h.eq_setPort]
theorem Becomes.hc (h : Becomes u ns t) : t.hc = u.hc := by rw [h.eq_setPort]
theorem Becomes.dc (h : Becomes u ns t) : t.dc = u.dc := by rw [h.eq_setPort]
theorem Becomes.mr (h : Becomes u ns t) : t.mr = u.mr := by rw [h.eq_setPort]
theorem Becomes.cv (h : Becomes u ns t) : t.cv = u.cv := by rw [h.eq_setPort]

end

theorem Becomes.setPs {ns : List Notice} {u t : State} (h : Becomes u ns t) (f : Store → Store) :
    Becomes { u with ps := f u.ps } ns { t with ps := f t.ps } := by
  rw [becomes_iff] at *
  exact ⟨by rw [h.1], h.2⟩

theorem SameBlock.trans {b : Block} {s u t : State} (h : SameBlock b s u) (k : SameBlock b u t) : SameBlock b s t := by
  cases b <;> exact Eq.trans k h

theorem SameRegisters.trans {s u t : State} (h : SameRegisters s u) (k : SameRegisters u t) : SameRegisters s t := by
  obtain ⟨h1, h2, h3, h4, h5⟩ := h
  obtain ⟨k1, k2, k3, k4, k5⟩ := k
  exact ⟨k1.trans h1, k2.trans h2, k3.trans h3, k4.trans h4, k5.trans h5⟩

/-- Frames compose; the causes raised add up. -/
theorem Frame.trans {cs : List Block} {ns ms : List Notice} {s u t : State} (h : Frame cs ns s u) (k : Frame cs ms u t) :
    Frame cs (ns ++ ms) s t := by
  obtain ⟨h1, h2, h3, h4, h5, h6, h7, h8, h9⟩ := h
  obtain ⟨k1, k2, k3, k4, k5, k6, k7, k8, k9⟩ := k
  refine ⟨k1.trans h1, k2.trans h2, k3.trans h3, k4.trans h4, k5.trans h5, h6.trans k6, k7.trans h7, ?_,
    fun b hb => (h9 b hb).trans (k9 b hb)⟩
  simp only [Raised] at *
  rw [k8, h8, List.foldl_append]

/-- A frame holds of every longer list of changed blocks. -/
theorem Frame.mono {cs ds : List Block} {ns : List Notice} {s t : State} (h : Frame cs ns s t) (hd : cs ⊆ ds) : Frame ds ns s t := by
  obtain ⟨h1, h2, h3, h4, h5, h6, h7, h8, h9⟩ := h
  exact ⟨h1, h2, h3, h4, h5, h6, h7, h8, fun b hb => h9 b (fun hc => hb (hd hc))⟩

/-- What follows a frame and moves nothing but the port keeps it. -/
theorem Frame.becomes {cs : List Block} {ns ms : List Notice} {s u t : State} (h : Frame cs ns s u) (k : Becomes u ms t) :
    Frame cs (ns ++ ms) s t := h.trans (k.frame.mono (List.nil_subset _))

/-- `Frame.becomes`, the later part first. -/
theorem Becomes.after {cs : List Block} {ms : List Notice} {s u t : State} (k : Becomes u ms t) (h : Frame cs [] s u) :
    Frame cs ms s t := h.becomes k

/-- A powered command is its effect with the outputs cleared, then the arbiter. -/
theorem command_eq {s : State} (hp : s.pins.powerGood = true) (f : State → State) :
    command f s = kick (f { s with out := [] }) := by simp [command, powered, hp]

theorem commandAt_eq {s : State} (hp : s.pins.powerGood = true) (l : Lines) (f : State → State) :
    commandAt l f s = kick (f { sampleLines l s with out := [] }) := command_eq hp _

/-- A state that differs in the listed blocks, the outputs and the queues alone. -/
theorem frame_of_eq {cs : List Block} {s t : State} (hpins : t.pins = s.pins) (hcfg : t.cfg = s.cfg) (hnow : t.now = s.now)
    (hfree : t.freeCount = s.freeCount) (hpend : t.pending = s.pending) (hregs : SameRegisters s t)
    (hsoft : t.smp.soft = s.smp.soft) (hnotice : t.smp.notice = s.smp.notice) (hblocks : ∀ b, b ∉ cs → SameBlock b s t) :
    Frame cs [] s t := ⟨hpins, hcfg, hnow, hfree, hpend, hregs, hsoft, hnotice, hblocks⟩

/-- The same, block by block: each is listed or the same. What an explicit update leaves alone needs no mention. -/
theorem frame_of_blocks {cs : List Block} {s t : State} (hpins : t.pins = s.pins := by rfl) (hcfg : t.cfg = s.cfg := by rfl)
    (hnow : t.now = s.now := by rfl) (hfree : t.freeCount = s.freeCount := by rfl) (hpend : t.pending = s.pending := by rfl)
    (hregs : SameRegisters s t := by exact ⟨rfl, rfl, rfl, rfl, rfl⟩) (hsoft : t.smp.soft = s.smp.soft := by rfl)
    (hnotice : t.smp.notice = s.smp.notice := by rfl) (htr : .tr ∈ cs ∨ t.tr = s.tr := by exact .inr rfl)
    (hre : .re ∈ cs ∨ t.re = s.re := by exact .inr rfl) (hps : .ps ∈ cs ∨ t.ps = s.ps := by exact .inr rfl)
    (hbt : .bt ∈ cs ∨ t.bt = s.bt := by exact .inr rfl) (hhc : .hc ∈ cs ∨ t.hc = s.hc := by exact .inr rfl)
    (hdc : .dc ∈ cs ∨ t.dc = s.dc := by exact .inr rfl) (hmr : .mr ∈ cs ∨ t.mr = s.mr := by exact .inr rfl)
    (hcv : .cv ∈ cs ∨ t.cv = s.cv := by exact .inr rfl) : Frame cs [] s t :=
  frame_of_eq hpins hcfg hnow hfree hpend hregs hsoft hnotice fun b hb => by
    cases b with
    | tr => exact htr.resolve_left hb
    | re => exact hre.resolve_left hb
    | ps => exact hps.resolve_left hb
    | bt => exact hbt.resolve_left hb
    | hc => exact hhc.resolve_left hb
    | dc => exact hdc.resolve_left hb
    | mr => exact hmr.resolve_left hb
    | cv => exact hcv.resolve_left hb

/-- A change of the Band Tracker alone. -/
theorem frame_setBt (s : State) (x : Tracker) : Frame [.bt] [] s { s with bt := x } :=
  frame_of_eq rfl rfl rfl rfl rfl ⟨rfl, rfl, rfl, rfl, rfl⟩ rfl rfl (fun b hb => by cases b <;> simp_all [SameBlock])

end Sys2Proof.Machine
end

section
/-! The verdict table (01 R18) and splice pulses (01 R14, R15). -/

namespace Sys2Proof.Machine

theorem hasAny_rejectFlags (b : Band) : b.hasAny rejectFlags = true ↔
    (b.flags.getLsbD 0 = true ∨ b.flags.getLsbD 1 = true ∨ b.flags.getLsbD 2 = true ∨ b.flags.getLsbD 3 = true ∨
      b.flags.getLsbD 4 = true ∨ b.flags.getLsbD 5 = true ∨ b.flags.getLsbD 6 = true ∨ b.flags.getLsbD 11 = true) := by
  simp only [Band.hasAny, rejectFlags, Band.has, List.any_cons, List.any_nil, Flag.place, Bool.or_eq_true, Bool.or_false]
  tauto

theorem hasAny_suspectFlags (b : Band) : b.hasAny suspectFlags = true ↔
    (b.flags.getLsbD 7 = true ∨ b.flags.getLsbD 8 = true ∨ b.flags.getLsbD 9 = true ∨ b.flags.getLsbD 10 = true) := by
  simp only [Band.hasAny, suspectFlags, Band.has, List.any_cons, List.any_nil, Flag.place, Bool.or_eq_true, Bool.or_false]

/-- The two lists name every flag: a band that carries none of them has no flag set. -/
theorem flags_eq_zero_iff (b : Band) : b.flags = 0 ↔ ¬b.hasAny rejectFlags = true ∧ ¬b.hasAny suspectFlags = true := by
  rw [hasAny_rejectFlags, hasAny_suspectFlags]
  constructor
  · intro h
    simp [h]
  · intro h
    apply BitVec.eq_of_getLsbD_eq
    intro i hi
    have : i = 0 ∨ i = 1 ∨ i = 2 ∨ i = 3 ∨ i = 4 ∨ i = 5 ∨ i = 6 ∨ i = 7 ∨ i = 8 ∨ i = 9 ∨ i = 10 ∨ i = 11 := by omega
    rcases this with rfl | rfl | rfl | rfl | rfl | rfl | rfl | rfl | rfl | rfl | rfl | rfl <;> simp_all

section
variable (b : Band)

theorem verdictOf_eq_void_iff : b.verdictOf = .void ↔ b.kind = .void := by
  unfold Band.verdictOf
  split_ifs <;> simp_all

theorem verdictOf_eq_reject_iff : b.verdictOf = .reject ↔ b.kind ≠ .void ∧ b.hasAny rejectFlags = true := by
  unfold Band.verdictOf
  split_ifs <;> simp_all

theorem verdictOf_eq_suspect_iff :
    b.verdictOf = .suspect ↔ b.kind ≠ .void ∧ ¬b.hasAny rejectFlags = true ∧ b.hasAny suspectFlags = true := by
  unfold Band.verdictOf
  split_ifs <;> simp_all

theorem verdictOf_eq_good_iff :
    b.verdictOf = .good ↔ b.kind ≠ .void ∧ ¬b.hasAny rejectFlags = true ∧ ¬b.hasAny suspectFlags = true := by
  unfold Band.verdictOf
  split_ifs <;> simp_all

end

theorem kind_ne_void_iff (k : BandKind) : k ≠ .void ↔ k = .printed := by cases k <;> simp

/-- The drum span holds a nip position: its ends are those of the resolved mark, or of c = 0 widened by the mark window (01 R14). -/
theorem hit_iff (cfg : Settings) (b : Band) (nip : Nat) : b.hit cfg nip = true ↔
    (b.l0 : Int) + cfg.dpn * 1000000 + b.c.getD (-(cfg.markWindow * 1000 : Int)) ≤ nip ∧
      (nip : Int) ≤ b.l0 + b.len + cfg.dpn * 1000000 + b.c.getD (cfg.markWindow * 1000) := by
  unfold Band.hit Band.span inZ Settings.dpnNm Settings.h
  cases b.c <;> simp

theorem flagIf_splice (t : Bool) (b : Band) :
    b.flagIf t .splice = if t then { b with flags := b.flags ||| 0x080#12 } else b := rfl

/-- What a splice pulse leaves: nothing but the splice list, its overflow and the flags of the track. -/
theorem splicePulse_eq (s : State) :
    splicePulse s = { s with
      bt.splices := if s.bt.splices.length < 4 then s.bt.splices ++ [s.paper + s.cfg.fnNm] else s.bt.splices,
      bt.overflow := if s.bt.splices.length < 4 then s.bt.overflow else true,
      bt.track := s.bt.track.map (fun b => b.flagIf (b.hit s.cfg (s.paper + s.cfg.fnNm)) .splice) } := by
  unfold splicePulse Config.spliceMax
  dsimp only
  split <;> rfl

end Sys2Proof.Machine
end

section
namespace Sys2Proof.Proofs

open Sys2Proof.Machine

/-- Settles O54: the table's lines are the branches of `Band.verdictOf`, and the flags its two lists name are all twelve. -/
theorem verdictTable : Obligations.VerdictTable := by
  intro b f
  refine ⟨verdictOf_eq_void_iff b, ?_, ?_, ?_, fun _ => rfl⟩
  · rw [verdictOf_eq_reject_iff, kind_ne_void_iff, hasAny_rejectFlags]
  · rw [verdictOf_eq_suspect_iff, kind_ne_void_iff, hasAny_rejectFlags, hasAny_suspectFlags]
  · rw [verdictOf_eq_good_iff, kind_ne_void_iff, flags_eq_zero_iff]

/-- Settles O23: a splice pulse is one explicit update, whose flag test is the closed drum span of the statement. -/
theorem splicePulse : Obligations.SplicePulse := by
  intro s hp nip h hit
  have hb := command_becomes hp (Becomes.refl (Machine.splicePulse { s with out := [] }))
  have hhit : ∀ b : Band, b.hit s.cfg (s.paper + s.cfg.fnNm) = true ↔ hit b := fun b => by
    rw [hit_iff]
    exact Iff.rfl
  have hbt := hb.bt
  rw [splicePulse_eq] at hb hbt
  refine ⟨_, rfl, by rw [hbt]; exact hb, fun hl => ?_, fun hl => ?_, ?_, fun i b hi => ?_⟩
  · rw [hbt]
    exact ⟨if_pos hl, if_pos hl⟩
  · rw [hbt]
    exact ⟨if_neg (by simpa using hl), if_neg (by simpa using hl)⟩
  · rw [hbt]
    exact List.length_map _
  · have hget : (command Machine.splicePulse s).bt.track[i]? = some (b.flagIf (b.hit s.cfg (s.paper + s.cfg.fnNm)) .splice) := by
      rw [hbt]
      exact (List.getElem?_map ..).trans (by rw [show ({ s with out := [] } : State).bt.track[i]? = some b from hi]; rfl)
    rw [hget, flagIf_splice]
    exact ⟨fun hh => by rw [if_pos ((hhit b).2 hh)], fun hh => by rw [if_neg (fun hc => hh ((hhit b).1 hc))]⟩

end Sys2Proof.Proofs
end

section
/-! Retirement (01 R17, R19): a tally entry found by its handle, what starts a retirement and what does not. -/

namespace Sys2Proof.Machine

/-! ## One tally entry with a handle -/

/-- `e` is the entry, and the only one, with the handle. -/
def OneTally (id : Nat) (e : Tally) (l : List Tally) : Prop := e ∈ l ∧ ∀ y ∈ l, y.id = id ↔ y = e

section
variable {id : Nat} {e : Tally} {l : List Tally}

theorem OneTally.id_eq (h : OneTally id e l) : e.id = id := (h.2 e h.1).2 rfl

theorem OneTally.find (h : OneTally id e l) : l.find? (fun y => y.id = id) = some e := find?_of_unique h.1 h.2

/-- Changing the entries with the handle changes that one entry. -/
theorem OneTally.map_eq (h : OneTally id e l) (f : Tally → Tally) :
    l.map (fun y => if y.id = id then f y else y) = l.map (fun y => if y = e then f e else y) := map_ite_of_unique h.2 f

theorem OneTally.map (h : OneTally id e l) {f : Tally → Tally} (hf : ∀ y, (f y).id = y.id) :
    OneTally id (f e) (l.map (fun y => if y.id = id then f y else y)) := by
  refine ⟨List.mem_map.2 ⟨e, h.1, if_pos h.id_eq⟩, fun y hy => ?_⟩
  obtain ⟨x, hx, rfl⟩ := List.mem_map.1 hy
  by_cases hxe : x.id = id
  · rw [if_pos hxe, (h.2 x hx).1 hxe, hf]
    exact ⟨fun _ => rfl, fun _ => h.id_eq⟩
  · rw [if_neg hxe]
    exact ⟨fun hc => absurd hc hxe, fun hc => absurd (by rw [hc, hf, h.id_eq]) hxe⟩

end

theorem modTally_modTally (id : Nat) (f g : Tally → Tally) (hf : ∀ y, (f y).id = y.id) (s : State) :
    modTally id g (modTally id f s) = modTally id (fun y => g (f y)) s := by
  have : ∀ y : Tally, (if (if y.id = id then f y else y).id = id then g (if y.id = id then f y else y)
      else if y.id = id then f y else y) = if y.id = id then g (f y) else y := fun y => by
    by_cases h : y.id = id <;> simp [h, hf]
  simp [modTally, Function.comp_def, this]

theorem modBand_modBand (n : Nat) (f g : Band → Band) (hf : ∀ b, (f b).number = b.number) (s : State) :
    modBand n g (modBand n f s) = modBand n (fun b => g (f b)) s := by
  have : ∀ b : Band, (if (if b.number = n then f b else b).number = n then g (if b.number = n then f b else b)
      else if b.number = n then f b else b) = if b.number = n then g (f b) else b := fun b => by
    by_cases h : b.number = n <;> simp [h, hf]
  simp [modBand, Function.comp_def, this]

/-! ## The start of a retirement -/

/-- A verdict's count alone, with the mark that no counts write has carried it left as it stands (01 R17). -/
def Tally.counted (v : Verdict) (e : Tally) : Tally := { e with
  good := if v = .good then e.good + 1 else e.good, suspect := if v = .suspect then e.suspect + 1 else e.suspect,
  reject := if v = .reject then e.reject + 1 else e.reject, void := if v = .void then e.void + 1 else e.void }

theorem count_eq (v : Verdict) (e : Tally) : e.count v = { e.counted v with stale := true } := by
  cases v <;> simp [Tally.count, Tally.counted]

@[simp] theorem count_id (v : Verdict) (e : Tally) : (e.count v).id = e.id := by cases v <;> rfl

/-- The tally entry of a record that a full result area has dropped, its counts write asked for (01 R19, R20). -/
def Tally.droppedOne (v : Verdict) (e : Tally) : Tally := { e.counted v with dropped := e.dropped + 1, stale := false }

/-- A retiring band with its verdict stored (01 R17). -/
def Band.judged (b : Band) : Band := { b with verdict := some b.verdictOf }

/-- The state once the retirement of the FINISHED head `b` has started, `e` being its tally entry (01 R17, R19). -/
def State.retirementStarted (b : Band) (rest : List Band) (e : Tally) (s : State) : State :=
  if e.written < e.capacity then
    { s with
      bt.track := b.judged :: rest, bt.retiring := some .record,
      bt.tallies := s.bt.tallies.map (fun y => if y = e then { e.counted b.verdictOf with stale := true } else y),
      smp.writes := s.smp.writes ++ [writeOf .recordWrite (e.area + e.written * 64) (recordWords b.judged)] }
  else
    { s with
      bt.track := b.judged :: rest, bt.retiring := some .counts,
      bt.tallies := s.bt.tallies.map (fun y => if y = e then e.droppedOne b.verdictOf else y),
      smp.writes := s.smp.writes ++
        [writeOf (.countsWrite .retirement) (e.addr + 132) (countsWords (e.droppedOne b.verdictOf))] }

/-- The counts write of the retirement in progress carries the totals of its tally entry (01 R20). -/
theorem startCounts_eq {id : Nat} {e : Tally} {s : State} (h : OneTally id e s.bt.tallies) :
    startCounts id s = { s with
      bt.retiring := some .counts,
      bt.tallies := s.bt.tallies.map (fun y => if y = e then { e with stale := false } else y),
      smp.writes := s.smp.writes ++ [writeOf (.countsWrite .retirement) (e.addr + 132) (countsWords e)] } := by
  have hf : s.tallyOf id = some e := h.find
  have hm := h.map_eq (fun u => { u with stale := false })
  rw [← h.id_eq] at hm
  simp [startCounts, hf, queueCounts, modTally, queueWrite, hm, Tally.resultBody]

/-- A change of the one entry, then its counts write. -/
theorem startCounts_modTally {id : Nat} {e : Tally} {s : State} (h : OneTally id e s.bt.tallies) {f : Tally → Tally}
    (hf : ∀ y, (f y).id = y.id) :
    startCounts id (modTally id f s) = { s with
      bt.retiring := some .counts,
      bt.tallies := s.bt.tallies.map (fun y => if y = e then { f e with stale := false } else y),
      smp.writes := s.smp.writes ++ [writeOf (.countsWrite .retirement) ((f e).addr + 132) (countsWords (f e))] } := by
  have h1 : OneTally id (f e) (modTally id f s).bt.tallies := h.map hf
  have h2 := (modTally_modTally id f (fun u => { u with stale := false }) hf s)
  rw [startCounts_eq h1, ← h1.map_eq (fun u => { u with stale := false })]
  have h3 := congrArg (fun t : State => t.bt.tallies) h2
  simp only [modTally_tallies] at h3
  rw [modTally_tallies, h3, h.map_eq (fun u => { f u with stale := false })]
  rfl

/-- The record write of a retirement, with room in the result area (01 R19). -/
theorem startRecord_write {b : Band} {e : Tally} {s : State} (h : OneTally b.tally e s.bt.tallies) (hl : e.written < e.capacity) :
    startRecord b s =
      { queueWrite (writeOf .recordWrite (e.area + e.written * 64) (recordWords b)) s with bt.retiring := some .record } := by
  have hf : s.tallyOf b.tally = some e := h.find
  simp only [startRecord, hf, if_pos hl]

/-- The record of a retirement is dropped where the result area is full (01 R19). -/
theorem startRecord_drop {b : Band} {e : Tally} {s : State} (h : OneTally b.tally e s.bt.tallies) (hl : ¬e.written < e.capacity) :
    startRecord b s = startCounts b.tally (modTally b.tally (fun u => { u with dropped := u.dropped + 1, stale := true }) s) := by
  have hf : s.tallyOf b.tally = some e := h.find
  simp only [startRecord, hf, if_neg hl]

theorem startRetirement_starts {b : Band} {rest : List Band} {e : Tally} {s : State} (ht : s.bt.track = b :: rest)
    (hb : b.state = .finished) (hr : s.bt.retiring = none) (hs : s.softBlocks = false) (he : OneTally b.tally e s.bt.tallies) :
    startRetirement s = s.retirementStarted b rest e := by
  have hc : ∀ y : Tally, (y.count b.verdictOf).id = y.id := fun y => count_id _ y
  have hm := he.map_eq (Tally.count b.verdictOf)
  have h1 : OneTally b.tally (e.count b.verdictOf) (modTally b.tally (Tally.count b.verdictOf)
      { s with bt.track := b.judged :: rest }).bt.tallies := he.map hc
  have hstart : startRetirement s = startRecord b.judged (modTally b.tally
      (Tally.count b.verdictOf) { s with bt.track := b.judged :: rest }) := by
    unfold startRetirement
    rw [ht]
    exact if_pos ⟨hb, by rw [hr]; rfl, hs⟩
  rw [hstart]
  unfold State.retirementStarted
  by_cases hl : e.written < e.capacity
  · rw [startRecord_write (b := b.judged) (e := e.count b.verdictOf) h1 (by rw [count_eq]; exact hl), if_pos hl]
    rw [count_eq] at hm ⊢
    simp only [modTally, queueWrite]
    rw [hm]
    rfl
  · rw [startRecord_drop (b := b.judged) (e := e.count b.verdictOf) h1 (by rw [count_eq]; exact hl), if_neg hl,
      show b.judged.tally = b.tally from rfl, modTally_modTally _ _ _ hc]
    refine (startCounts_modTally (e := e) ?_ ?_).trans ?_
    · exact he
    · exact fun y => hc y
    · rw [count_eq]
      rfl

/-- None starts while one is in progress, or with a head that is not FINISHED. -/
theorem startRetirement_eq_self {s : State} (h : s.bt.retiring ≠ none ∨ ∀ b ∈ s.bt.track.head?, b.state ≠ .finished) :
    startRetirement s = s := by
  unfold startRetirement
  cases ht : s.bt.track with
  | nil => rfl
  | cons b rest =>
    refine if_neg fun hc => ?_
    obtain ⟨hfin, hnone, -⟩ := hc
    rcases h with hret | hhead
    · exact hret (Option.isNone_iff_eq_none.1 hnone)
    · exact hhead b (by rw [ht]; rfl) hfin

theorem retirementStarted_frame (b : Band) (rest : List Band) (e : Tally) (s : State) :
    Frame [.bt] [] s (s.retirementStarted b rest e) ∧ (s.retirementStarted b rest e).out = s.out ∧
      (s.retirementStarted b rest e).cv = s.cv := by
  unfold State.retirementStarted
  dsimp only
  split
  all_goals
    refine ⟨⟨rfl, rfl, rfl, rfl, rfl, ⟨rfl, rfl, rfl, rfl, rfl⟩, rfl, rfl, fun c hc => ?_⟩, rfl, rfl⟩
    cases c <;> simp_all [SameBlock]

/-- The statements' words for it. -/
theorem retirementStarts_of_eq {b : Band} {rest : List Band} {e : Tally} {u t : State}
    (hbt : t.bt = (u.retirementStarted b rest e).bt) (hw : t.smp.writes = (u.retirementStarted b rest e).smp.writes) :
    RetirementStarts b rest e u t := by
  refine ⟨fun hl => ?_, fun hl => ?_⟩
  · rw [hbt, hw, State.retirementStarted, if_pos hl]
    exact ⟨rfl, rfl⟩
  · rw [hbt, hw, State.retirementStarted, if_neg (by omega)]
    exact ⟨rfl, rfl⟩

theorem retirementStarted_bt_congr {b : Band} {rest : List Band} {e : Tally} {u v : State} (hbt : v.bt = u.bt)
    (hw : v.smp.writes = u.smp.writes) :
    (v.retirementStarted b rest e).bt = (u.retirementStarted b rest e).bt ∧
      (v.retirementStarted b rest e).smp.writes = (u.retirementStarted b rest e).smp.writes := by
  unfold State.retirementStarted
  dsimp only
  split <;> simp [hbt, hw]

/-- A command that ends as the retirement has started. -/
theorem retirementStarted_kick (b : Band) (rest : List Band) (e : Tally) (v : State) :
    Frame [.bt] [] v (kick (v.retirementStarted b rest e)) ∧ RetirementStarts b rest e v (kick (v.retirementStarted b rest e)) ∧
      (kick (v.retirementStarted b rest e)).out = v.out := by
  have hk := kick_becomes (v.retirementStarted b rest e)
  obtain ⟨hf, ho, -⟩ := retirementStarted_frame b rest e v
  exact ⟨by simpa using hf.becomes hk, retirementStarts_of_eq hk.bt hk.writes, hk.out.trans ho⟩

/-- A command that ends in the test for a retirement, from a state that is `v` with the causes `ns` raised: nothing more happens
where none starts, and the head's retirement starts where it is FINISHED (01 R17). -/
theorem retirement_after {v x : State} {ns : List Notice} (hx : Becomes v ns x) :
    ((v.bt.retiring ≠ none ∨ ∀ b ∈ v.bt.track.head?, b.state ≠ .finished) → Becomes v ns (kick (startRetirement x))) ∧
    (∀ (b : Band) (rest : List Band) (e : Tally), v.bt.track = b :: rest → b.state = .finished → v.bt.retiring = none →
      v.softBlocks = false → OneTally b.tally e v.bt.tallies →
      Frame [.bt] ns v (kick (startRetirement x)) ∧ RetirementStarts b rest e v (kick (startRetirement x)) ∧
        (kick (startRetirement x)).out = v.out) := by
  constructor
  · intro h
    rw [startRetirement_eq_self (by rw [hx.bt]; exact h)]
    simpa using hx.trans (kick_becomes x)
  · intro b rest e ht hb hr hs he
    have hsoft : x.softBlocks = false := by
      rw [State.softBlocks, hx.soft]
      exact hs
    rw [startRetirement_starts (by rw [hx.bt]; exact ht) hb (by rw [hx.bt]; exact hr) hsoft (by rw [hx.bt]; exact he)]
    have hk := kick_becomes (x.retirementStarted b rest e)
    obtain ⟨hf, ho, -⟩ := retirementStarted_frame b rest e x
    obtain ⟨hc1, hc2⟩ := retirementStarted_bt_congr (b := b) (rest := rest) (e := e) hx.bt hx.writes
    refine ⟨?_, retirementStarts_of_eq (hk.bt.trans hc1) (hk.writes.trans hc2), hk.out.trans (ho.trans hx.out)⟩
    simpa using ((hx.frame.mono (List.nil_subset _)).trans hf).becomes hk

end Sys2Proof.Machine
end

section
/-! The instrument's replies and timeouts at the Band Tracker (01 R12, 08 R158 to R160). -/

namespace Sys2Proof.Machine

/-! ## A band that is given UNMEASURED and moves on -/

/-- A band CV has done with: from AWAITING on to CLEARING, or FINISHED with its trailing-passed marker (01 R12). -/
def Band.resolved (b : Band) : Band :=
  { b with state := if b.state = .awaiting then (if b.trailing then .finished else .clearing) else b.state }

/-- A band whose reply was INVALID or did not come (08 R158, R160). -/
def Band.givenUp (b : Band) : Band := { b.resolved with flags := b.flags ||| 0x400#12 }

theorem resolve_eq (n : Nat) (s : State) : resolve n s = startRetirement (modBand n Band.resolved s) := by
  have h : (fun b : Band => if b.state = .awaiting then { b with state := if b.trailing then .finished else .clearing } else b) =
      Band.resolved := by
    funext b
    by_cases hb : b.state = .awaiting
    · simp [Band.resolved, hb]
    · rw [if_neg hb, Band.resolved, if_neg hb]
  rw [resolve, h]

theorem resolve_unmeasured (n : Nat) (s : State) :
    resolve n (modBand n (Band.flag .unmeasured) s) = startRetirement (modBand n Band.givenUp s) := by
  rw [resolve_eq, modBand_modBand n (Band.flag .unmeasured) _ (fun _ => rfl)]
  rfl

theorem givenUp_givenUp (b : Band) : b.givenUp.givenUp = b.givenUp := by
  have hstate : b.givenUp.givenUp.state = b.givenUp.state := by
    simp only [Band.givenUp, Band.resolved]
    split_ifs <;> simp_all
  have hflags : b.givenUp.givenUp.flags = b.givenUp.flags := by simp [Band.givenUp, BitVec.or_assoc]
  have hother : b.givenUp.givenUp = { b.givenUp with state := b.givenUp.givenUp.state, flags := b.givenUp.givenUp.flags } := rfl
  rw [hother, hstate, hflags]

/-- A band is given up where its number is on a list. -/
def giveUp (ns : List Nat) (b : Band) : Band := if b.number ∈ ns then b.givenUp else b

theorem giveUp_giveUp (ns ms : List Nat) (b : Band) : giveUp ms (giveUp ns b) = giveUp (ns ++ ms) b := by
  have hn : b.givenUp.number = b.number := rfl
  unfold giveUp
  by_cases h1 : b.number ∈ ns <;> by_cases h2 : b.number ∈ ms <;> simp [h1, h2, hn, givenUp_givenUp]

theorem giveUp_of_mem {ns : List Nat} {b : Band} (h : b.number ∈ ns) : giveUp ns b = b.givenUp := if_pos h

theorem giveUp_of_not_mem {ns : List Nat} {b : Band} (h : b.number ∉ ns) : giveUp ns b = b := if_neg h

theorem modBand_givenUp (n : Nat) (s : State) :
    modBand n Band.givenUp s = { s with bt.track := s.bt.track.map (giveUp [n]) } := by
  have h : (fun b : Band => if b.number = n then b.givenUp else b) = giveUp [n] := by
    funext b
    simp [giveUp]
  rw [modBand, h]

/-- The head of the track once the band with a number has been changed. -/
theorem modBand_head {n : Nat} {f : Band → Band} {s : State} {b : Band} (h : b ∈ (modBand n f s).bt.track.head?) :
    ∃ a ∈ s.bt.track.head?, b = if a.number = n then f a else a := by
  rw [modBand_track, List.head?_map, Option.mem_map] at h
  obtain ⟨a, ha, rfl⟩ := h
  exact ⟨a, ha, rfl⟩

theorem resolved_state_ne_awaiting (b : Band) : b.resolved.state ≠ .awaiting := by
  simp only [Band.resolved]
  split_ifs <;> simp_all

theorem resolved_state_ne_finished {b : Band} (hb : b.state ≠ .finished) (ht : b.state = .awaiting → b.trailing = false) :
    b.resolved.state ≠ .finished := by
  simp only [Band.resolved]
  split_ifs <;> simp_all

theorem State.noneStarts.head {ns : List Nat} {s : State} (h : s.noneStarts ns) :
    s.bt.retiring ≠ none ∨ ∀ b ∈ s.bt.track.head?, b.state ≠ .finished := h.imp id fun hh b hb => (hh b hb).1

/-- A band that is moved on, on the list of those that start no retirement, starts none and leaves none to the rest of the list. -/
theorem State.noneStarts.modBand {n : Nat} {ns : List Nat} {s : State} {f : Band → Band} (h : s.noneStarts (n :: ns))
    (hf : ∀ b, (f b).state = b.resolved.state) : (modBand n f s).noneStarts ns := by
  refine h.imp id fun hh b hb => ?_
  obtain ⟨a, ha, rfl⟩ := modBand_head hb
  obtain ⟨hfin, htrail⟩ := hh a ha
  by_cases hn : a.number = n
  · rw [if_pos hn, hf]
    exact ⟨resolved_state_ne_finished hfin (htrail (by simp [hn])), fun _ hc => absurd hc (resolved_state_ne_awaiting a)⟩
  · rw [if_neg hn]
    exact ⟨hfin, fun hm => htrail (by simp [hm])⟩

/-! ## Timeouts of the Outstanding Trigger List (08 R160) -/

/-- The state once the entries `gone` have timed out and no retirement has started. -/
def State.timedOut (gone rest : List Trigger) (s : State) : State :=
  { s with cv.list := rest, bt.track := s.bt.track.map (giveUp (gone.map Trigger.band)) }

theorem timeoutHead_due {e : Trigger} {rest : List Trigger} {s : State} (hl : s.cv.list = e :: rest) (hd : e.deadline ≤ s.now) :
    timeoutHead s = startRetirement (modBand e.band Band.givenUp { s with cv.list := rest }) := by
  unfold timeoutHead
  rw [hl]
  exact (if_pos hd).trans (resolve_unmeasured _ _)

/-- Entries that are due leave one by one; while none of their bands makes the head FINISHED nothing more comes of them. -/
theorem times_timeoutHead (gone rest : List Trigger) (k : Nat) (s : State) (hl : s.cv.list = gone ++ rest)
    (hd : ∀ e ∈ gone, e.deadline ≤ s.now) (hn : s.noneStarts (gone.map Trigger.band)) :
    times (gone.length + k) timeoutHead s = times k timeoutHead (s.timedOut gone rest) := by
  induction gone generalizing s with
  | nil =>
    have : s.timedOut [] rest = s := by
      have hid : giveUp (([] : List Trigger).map Trigger.band) = id := by
        funext b
        simp [giveUp]
      have hrest : rest = s.cv.list := by rw [hl]; rfl
      rw [State.timedOut, hid, List.map_id, hrest]
    rw [this]
    simp
  | cons e gone ih =>
    have hrest : (modBand e.band Band.givenUp { s with cv.list := gone ++ rest }).noneStarts (gone.map Trigger.band) :=
      State.noneStarts.modBand (s := { s with cv.list := gone ++ rest }) hn (fun _ => rfl)
    have hstep : timeoutHead s = modBand e.band Band.givenUp { s with cv.list := gone ++ rest } := by
      rw [timeoutHead_due hl (hd e (by simp))]
      exact startRetirement_eq_self hrest.head
    rw [List.length_cons, Nat.add_right_comm, times, hstep, ih]
    · simp [State.timedOut, modBand_givenUp, Function.comp_def, giveUp_giveUp]
    · rfl
    · exact fun x hx => hd x (by simp [hx])
    · exact hrest

/-- An entry that is not due holds up those behind it. -/
theorem times_timeoutHead_idle (k : Nat) (s : State) (h : ∀ e ∈ s.cv.list.head?, s.now < e.deadline) :
    times k timeoutHead s = s := by
  have hself : timeoutHead s = s := by
    unfold timeoutHead
    split
    · rfl
    · next e rest hl => exact if_neg (by have := h e (by rw [hl]; rfl); omega)
  induction k with
  | zero => rfl
  | succ k ih => rw [times, hself, ih]

theorem timedOut_timedOut (pre post r1 r2 : List Trigger) (s : State) :
    (s.timedOut pre r1).timedOut post r2 = s.timedOut (pre ++ post) r2 := by
  simp [State.timedOut, Function.comp_def, giveUp_giveUp]

theorem retirementStarted_retiring (b : Band) (tl : List Band) (y : Tally) (s : State) :
    (s.retirementStarted b tl y).bt.retiring ≠ none := by
  unfold State.retirementStarted
  split <;> simp

/-- Timeouts of other bands leave a retirement in progress alone. -/
theorem retirementStarted_timedOut {b : Band} {gone rest : List Trigger} (h : b.number ∉ gone.map Trigger.band) (tl : List Band)
    (y : Tally) (s : State) : (s.retirementStarted b tl y).timedOut gone rest =
      (s.timedOut gone rest).retirementStarted b (tl.map (giveUp (gone.map Trigger.band))) y := by
  have hb : giveUp (gone.map Trigger.band) b.judged = b.judged := giveUp_of_not_mem h
  unfold State.retirementStarted State.timedOut
  split <;> simp [hb]

theorem softBlocks_of_off {s : State} (h : s.smp.soft = .off) : s.softBlocks = false := by rw [State.softBlocks, h]

/-- The timeout of the AWAITING head with its trailing-passed marker, among the entries that are due: its retirement starts, and what
the entries behind it bring leaves the retirement alone (01 R12, R17, 08 R160). -/
theorem times_timeoutHead_retires {pre post rest : List Trigger} {e : Trigger} {b : Band} {tl : List Band} {y : Tally} {s : State}
    (hl : s.cv.list = (pre ++ e :: post) ++ rest) (hd : ∀ x ∈ pre ++ e :: post, x.deadline ≤ s.now)
    (hne : ∀ x ∈ pre ++ post, x.band ≠ b.number) (heb : e.band = b.number) (ht : s.bt.track = b :: tl)
    (hb : b.state = .awaiting) (htr : b.trailing = true) (hr : s.bt.retiring = none) (hs : s.smp.soft = .off)
    (hy : OneTally b.tally y s.bt.tallies) (k : Nat) :
    times ((pre ++ e :: post).length + k) timeoutHead s =
      times k timeoutHead ((s.timedOut (pre ++ e :: post) rest).retirementStarted b.givenUp
        (tl.map (giveUp ((pre ++ e :: post).map Trigger.band))) y) := by
  have hpre : b.number ∉ pre.map Trigger.band := fun hc => by
    obtain ⟨x, hx, hxb⟩ := List.mem_map.1 hc
    exact hne x (List.mem_append_left _ hx) hxb
  have hpost : b.number ∉ post.map Trigger.band := fun hc => by
    obtain ⟨x, hx, hxb⟩ := List.mem_map.1 hc
    exact hne x (List.mem_append_right _ hx) hxb
  have hn1 : s.noneStarts (pre.map Trigger.band) := Or.inr fun a ha => by
    obtain rfl : b = a := by simpa [ht] using ha
    exact ⟨by rw [hb]; decide, fun hc => absurd hc hpre⟩
  have hfin : b.givenUp.state = .finished := by simp [Band.givenUp, Band.resolved, hb, htr]
  have hone : giveUp [e.band] b = b.givenUp := giveUp_of_mem (by simp [heb])
  rw [List.length_append, Nat.add_assoc, times_timeoutHead pre (e :: (post ++ rest)) _ s (by simp [hl])
    (fun x hx => hd x (by simp [hx])) hn1, List.length_cons, Nat.add_right_comm, times]
  have hstep : timeoutHead (s.timedOut pre (e :: (post ++ rest))) =
      (s.timedOut (pre ++ [e]) (post ++ rest)).retirementStarted b.givenUp
        (tl.map (giveUp ((pre ++ [e]).map Trigger.band))) y := by
    rw [timeoutHead_due (s := s.timedOut pre (e :: (post ++ rest))) rfl (hd e (by simp)), modBand_givenUp]
    refine (startRetirement_starts (b := b.givenUp) (rest := tl.map (giveUp ((pre ++ [e]).map Trigger.band))) (e := y) ?_ ?_ ?_ ?_
      ?_).trans ?_
    · simp [State.timedOut, ht, Function.comp_def, giveUp_giveUp, giveUp_of_mem, heb]
    · exact hfin
    · exact hr
    · exact softBlocks_of_off (s := s) hs
    · exact hy
    · unfold State.retirementStarted
      simp [State.timedOut]
  have hcv := (retirementStarted_frame b.givenUp (tl.map (giveUp ((pre ++ [e]).map Trigger.band))) y
    (s.timedOut (pre ++ [e]) (post ++ rest)))
  obtain ⟨⟨-, -, hnow, -⟩, -, hcv⟩ := hcv
  rw [hstep, times_timeoutHead post rest k _ (by rw [hcv]; rfl) (fun x hx => by rw [hnow]; exact hd x (by simp [hx]))
      (Or.inl (retirementStarted_retiring _ _ _ _)), retirementStarted_timedOut (by exact hpost), timedOut_timedOut]
  simp [Function.comp_def, giveUp_giveUp]

/-- TRIGGER_TIMEOUT with none due. -/
theorem triggerTimeouts_idle {s : State} (h : ∀ e ∈ s.cv.list.head?, s.now < e.deadline) : triggerTimeouts s = s :=
  times_timeoutHead_idle _ s h

section
variable {gone rest : List Trigger} {s : State} (hl : s.cv.list = gone ++ rest) (hd : ∀ e ∈ gone, e.deadline ≤ s.now)
  (hrest : ∀ e ∈ rest.head?, s.now < e.deadline)
include hl hd hrest

/-- TRIGGER_TIMEOUT, where no retirement starts. -/
theorem triggerTimeouts_timedOut (hn : s.noneStarts (gone.map Trigger.band)) : triggerTimeouts s = s.timedOut gone rest := by
  rw [triggerTimeouts, hl, List.length_append, times_timeoutHead gone rest _ s hl hd hn]
  exact times_timeoutHead_idle _ _ hrest

/-- TRIGGER_TIMEOUT, where the retirement of the head starts. -/
theorem triggerTimeouts_retires {pre post : List Trigger} {e : Trigger} {b : Band} {tl : List Band} {y : Tally}
    (hg : gone = pre ++ e :: post) (hne : ∀ x ∈ pre ++ post, x.band ≠ b.number) (heb : e.band = b.number)
    (ht : s.bt.track = b :: tl) (hb : b.state = .awaiting) (htr : b.trailing = true) (hr : s.bt.retiring = none)
    (hs : s.smp.soft = .off) (hy : OneTally b.tally y s.bt.tallies) :
    triggerTimeouts s =
      (s.timedOut gone rest).retirementStarted b.givenUp (tl.map (giveUp (gone.map Trigger.band))) y := by
  subst hg
  rw [triggerTimeouts, hl, List.length_append, times_timeoutHead_retires hl hd hne heb ht hb htr hr hs hy]
  obtain ⟨⟨-, -, hnow, -⟩, -, hcv⟩ := retirementStarted_frame b.givenUp
    (tl.map (giveUp ((pre ++ e :: post).map Trigger.band))) y (s.timedOut (pre ++ e :: post) rest)
  exact times_timeoutHead_idle _ _ (by rw [hcv, hnow]; exact hrest)

end

/-- The sum byte of a MEASURE frame makes its sum 0 (11, 11.7). -/
theorem measureBytes_eq (m : Nat) :
    measureBytes m = [0xA5, 0x01, 0x01, BitVec.ofNat 8 m, sumByte [0x01, 0x01, BitVec.ofNat 8 m]] ∧
      1 + 1 + BitVec.ofNat 8 m + sumByte [0x01, 0x01, BitVec.ofNat 8 m] = 0 := by
  refine ⟨rfl, ?_⟩
  simp only [sumByte, List.foldl]
  bv_omega

end Sys2Proof.Machine
end

section
namespace Sys2Proof.Proofs

open Sys2Proof.Machine

/-- Settles O43: the timeouts are taken entry by entry along the list, up to the one that is not due. -/
theorem instrumentTimers : Obligations.InstrumentTimers := by
  intro s hp
  refine ⟨fun hon h5 => ?_, fun hoff => ?_, fun gone rest hl hd hrest => ?_, fun hnot => ?_, fun n m rest hq => ?_,
    fun hq => ?_⟩
  · refine ⟨_, rfl, command_becomes hp ?_⟩
    rw [show instrumentSilence { s with out := [] } = { s with out := [], cv.status := .notReady, cv.silenceOn := false } from
      if_pos (by simp [hon, h5])]
    exact Becomes.refl _
  · refine ⟨_, rfl, command_becomes hp ?_⟩
    rw [show instrumentSilence { s with out := [] } = { s with out := [] } from
      if_neg (by simp only [Bool.and_eq_true, decide_eq_true_eq]; rintro ⟨hon, h5⟩; simp [hon] at hoff; omega)]
    exact Becomes.refl _
  · constructor
    · intro hn
      refine ⟨_, rfl, command_becomes hp ?_⟩
      rw [triggerTimeouts_timedOut (s := { s with out := [] }) hl hd hrest hn]
      exact Becomes.refl _
    · intro pre post e b tl y hgone hne heb ht hb htr hr hs hy hone v
      have hmem : b.number ∈ gone.map Trigger.band := by simp [hgone, heb]
      have hrun : triggerTimeouts { s with out := [] } =
          v.retirementStarted b.givenUp (tl.map (giveUp (gone.map Trigger.band))) y :=
        triggerTimeouts_retires (s := { s with out := [] }) hl hd hrest hgone hne heb ht hb htr hr hs ⟨hy, hone⟩
      have hdone := retirementStarted_kick b.givenUp (tl.map (giveUp (gone.map Trigger.band))) y v
      rw [← hrun, ← command_eq hp, ← giveUp_of_mem hmem] at hdone
      exact ⟨_, rfl, hdone⟩
  · refine ⟨_, rfl, command_becomes hp ?_⟩
    rw [triggerTimeouts_idle (s := { s with out := [] }) (fun e he => hnot e (List.mem_of_mem_head? he))]
    exact Becomes.refl _
  · obtain ⟨hbytes, hsum⟩ := measureBytes_eq m
    refine ⟨_, _, rfl, hsum, command_becomes hp ?_⟩
    rw [← hbytes]
    simp only [measureSent, hq, List.tail_cons]
    exact Becomes.refl _
  · have htail : s.cv.txq.tail = [] := List.eq_nil_of_length_eq_zero (by rw [List.length_tail]; omega)
    refine ⟨_, rfl, command_becomes hp ?_⟩
    simp only [measureSent, htail]
    exact Becomes.refl _

end Sys2Proof.Proofs
end

section
/-! REPLY frames (08 R153, R158, R159, R162, R163) and the trim they bring (04 R80, R81). -/

namespace Sys2Proof.Machine

/-! ## The frame -/

theorem gapTest_onTime {s : State} (h : s.onTime) : gapTest s = s := by
  have : s.gapPassed = false := by
    unfold State.gapPassed
    rcases h with h | h
    · simp [h]
    · simp [h]
  rw [gapTest, this]
  rfl

/-- Two bytes of a payload as a signed value, the low one first (11, 11.7). -/
theorem signedBytes_eq (lo hi : Byte) : signedBytes lo hi = (hi ++ lo : BitVec 16).toInt := by
  have h : (hi ++ lo : BitVec 16).toNat = lo.toNat + hi.toNat * 256 := by
    rw [BitVec.toNat_append, Nat.shiftLeft_eq, ← Nat.shiftLeft_eq, ← Nat.shiftLeft_add_eq_or_of_lt lo.isLt, Nat.shiftLeft_eq]
    omega
  rw [BitVec.toInt_eq_toNat_cond, h, signedBytes, signed16]
  split_ifs <;> omega

/-- The last byte of a REPLY frame with a good sum and status 0 or 1 (08 R153). -/
theorem receive_reply {p : List Byte} {b : Byte} (hlen : p.length = 8) (hsum : 2 + 8 + p.foldl (· + ·) 0 + b = 0)
    (hst : p.getD 1 0 = 0 ∨ p.getD 1 0 = 1) :
    receive (.body 2 8 p) b false = .reply (p.getD 0 0).toNat (p.getD 1 0 == 0) (signedBytes (p.getD 2 0) (p.getD 3 0))
      (signedBytes (p.getD 4 0) (p.getD 5 0)) (signedBytes (p.getD 6 0) (p.getD 7 0)) := by
  have hrec : receive (.body 2 8 p) b false = acceptFrame 2 p :=
    (if_neg (Nat.not_lt.2 hlen.ge)).trans (if_pos hsum)
  rw [hrec]
  exact (if_neg (by decide)).trans (if_pos hst)

/-- REPLY_FRAME brings the reply to CV with the receiver hunting and the silence timer restarted (08 R153). -/
theorem replyFrame_eq {p : List Byte} {b : Byte} {s : State} (hp : s.pins.powerGood = true) (hon : s.onTime)
    (hrx : s.cv.rx = .body 2 8 p) (hlen : p.length = 8) (hsum : 2 + 8 + p.foldl (· + ·) 0 + b = 0)
    (hst : p.getD 1 0 = 0 ∨ p.getD 1 0 = 1) :
    exec (.replyFrame b) s = .next (kick (replyArrival (p.getD 0 0).toNat (p.getD 1 0 == 0)
      (p.getD 3 0 ++ p.getD 2 0 : BitVec 16).toInt (p.getD 5 0 ++ p.getD 4 0 : BitVec 16).toInt
      (p.getD 7 0 ++ p.getD 6 0 : BitVec 16).toInt
      { s with out := [], cv.rx := .hunting, cv.rxGap := 0, cv.silenceOn := true, cv.silence := 0 })) := by
  have hgap : gapTest { s with out := [] } = { s with out := [] } := gapTest_onTime hon
  have hrec : receive s.cv.rx b false = _ := hrx ▸ receive_reply hlen hsum hst
  have hby : byteWhere ByteResult.isReply b false { s with out := [] } = takeByte b false { s with out := [] } := by
    refine if_pos ?_
    rw [State.byteResult, hgap, hrec]
    rfl
  rw [show exec (.replyFrame b) s = .next (command (byteWhere ByteResult.isReply b false) s) from rfl, command_eq hp, hby, takeByte,
    hgap]
  dsimp only
  rw [hrec]
  simp only [signedBytes_eq]
  rfl

/-! ## Drift and trim -/

/-- A measured band counted toward drift (08 R162, R163). -/
theorem countDrift_becomes (fail : Prop) [Decidable fail] (s : State) :
    let sets := s.cv.drift = false ∧ fail ∧ 2 ≤ s.cv.failRun
    let clears := s.cv.drift = true ∧ ¬fail ∧ 15 ≤ s.cv.passRun
    Becomes { s with
      cv.drift := if sets then true else if clears then false else s.cv.drift,
      cv.failRun := if sets ∨ clears then 0 else if s.cv.drift = true then s.cv.failRun else if fail then s.cv.failRun + 1 else 0,
      cv.passRun := if sets ∨ clears then 0 else if s.cv.drift = false then s.cv.passRun
        else if fail then 0 else s.cv.passRun + 1 }
      (if sets ∨ (clears ∧ s.cfg.driftEdge = .both) then [.drift] else []) (countDrift (decide fail) s) := by
  intro sets clears
  by_cases hsets : sets
  · obtain ⟨hd, hf, hr⟩ := hsets
    have h : countDrift (decide fail) s = raise .drift { s with cv.drift := true, cv.failRun := 0, cv.passRun := 0 } := by
      simp [countDrift, driftSetTest, hd, hf, show 3 ≤ s.cv.failRun + 1 by omega]
    have hs : sets := ⟨hd, hf, hr⟩
    rw [h]
    simp only [hs, true_or, if_true]
    exact raise_becomes _ _
  by_cases hclears : clears
  · obtain ⟨hd, hf, hr⟩ := hclears
    have h : countDrift (decide fail) s = raiseIf (s.cfg.driftEdge == .both) .drift
        { s with cv.drift := false, cv.failRun := 0, cv.passRun := 0 } := by
      simp [countDrift, driftClearTest, hd, hf, show 16 ≤ s.cv.passRun + 1 by omega]
    have hc : clears := ⟨hd, hf, hr⟩
    rw [h]
    simp only [hsets, hc, false_or, or_true, true_and, if_true, if_false]
    simpa using raiseIf_becomes (s.cfg.driftEdge == .both) .drift { s with cv.drift := false, cv.failRun := 0, cv.passRun := 0 }
  · have h : countDrift (decide fail) s = { s with
        cv.failRun := if s.cv.drift = true then s.cv.failRun else if fail then s.cv.failRun + 1 else 0,
        cv.passRun := if s.cv.drift = false then s.cv.passRun else if fail then 0 else s.cv.passRun + 1 } := by
      cases hd : s.cv.drift with
      | false =>
        have : ¬3 ≤ (if fail then s.cv.failRun + 1 else 0) := by
          split
          · next hf => exact fun hc => hsets ⟨hd, hf, by omega⟩
          · omega
        simp [countDrift, driftSetTest, hd, this]
      | true =>
        have : ¬16 ≤ (if fail then 0 else s.cv.passRun + 1) := by
          split
          · omega
          · next hf => exact fun hc => hclears ⟨hd, hf, by omega⟩
        simp [countDrift, driftClearTest, hd, this]
    rw [h]
    simp only [hsets, hclears, false_or, false_and, if_false]
    exact Becomes.refl _

/-- A profile slot after the trim step for a band's measurement (04 R81). -/
def ProfileSlot.trimmed (b : Band) (m : Measurement) (q : ProfileSlot) : ProfileSlot :=
  { q with tau := trimNext q.tau (trimStep m.l b.lt q.prof.gain) }

/-- The Profile Store after the trim request of a band with a measurement (04 R80, R81). -/
def Store.trimFor (b : Band) (m : Measurement) (p : Store) : Store :=
  { p with slots := if trimFresh (p.slots.get b.slot) b = true
      then p.slots.set b.slot ((p.slots.get b.slot).trimmed b m) else p.slots }

theorem trimRequest_eq {n : Nat} {b : Band} {m : Measurement} {s : State} (hb : s.bandOf n = some b) (hm : b.meas = some m) :
    trimRequest n s = { s with ps := s.ps.trimFor b m } := by
  simp only [trimRequest, hb, hm, Store.trimFor]
  split <;> rfl

/-- The flags that bar a band from the trim are the low eight. -/
theorem hasAny_trimBars (b : Band) : b.hasAny trimBars = false ↔ b.flags &&& 0x0FF#12 = 0 := by
  have hbits : b.hasAny trimBars = false ↔ ∀ i, i < 8 → b.flags.getLsbD i = false := by
    simp only [Band.hasAny, trimBars, Band.has, List.any_cons, List.any_nil, Flag.place, Bool.or_eq_false_iff]
    constructor
    · rintro ⟨h3, h2, h0, h1, h4, h5, h6, h7, -⟩ i hi
      interval_cases i <;> assumption
    · exact fun h => ⟨h 3 (by decide), h 2 (by decide), h 0 (by decide), h 1 (by decide), h 4 (by decide), h 5 (by decide),
        h 6 (by decide), h 7 (by decide), trivial⟩
  have hmask : ∀ i, i < 12 → (0x0FF#12).getLsbD i = decide (i < 8) := by decide
  rw [hbits]
  constructor
  · intro h
    apply BitVec.eq_of_getLsbD_eq
    intro i hi
    by_cases h8 : i < 8 <;> simp [hmask i hi, h8, h]
  · intro h i hi
    have hand : (b.flags &&& 0x0FF#12).getLsbD i = false := by rw [h]; simp
    simpa [hmask i (by omega), hi] using hand

/-- The step of the statement (04 R81). -/
theorem trimmed_eq (b : Band) (m : Measurement) (q : ProfileSlot) : q.trimmed b m =
    { q with tau := max (-256) (min (q.tau + max (-16) (min (Int.fdiv ((m.l - b.lt) * q.prof.gain) 256) 16)) 255) } := by
  rw [Int.fdiv_eq_ediv_of_nonneg _ (by decide)]
  rfl

/-! ## The one band a reply is for -/

/-- `r` is the band, and the only one, with the number. -/
def OneBand (n : Nat) (r : Band) (l : List Band) : Prop := r ∈ l ∧ ∀ y ∈ l, y.number = n ↔ y = r

section
variable {n : Nat} {r : Band} {s : State} (h : OneBand n r s.bt.track)
include h

theorem OneBand.bandOf_modBand {f : Band → Band} (hf : ∀ b, (f b).number = b.number) :
    (Machine.modBand n f s).bandOf n = some (f r) := by
  have hr : r.number = n := (h.2 r h.1).2 rfl
  have hfind : ((fun y : Band => decide (y.number = n)) ∘ fun y => if y.number = n then f y else y) =
      fun y => decide (y.number = n) := by
    funext y
    by_cases hy : y.number = n <;> simp [hy, hf]
  rw [State.bandOf, modBand_track, List.find?_map, hfind, find?_of_unique h.1 h.2]
  simp [hr]

theorem OneBand.modBand (f : Band → Band) : Machine.modBand n f s =
    { s with bt.track := s.bt.track.map (fun y => if y = r then f r else y) } := by
  rw [Machine.modBand, map_ite_of_unique h.2 f]

end

theorem measure_eq (l a b : Int) (r : Band) : r.measure l a b =
    { r with meas := some ⟨l, a, b, patchError l a b r.lt r.at_ r.bt⟩,
             flags := if r.colourTol < patchError l a b r.lt r.at_ r.bt then r.flags ||| 0x800#12 else r.flags } := by
  unfold Band.measure Band.flagIf
  by_cases hc : r.colourTol < patchError l a b r.lt r.at_ r.bt
  · simp only [hc, decide_true, if_true]
    rfl
  · simp only [hc, decide_false, if_false]
    rfl

theorem measure_has_colourFail {l a b : Int} {r : Band} (h : r.flags.getLsbD 11 = false) :
    (r.measure l a b).has .colourFail = decide (r.colourTol < patchError l a b r.lt r.at_ r.bt) := by
  rw [measure_eq, Band.has, Flag.place]
  dsimp only
  split
  · next hc => simp [hc]
  · next hc => rw [h, decide_eq_false hc]

/-- The conditions of a trim look at nothing that a measurement changes but that there is one (04 R80). -/
theorem trimFresh_measure (l a b : Int) (r : Band) (q : ProfileSlot) : trimFresh q (r.measure l a b) = true ↔
    q.prof.trimOn = true ∧ r.kind = .printed ∧ r.flags &&& 0x0FF#12 = 0 ∧ r.gen = q.gen ∧ r.tau = q.tau := by
  have hflags : (r.measure l a b).flags &&& 0x0FF#12 = r.flags &&& 0x0FF#12 := by
    rw [measure_eq]
    split
    · rw [BitVec.and_or_distrib_right]
      simp
    · rfl
  have hbars : (r.measure l a b).hasAny trimBars = false ↔ r.flags &&& 0x0FF#12 = 0 := by rw [hasAny_trimBars, hflags]
  unfold trimFresh
  rw [Bool.and_eq_true, Bool.and_eq_true, Bool.and_eq_true, Bool.and_eq_true, Bool.and_eq_true, Bool.not_eq_true', hbars]
  simp [measure_eq, and_assoc]

/-- The trim a measurement of `r` brings. -/
theorem trimFor_measure (l a b : Int) (r : Band) (m : Measurement) (p : Store) :
    let q := p.slots.get r.slot
    let fresh := q.prof.trimOn = true ∧ r.kind = .printed ∧ r.flags &&& 0x0FF#12 = 0 ∧ r.gen = q.gen ∧ r.tau = q.tau
    p.trimFor (r.measure l a b) m = { p with slots := if fresh then p.slots.set r.slot (q.trimmed r m) else p.slots } := by
  intro q fresh
  have hslot : (r.measure l a b).slot = r.slot := by rw [measure_eq]
  have htrim : q.trimmed (r.measure l a b) m = q.trimmed r m := by rw [measure_eq]; rfl
  rw [Store.trimFor, hslot, htrim]
  exact congrArg (fun x => { p with slots := x }) (if_congr (trimFresh_measure l a b r q) rfl rfl)

/-- A command that ends as the band `r` is moved on, `r'` in its place, from a state that is `v` with the causes `ns` raised (01 R12,
R17). -/
theorem resolve_settles {s v x : State} {r r' : Band} {ns : List Notice} (hx : Becomes v ns x)
    (hst : r'.state = r.resolved.state) (htally : r'.tally = r.tally)
    (haw : r.state = .awaiting)
    (hbt : v.bt = { s.bt with track := s.bt.track.map (fun y => if y = r then r' else y) }) (hsoft : v.smp.soft = s.smp.soft) :
    (s.noneStarts [r.number] → Becomes v ns (kick (startRetirement x))) ∧
    (∀ (tl : List Band) (y : Tally), s.bt.track = r :: tl → r.trailing = true → s.bt.retiring = none → s.smp.soft = .off →
      y ∈ s.bt.tallies → (∀ z ∈ s.bt.tallies, z.id = r.tally ↔ z = y) →
      Frame [.bt] ns v (kick (startRetirement x)) ∧
        RetirementStarts r' (tl.map (fun z => if z = r then r' else z)) y v (kick (startRetirement x)) ∧
        (kick (startRetirement x)).out = v.out) := by
  obtain ⟨hnone, hstarts⟩ := retirement_after hx
  constructor
  · intro hn
    refine hnone ?_
    rw [hbt]
    refine hn.imp id fun hh b hb => ?_
    obtain ⟨a, ha, rfl⟩ : ∃ a ∈ s.bt.track.head?, (if a = r then r' else a) = b := by simpa using hb
    obtain ⟨hfin, htrail⟩ := hh a ha
    by_cases har : a = r
    · rw [if_pos har, hst, ← har]
      exact resolved_state_ne_finished hfin (htrail (by simp [har]))
    · rw [if_neg har]
      exact hfin
  · intro tl y ht htr hr hs hy hu
    refine hstarts r' _ y ?_ ?_ ?_ ?_ ?_
    · simp [hbt, ht]
    · simp [hst, Band.resolved, haw, htr]
    · rw [hbt]
      exact hr
    · exact softBlocks_of_off (hsoft.trans hs)
    · rw [hbt, htally]
      exact ⟨hy, hu⟩

/-- A reply whose sequence number is on the list (08 R158). -/
theorem replyArrival_found {seq : Nat} {ok : Bool} {l a m : Int} {e : Trigger} {s : State}
    (he : s.cv.list.find? (fun y => y.seq = seq) = some e) : replyArrival seq ok l a m s =
      takeReply e.band ok l a m { s with cv.list := s.cv.list.filter (fun y => y.seq ≠ e.seq) } := by
  have hseq : e.seq = seq := by simpa using List.find?_some he
  rw [replyArrival, he, ← hseq]
  simp only [bne, ← decide_not, beq_eq_decide]

/-- A reply whose sequence number is not on the list is late (08 R159). -/
theorem replyArrival_late {seq : Nat} {ok : Bool} {l a m : Int} {s : State} (h : ∀ e ∈ s.cv.list, e.seq ≠ seq) :
    replyArrival seq ok l a m s = { s with cv.late := min 4294967295 (s.cv.late + 1) } := by
  rw [replyArrival, List.find?_eq_none.2 (by simpa using h)]
  rfl

/-- An INVALID reply to the one band with its number (08 R158). -/
theorem takeReply_invalid {r : Band} {l a m : Int} {s : State} (h : OneBand r.number r s.bt.track) :
    takeReply r.number false l a m s = startRetirement
      { s with bt.track := s.bt.track.map (fun y => if y = r then r.givenUp else y) } := by
  rw [takeReply, if_neg (by simp), resolve_unmeasured, h.modBand]

/-- What a measurement of `r` leaves before the retirement test: drift counted, the slot trimmed, the band moved on (08 R158, step 3
and 4, R162, 04 R80). -/
theorem takeReply_ok {r : Band} {l a m : Int} {s : State} (h : OneBand r.number r s.bt.track) (h11 : r.flags.getLsbD 11 = false) :
    let fail := r.colourTol < patchError l a m r.lt r.at_ r.bt
    let q := s.ps.slots.get r.slot
    let fresh := q.prof.trimOn = true ∧ r.kind = .printed ∧ r.flags &&& 0x0FF#12 = 0 ∧ r.gen = q.gen ∧ r.tau = q.tau
    let sets := s.cv.drift = false ∧ fail ∧ 2 ≤ s.cv.failRun
    let clears := s.cv.drift = true ∧ ¬fail ∧ 15 ≤ s.cv.passRun
    ∃ x, takeReply r.number true l a m s = startRetirement x ∧
      Becomes { s with
        cv.drift := if sets then true else if clears then false else s.cv.drift,
        cv.failRun := if sets ∨ clears then 0 else if s.cv.drift = true then s.cv.failRun else if fail then s.cv.failRun + 1 else 0,
        cv.passRun := if sets ∨ clears then 0 else if s.cv.drift = false then s.cv.passRun
          else if fail then 0 else s.cv.passRun + 1,
        ps.slots := if fresh then s.ps.slots.set r.slot (q.trimmed r ⟨l, a, m, patchError l a m r.lt r.at_ r.bt⟩)
          else s.ps.slots,
        bt.track := s.bt.track.map (fun y => if y = r then (r.measure l a m).resolved else y) }
        (if sets ∨ (clears ∧ s.cfg.driftEdge = .both) then [.drift] else []) x := by
  intro fail q fresh sets clears
  have hmeas : ∀ b : Band, (b.measure l a m).number = b.number := fun b => by rw [measure_eq]
  have hband : (modBand r.number (Band.measure l a m) s).bandOf r.number = some (r.measure l a m) := h.bandOf_modBand hmeas
  have hfail : (modBand r.number (Band.measure l a m) s).measuredFail r.number = decide fail := by
    rw [State.measuredFail, hband]
    exact measure_has_colourFail h11
  have hdrift := countDrift_becomes fail (modBand r.number (Band.measure l a m) s)
  have hband2 : (countDrift (decide fail) (modBand r.number (Band.measure l a m) s)).bandOf r.number = some (r.measure l a m) := by
    rw [State.bandOf, hdrift.bt]
    exact hband
  refine ⟨modBand r.number Band.resolved (trimRequest r.number (countDrift (decide fail)
    (modBand r.number (Band.measure l a m) s))), ?_, ?_⟩
  · rw [takeReply, if_pos rfl]
    dsimp only
    rw [hfail, resolve_eq]
  · rw [trimRequest_eq hband2 (m := ⟨l, a, m, patchError l a m r.lt r.at_ r.bt⟩) (by rw [measure_eq])]
    have htrack : ((s.bt.track.map (fun b => if b.number = r.number then b.measure l a m else b)).map
        (fun b => if b.number = r.number then b.resolved else b)) =
        s.bt.track.map (fun y => if y = r then (r.measure l a m).resolved else y) :=
      congrArg (fun t : State => t.bt.track) ((modBand_modBand r.number (Band.measure l a m) Band.resolved hmeas s).trans
        (h.modBand (fun b => (b.measure l a m).resolved)))
    have hx := (hdrift.setPs (Store.trimFor (r.measure l a m) ⟨l, a, m, patchError l a m r.lt r.at_ r.bt⟩)).setBt
      (fun t => { t with track := t.track.map (fun b => if b.number = r.number then b.resolved else b) })
    refine Eq.mp (congrArg (fun u => Becomes u _ _) ?_) hx
    rw [trimFor_measure]
    simp only [modBand_track, htrack]
    rfl

end Sys2Proof.Machine
end

section
namespace Sys2Proof.Proofs

open Sys2Proof.Machine

/-- Settles O42: the frame brings the reply to `replyArrival`; what its band, the drift count and the slot become is one state that is
`v` with DRIFT raised or not, and the retirement test that follows is `resolve_settles`. -/
theorem replyFrame : Obligations.ReplyFrame := by
  intro p b s hp hon hrx hlen hsum hst u value
  have hexec := replyFrame_eq hp hon hrx hlen hsum hst
  constructor
  · intro hlate
    refine ⟨_, hexec, ?_⟩
    rw [replyArrival_late (s := u) hlate]
    exact kick_becomes _
  · intro e r he hr huniq haw past settles
    have hnum : r.number = e.band := (huniq r hr).2 rfl
    have hone : OneBand r.number r s.bt.track := ⟨hr, fun y hy => by rw [hnum]; exact huniq y hy⟩
    have hpast : r.resolved.state = past := if_pos haw
    let w : State := { u with cv.list := u.cv.list.filter (fun y => y.seq ≠ e.seq) }
    have hfound : ∀ ok l a m, replyArrival (p.getD 0 0).toNat ok l a m u = takeReply r.number ok l a m w := fun ok l a m => by
      rw [hnum]
      exact replyArrival_found he
    constructor
    · intro hinv r'
      have hgiven : r.givenUp = r' := by rw [Band.givenUp, Band.resolved, if_pos haw]
      rw [hinv, show ((1 : Byte) == 0) = false from rfl, hfound, takeReply_invalid (s := w) hone, hgiven] at hexec
      have hsettle := resolve_settles (s := s) (r := r) (r' := r') (Becomes.refl { w with
        bt.track := s.bt.track.map (fun y => if y = r then r' else y) }) hpast.symm rfl haw rfl rfl
      obtain ⟨hnone, hstarts⟩ := hsettle
      exact ⟨fun hn => ⟨_, hexec, hnone hn⟩,
        fun tl y ht htr hret hsoft hy hu => ⟨_, hexec, hstarts tl y ht htr hret hsoft hy hu⟩⟩
    · intro hok h11 m fail r' q fresh step sets clears
      obtain ⟨x, hx, hbec⟩ := takeReply_ok (l := value 2) (a := value 4) (m := value 6) (s := w) hone h11
      rw [hok, show ((0 : Byte) == 0) = true from rfl, hfound] at hexec
      have hr' : (r.measure (value 2) (value 4) (value 6)).resolved = r' := by
        rw [measure_eq, Band.resolved, if_pos haw]
        rfl
      have hrun : exec (.replyFrame b) s = .next (kick (startRetirement x)) := by rw [hexec, ← hx]
      rw [hr', trimmed_eq] at hbec
      obtain ⟨hnone, hstarts⟩ := resolve_settles (s := s) (r := r) (r' := r') hbec hpast.symm rfl haw rfl rfl
      exact ⟨fun hn => ⟨_, hrun, hnone hn⟩,
        fun tl y ht htr hret hsoft hy hu => ⟨_, hrun, hstarts tl y ht htr hret hsoft hy hu⟩⟩

end Sys2Proof.Proofs
end

section
/-! Encoder pulses (01 R6): what a pulse leaves of the drive, and the position events it brings (01 R7 to R16). -/

namespace Sys2Proof.Machine

/-! ## A paper pulse keeps the drive -/

/-- A chain look while the line is moving asks for no line start (09 R174, 02 R51). -/
theorem bandBoundary_dc (s : State) : (bandBoundary s).dc = s.dc := by
  unfold bandBoundary chainLook autoStart
  split
  · next hm =>
    dsimp only
    have hne : ¬(readerLook s).dc.line = .stopped := by
      simp only [readerLook_frame]
      intro hc
      rw [hc] at hm
      cases hm
    split
    · rw [if_neg (fun hc => hne hc.2.2)]
      simp
    · simp
  · rfl

theorem bandEnd_dc (g : Segment) (c : BandContext) (s : State) : (bandEnd g c s).dc = s.dc := by
  unfold bandEnd
  dsimp only
  split <;> simp [bandBoundary_dc]

theorem rowEvent_dc (s : State) : (rowEvent s).dc = s.dc := by
  unfold rowEvent
  split
  · dsimp only
    split <;> simp [bandEnd_dc]
  all_goals rfl

theorem rowEvents_dc (s : State) : (rowEvents s).dc = s.dc := times_keeps rowEvent State.dc rowEvent_dc _ s

theorem startBand_dc (g : Segment) (s : State) : (startBand g s).dc = s.dc := by
  simp [startBand, rowEvent_dc, bandBoundary_dc]

theorem tryBandStart_dc (s : State) : (tryBandStart s).dc = s.dc := by
  unfold tryBandStart
  split
  · rfl
  · (repeat' split) <;> simp [startBand_dc]

theorem paperMoved_dc (s : State) : (paperMoved s).dc = s.dc := by
  simp [paperMoved, tryBandStart_dc, rowEvents_dc]

/-! ## Position events of the one band of the track -/

theorem rowEvents_idle {s : State} (h : s.re.seg = none) : rowEvents s = s := by
  rw [rowEvents, State.rowsDue, h]
  rfl

theorem tryBandStart_idle {s : State} (h : s.re.seg = none) : tryBandStart s = s := by rw [tryBandStart, h]

/-- No window closes with every mark resolved (07 R143). -/
theorem closeWindows_resolved {s : State} (h : ∀ b ∈ s.bt.track, b.c ≠ none) : closeWindows s = s := by
  have hexp : s.expected = none := List.find?_eq_none.2 (fun b hb => by simpa using h b hb)
  unfold closeWindows
  cases s.bt.track.length with
  | zero => rfl
  | succ n => rw [closeWindowsN, hexp]

/-- The state with one band in the track. -/
def State.withBand (b : Band) (s : State) : State := { s with bt.track := [b] }

section
variable {b : Band} {c : Int} {s : State} (ht : s.bt.track = [b]) (hc : b.c = some c)
include ht

theorem withBand_self : s.withBand b = s := by rw [State.withBand, ← ht]

theorem modBand_single (f : Band → Band) : modBand b.number f s = s.withBand (f b) := by
  simp [modBand, ht, State.withBand]

include hc

theorem nipEvent_single : nipEvent b.number s = s.withBand
    (if b.state = .travelling ∧ b.nipAt s.cfg c ≤ s.paper
      then ({ b with state := .onDrum } : Band).flagIf (entryTest s b) .splice else b) := by
  rw [nipEvent, modBand_single ht, hc]

theorem exitEvent_single : exitEvent b.number s = s.withBand
    (if b.state = .onDrum ∧ b.exitAt s.cfg c ≤ s.paper then doseCheck { b with state := .pastDrum } else b) := by
  rw [exitEvent, modBand_single ht, hc]

theorem nipEvent_self (h : ¬(b.state = .travelling ∧ b.nipAt s.cfg c ≤ s.paper)) : nipEvent b.number s = s := by
  rw [nipEvent_single ht hc, if_neg h, withBand_self ht]

theorem exitEvent_self (h : ¬(b.state = .onDrum ∧ b.exitAt s.cfg c ≤ s.paper)) : exitEvent b.number s = s := by
  rw [exitEvent_single ht hc, if_neg h, withBand_self ht]

theorem patchEvent_self (h : ¬(b.state = .pastDrum ∧ b.patchAt s.cfg c ≤ s.paper)) : patchEvent b.number s = s := by
  have hb : s.bandOf b.number = some b := by simp [State.bandOf, ht]
  rw [patchEvent, hb]
  dsimp only
  rw [hc]
  exact if_neg h

theorem patchEvent_void (h : b.state = .pastDrum ∧ b.patchAt s.cfg c ≤ s.paper) (hk : b.kind = .void) :
    patchEvent b.number s = s.withBand { b with state := .clearing } := by
  have hb : s.bandOf b.number = some b := by simp [State.bandOf, ht]
  have hmod : patchEvent b.number s = modBand b.number (fun r => { r with state := .clearing }) s := by
    rw [patchEvent, hb]
    dsimp only
    rw [hc]
    dsimp only
    rw [if_pos h, hk]
  exact hmod.trans (modBand_single ht _)

theorem patchEvent_printed (h : b.state = .pastDrum ∧ b.patchAt s.cfg c ≤ s.paper) (hk : b.kind = .printed) :
    patchEvent b.number s = offerPatch b.number s := by
  have hb : s.bandOf b.number = some b := by simp [State.bandOf, ht]
  rw [patchEvent, hb]
  dsimp only
  rw [hc]
  dsimp only
  rw [if_pos h, hk]

theorem trailEvent_self (h : (b.state ≠ .clearing ∧ b.state ≠ .awaiting) ∨ (s.paper : Int) < b.trailAt s.cfg c) :
    trailEvent b.number s = s := by
  rw [trailEvent, modBand_single ht, hc]
  dsimp only
  split
  · next hle =>
    obtain ⟨hcl, haw⟩ | hlt := h
    · cases hst : b.state
      case clearing => exact absurd hst hcl
      case awaiting => exact absurd hst haw
      all_goals exact withBand_self ht
    · omega
  · exact withBand_self ht

theorem trailEvent_clearing (hs : b.state = .clearing) (h : b.trailAt s.cfg c ≤ s.paper) :
    trailEvent b.number s = s.withBand { b with state := .finished } := by
  rw [trailEvent, modBand_single ht, hc]
  dsimp only
  rw [if_pos h, hs]

theorem trailEvent_awaiting (hs : b.state = .awaiting) (h : b.trailAt s.cfg c ≤ s.paper) :
    trailEvent b.number s = s.withBand { b with trailing := true } := by
  rw [trailEvent, modBand_single ht, hc]
  dsimp only
  rw [if_pos h, hs]

end

/-! ## The dose check (05 R108) -/

theorem Oct.mem_toList_ofFn {α : Type} (f : Fin 8 → α) (x : α) : x ∈ (Oct.ofFn f).toList ↔ ∃ i, f i = x := by
  simp only [Oct.ofFn, Oct.toList, List.mem_cons, List.not_mem_nil, or_false]
  constructor
  · rintro (rfl | rfl | rfl | rfl | rfl | rfl | rfl | rfl)
    exacts [⟨0, rfl⟩, ⟨1, rfl⟩, ⟨2, rfl⟩, ⟨3, rfl⟩, ⟨4, rfl⟩, ⟨5, rfl⟩, ⟨6, rfl⟩, ⟨7, rfl⟩]
  · rintro ⟨i, rfl⟩
    fin_cases i <;> simp

theorem Oct.get_ofFn {α : Type} (f : Fin 8 → α) (i : Fin 8) : (Oct.ofFn f).get i = f i := by
  fin_cases i <;> rfl

/-- The checked doses are those of the zones enabled at band start and not lost since. -/
theorem mem_checkedDoses (b : Band) (d : Nat) : d ∈ b.checkedDoses ↔
    ∃ i : Fin 8, b.zones.get i = true ∧ b.lostZones.get i = false ∧ b.doses.get i = d := by
  simp only [Band.checkedDoses, List.mem_map, List.mem_filter, Oct.mem_toList_ofFn, Band.checked, Oct.get_ofFn]
  constructor
  · rintro ⟨⟨p, x⟩, ⟨⟨i, hi⟩, hp⟩, rfl⟩
    simp only [Prod.mk.injEq] at hi
    obtain ⟨hz, hd⟩ := hi
    simp only [← hz, Bool.and_eq_true, Bool.not_eq_true'] at hp
    exact ⟨i, hp.1, hp.2, hd⟩
  · rintro ⟨i, hz, hl, hd⟩
    exact ⟨(true, d), ⟨⟨i, by simp [hz, hl, hd]⟩, rfl⟩, rfl⟩

/-- A checked zone of a PRINTED band whose dose, in hundredths, meets a test. -/
def Band.doseIs (b : Band) (p : Int → Prop) : Prop :=
  b.kind = .printed ∧ ∃ i : Fin 8, b.zones.get i = true ∧ b.lostZones.get i = false ∧ p (b.doses.get i * 100)

theorem doseLow_iff (b : Band) (d : Nat) : doseLow b d = true ↔ (d : Int) * 100 < (b.dpred : Int) * (100 - b.doseTol) := by
  rw [doseLow, decide_eq_true_eq]
  by_cases h : b.doseTol ≤ 100
  · rw [← Int.ofNat_lt]
    push_cast [h]
    rfl
  · have h0 : 100 - b.doseTol = 0 := by omega
    have hneg : (b.dpred : Int) * (100 - b.doseTol) ≤ 0 := mul_nonpos_of_nonneg_of_nonpos (by omega) (by omega)
    rw [h0]
    omega

theorem doseHigh_iff (b : Band) (d : Nat) : doseHigh b d = true ↔ (b.dpred : Int) * (100 + b.doseTol) < (d : Int) * 100 := by
  rw [doseHigh, decide_eq_true_eq, gt_iff_lt, ← Int.ofNat_lt]
  push_cast
  rfl

theorem any_checkedDoses {b : Band} (hk : b.kind = .printed) {f : Nat → Bool} {p : Int → Prop}
    (h : ∀ d : Nat, f d = true ↔ p ((d : Int) * 100)) : b.checkedDoses.any f = true ↔ b.doseIs p := by
  simp only [List.any_eq_true, mem_checkedDoses, Band.doseIs, hk, true_and]
  constructor
  · rintro ⟨d, ⟨i, hz, hl, rfl⟩, hd⟩
    exact ⟨i, hz, hl, (h _).1 hd⟩
  · rintro ⟨i, hz, hl, hd⟩
    exact ⟨_, ⟨i, hz, hl, rfl⟩, (h _).2 hd⟩

/-- The dose check sets DOSE_LOW and DOSE_HIGH, each by its bound, on a PRINTED band (05 R108). -/
theorem doseCheck_eq (b : Band) {low high : Prop} [Decidable low] [Decidable high]
    (hlow : b.doseIs (fun x => x < (b.dpred : Int) * (100 - b.doseTol)) ↔ low)
    (hhigh : b.doseIs (fun x => (b.dpred : Int) * (100 + b.doseTol) < x) ↔ high) :
    doseCheck b = { b with flags := b.flags ||| (if low then 0x020#12 else 0) ||| (if high then 0x040#12 else 0) } := by
  by_cases hk : b.kind = .void
  · have hno : ∀ p, ¬b.doseIs p := fun p hp => nomatch hk.symm.trans hp.1
    rw [doseCheck, if_pos hk, if_neg (fun h => hno _ (hlow.2 h)), if_neg (fun h => hno _ (hhigh.2 h))]
    simp
  · have hk' := (kind_ne_void_iff b.kind).1 hk
    have hl := (any_checkedDoses hk' (p := fun x => x < (b.dpred : Int) * (100 - b.doseTol)) (doseLow_iff b)).trans hlow
    have hh := (any_checkedDoses hk' (p := fun x => (b.dpred : Int) * (100 + b.doseTol) < x) (doseHigh_iff b)).trans hhigh
    rw [doseCheck, if_neg hk, if_congr hl.symm rfl rfl, if_congr hh.symm rfl rfl]
    cases b.checkedDoses.any (doseLow b) <;> cases b.checkedDoses.any (doseHigh b) <;> simp [Band.flagIf, Band.flag, Flag.place]

/-! ## The event of one pulse (01 R9 to R13) -/

section
variable {b : Band} {c : Int} {s : State} (ht : s.bt.track = [b]) (hc : b.c = some c)
include ht

theorem trackEvents_single : trackEvents s =
    trailEvent b.number (patchEvent b.number (exitEvent b.number (nipEvent b.number s))) := by
  rw [trackEvents, ht]
  rfl

include hc

/-- Midpoint at the nip, short of the drum exit (01 R9). -/
theorem trackEvents_nip (hs : b.state = .travelling) (h1 : b.nipAt s.cfg c ≤ s.paper) (h2 : (s.paper : Int) < b.exitAt s.cfg c) :
    trackEvents s = s.withBand (({ b with state := .onDrum } : Band).flagIf (entryTest s b) .splice) := by
  rw [trackEvents_single ht, nipEvent_single ht hc, if_pos ⟨hs, h1⟩, flagIf_splice]
  have hb1 : ∃ f, (if entryTest s b = true then { b with state := .onDrum, flags := b.flags ||| 0x080#12 }
      else { b with state := .onDrum }) = { b with state := .onDrum, flags := f } := by
    split
    · exact ⟨_, rfl⟩
    · exact ⟨b.flags, rfl⟩
  obtain ⟨f, hf⟩ := hb1
  rw [hf]
  let s1 := s.withBand { b with state := .onDrum, flags := f }
  have he : exitEvent b.number s1 = s1 :=
    exitEvent_self (b := { b with state := .onDrum, flags := f }) rfl hc (fun h => not_le.2 h2 h.2)
  have hp : patchEvent b.number s1 = s1 := patchEvent_self (b := { b with state := .onDrum, flags := f }) rfl hc (by simp)
  have htr : trailEvent b.number s1 = s1 := trailEvent_self (b := { b with state := .onDrum, flags := f }) rfl hc (by simp)
  rw [he, hp, htr]

theorem nipEvent_idle (hs : b.state ≠ .travelling) : nipEvent b.number s = s := nipEvent_self ht hc (fun h => hs h.1)

/-- Midpoint at the drum exit, short of the patch (01 R10). -/
theorem trackEvents_exit (hs : b.state = .onDrum) (h1 : b.exitAt s.cfg c ≤ s.paper) (h2 : (s.paper : Int) < b.patchAt s.cfg c) :
    trackEvents s = s.withBand (doseCheck { b with state := .pastDrum }) := by
  rw [trackEvents_single ht, nipEvent_idle ht hc (by simp [hs]), exitEvent_single ht hc, if_pos ⟨hs, h1⟩]
  have hb1 : ∃ f, doseCheck { b with state := .pastDrum } = { b with state := .pastDrum, flags := f } := by
    classical
    exact ⟨_, doseCheck_eq _ Iff.rfl Iff.rfl⟩
  obtain ⟨f, hf⟩ := hb1
  rw [hf]
  let s1 := s.withBand { b with state := .pastDrum, flags := f }
  have hp : patchEvent b.number s1 = s1 :=
    patchEvent_self (b := { b with state := .pastDrum, flags := f }) rfl hc (fun h => not_le.2 h2 h.2)
  have htr : trailEvent b.number s1 = s1 := trailEvent_self (b := { b with state := .pastDrum, flags := f }) rfl hc (by simp)
  rw [hp, htr]

/-- The patch of a VOID band at inspection, short of the trailing edge (01 R11). -/
theorem trackEvents_patch_void (hs : b.state = .pastDrum) (h1 : b.patchAt s.cfg c ≤ s.paper)
    (h2 : (s.paper : Int) < b.trailAt s.cfg c) (hk : b.kind = .void) :
    trackEvents s = s.withBand { b with state := .clearing } := by
  rw [trackEvents_single ht, nipEvent_idle ht hc (by simp [hs]), exitEvent_self ht hc (by simp [hs]),
    patchEvent_void ht hc ⟨hs, h1⟩ hk]
  exact trailEvent_self (b := { b with state := .clearing }) (s := s.withBand { b with state := .clearing }) rfl hc (Or.inr h2)

/-- The patch of a PRINTED band that CV can trigger for (01 R11, 08 R157). -/
theorem trackEvents_patch_trigger (hs : b.state = .pastDrum) (h1 : b.patchAt s.cfg c ≤ s.paper)
    (h2 : (s.paper : Int) < b.trailAt s.cfg c) (hk : b.kind = .printed) (hcan : s.canTrigger = true) :
    trackEvents s = { s with
      bt.track := [{ b with state := .awaiting }],
      cv.list := s.cv.list ++ [{ seq := s.cv.seq, band := b.number, deadline := s.now + s.cfg.triggerTimeout }],
      cv.seq := if s.cv.seq = 255 then 1 else s.cv.seq + 1, cv.txq := s.cv.txq ++ [s.cv.seq],
      out := s.out ++ if s.cv.txq = [] then [.measure (measureBytes s.cv.seq)] else [] } := by
  have hoffer : offerPatch b.number s = { s with
      bt.track := [{ b with state := .awaiting }],
      cv.list := s.cv.list ++ [{ seq := s.cv.seq, band := b.number, deadline := s.now + s.cfg.triggerTimeout }],
      cv.seq := if s.cv.seq = 255 then 1 else s.cv.seq + 1, cv.txq := s.cv.txq ++ [s.cv.seq],
      out := s.out ++ if s.cv.txq = [] then [.measure (measureBytes s.cv.seq)] else [] } := by
    unfold offerPatch queueMeasure nextSeq
    rw [if_pos hcan]
    by_cases hq : s.cv.txq = [] <;> simp [hq, modBand, ht, emit]
  rw [trackEvents_single ht, nipEvent_idle ht hc (by simp [hs]), exitEvent_self ht hc (by simp [hs]),
    patchEvent_printed ht hc ⟨hs, h1⟩ hk, hoffer]
  exact trailEvent_self (b := { b with state := .awaiting }) rfl hc (Or.inr h2)

/-- The patch of a PRINTED band that CV cannot trigger for (01 R11). -/
theorem trackEvents_patch_unmeasured (hs : b.state = .pastDrum) (h1 : b.patchAt s.cfg c ≤ s.paper)
    (h2 : (s.paper : Int) < b.trailAt s.cfg c) (hk : b.kind = .printed) (hcan : s.canTrigger = false) :
    trackEvents s = s.withBand { b with state := .clearing, flags := b.flags ||| 0x400#12 } := by
  have hoffer : offerPatch b.number s = s.withBand { b with state := .clearing, flags := b.flags ||| 0x400#12 } := by
    unfold offerPatch
    rw [if_neg (by simp [hcan])]
    exact modBand_single ht _
  rw [trackEvents_single ht, nipEvent_idle ht hc (by simp [hs]), exitEvent_self ht hc (by simp [hs]),
    patchEvent_printed ht hc ⟨hs, h1⟩ hk, hoffer]
  exact trailEvent_self (b := { b with state := .clearing, flags := b.flags ||| 0x400#12 })
    (s := s.withBand { b with state := .clearing, flags := b.flags ||| 0x400#12 }) rfl hc (Or.inr h2)

/-- The trailing edge past inspection of a band that waits for its reply (01 R13). -/
theorem trackEvents_trail_awaiting (hs : b.state = .awaiting) (h : b.trailAt s.cfg c ≤ s.paper) :
    trackEvents s = s.withBand { b with trailing := true } := by
  rw [trackEvents_single ht, nipEvent_idle ht hc (by simp [hs]), exitEvent_self ht hc (by simp [hs]),
    patchEvent_self ht hc (by simp [hs]), trailEvent_awaiting ht hc hs h]

/-- The trailing edge past inspection of a band that CV has done with (01 R13). -/
theorem trackEvents_trail_clearing (hs : b.state = .clearing) (h : b.trailAt s.cfg c ≤ s.paper) :
    trackEvents s = s.withBand { b with state := .finished } := by
  rw [trackEvents_single ht, nipEvent_idle ht hc (by simp [hs]), exitEvent_self ht hc (by simp [hs]),
    patchEvent_self ht hc (by simp [hs]), trailEvent_clearing ht hc hs h]

end
/-! ## The pulse -/

theorem encoderPulse_dc (e : EncoderId) (forward : Bool) (s : State) :
    (encoderPulse e forward s).dc = { s.dc with silence := encPut s.dc.silence e 0 } := by
  unfold encoderPulse
  dsimp only
  split
  · cases e
    · rw [paperMoved_dc]
    all_goals rfl
  · rfl

theorem encoderPulse_pos (e : EncoderId) (s : State) :
    (encoderPulse e true s).bt.pos = encPut s.bt.pos e ((encOf s.bt.pos e).advance (encOf s.cfg.scale e)) := by
  unfold encoderPulse
  cases e <;> simp

theorem encOf_encPut {α : Type} (x : Encs α) (e : EncoderId) (a : α) : encOf (encPut x e a) e = a := by cases e <;> rfl

theorem encOf_encPut_ne {α : Type} (x : Encs α) {e o : EncoderId} (h : o ≠ e) (a : α) : encOf (encPut x e a) o = encOf x o := by
  cases e <;> cases o <;> simp_all [encOf, encPut]

/-- The scale is added to the position and its remainder together (01 R6). -/
theorem advance_sum (scale : Nat) (p : Position) :
    (p.advance scale).nm * 65536 + (p.advance scale).frac = p.nm * 65536 + p.frac + scale ∧ (p.advance scale).frac < 65536 := by
  unfold Position.advance
  dsimp only
  omega

/-- With RE idle, every mark resolved and no splice due, a paper movement brings the bands' events and the test for a retirement. -/
theorem paperMoved_idle {s : State} (hseg : s.re.seg = none) (hc : ∀ b ∈ s.bt.track, b.c ≠ none)
    (hspl : ∀ x ∈ s.bt.splices.head?, s.spliceDue x = false) : paperMoved s = startRetirement (trackEvents s) := by
  have hdue : (s.bt.splices.head?.map s.spliceDue).getD false = false := by
    cases hx : s.bt.splices.head? with
    | none => rfl
    | some x => rw [Option.map_some, Option.getD_some, hspl x (by simp [hx])]
  have hpos : positionEvents s = trackEvents s := by rw [positionEvents, if_neg (by simp [hdue])]
  rw [paperMoved, rowEvents_idle hseg, closeWindows_resolved hc, hpos]
  exact tryBandStart_idle (by simpa using hseg)

section
variable (cfg : Settings) (b : Band) (c : Int)

theorem nipAt_eq : b.nipAt cfg c = b.l0 + (b.len / 2 : Nat) + (cfg.dpn : Int) * 1000000 + c := by
  rw [Band.nipAt, Settings.dpnNm, Nat.cast_mul]
  rfl

theorem exitAt_eq : b.exitAt cfg c = b.l0 + (b.len / 2 : Nat) + (cfg.dpn : Int) * 1000000 + c + (cfg.w : Int) * 1000000 := by
  rw [Band.exitAt, nipAt_eq, Settings.wNm, Nat.cast_mul]
  rfl

theorem patchAt_eq : b.patchAt cfg c =
    b.l0 + b.po + (cfg.dpn : Int) * 1000000 + (cfg.w : Int) * 1000000 + (cfg.dxi : Int) * 1000000 + c := by
  rw [Band.patchAt, Settings.dpnNm, Settings.wNm, Settings.dxiNm, Nat.cast_mul, Nat.cast_mul, Nat.cast_mul]
  rfl

theorem trailAt_eq : b.trailAt cfg c =
    b.l0 + b.len + (cfg.dpn : Int) * 1000000 + (cfg.w : Int) * 1000000 + (cfg.dxi : Int) * 1000000 + c := by
  rw [Band.trailAt, Settings.dpnNm, Settings.wNm, Settings.dxiNm, Nat.cast_mul, Nat.cast_mul, Nat.cast_mul]
  rfl

end

theorem spliceDue_iff (s : State) (x : Nat) : s.spliceDue x = true ↔ x + s.cfg.w * 1000000 ≤ s.paper := by
  rw [State.spliceDue, decide_eq_true_eq, Settings.wNm]

theorem entryTest_iff (s : State) {b : Band} {c : Int} (hc : b.c = some c) : entryTest s b = true ↔
    s.bt.overflow = true ∨ ∃ x ∈ s.bt.splices,
      (b.l0 : Int) + (s.cfg.dpn : Int) * 1000000 + c ≤ x ∧ (x : Int) ≤ b.l0 + b.len + (s.cfg.dpn : Int) * 1000000 + c := by
  simp only [entryTest, Bool.or_eq_true, List.any_eq_true, hit_iff, hc, Option.getD_some]

/-- Splice entries leave up to the first that is not due (01 R16); from an empty track nothing else moves. -/
theorem positionEvents_splices {x : Nat} {rest : List Nat} {s : State} (ht : s.bt.track = []) (hs : s.bt.splices = x :: rest)
    (hx : s.spliceDue x = true) (hrest : ∀ y ∈ rest.head?, s.spliceDue y = false) :
    positionEvents s = { s with freeCount := s.freeCount + 1, bt.splices := rest,
                                bt.overflow := if rest.length < 4 then false else s.bt.overflow } := by
  have htrack : ∀ t : State, t.bt.track = [] → trackEvents t = t := fun t h => by
    rw [trackEvents, h]
    rfl
  have hdrop : rest.dropWhile s.spliceDue = rest := by
    cases rest with
    | nil => rfl
    | cons y ys => exact List.dropWhile_cons_of_neg (by simp [hrest y (by simp)])
  have hremove : removeSplices { s with freeCount := s.freeCount + 1 } =
      { s with freeCount := s.freeCount + 1, bt.splices := rest,
               bt.overflow := if rest.length < 4 then false else s.bt.overflow } := by
    have hd : List.dropWhile (State.spliceDue { s with freeCount := s.freeCount + 1 }) s.bt.splices = rest := by
      rw [hs]
      exact (List.dropWhile_cons_of_pos hx).trans hdrop
    unfold removeSplices
    dsimp only
    rw [hd, hs]
    by_cases h4 : rest.length < 4
    · simp [h4, Config.spliceMax]
    · simp [h4, Config.spliceMax]
  have hdue : (s.bt.splices.head?.map s.spliceDue).getD false = true := by
    rw [hs, List.head?_cons, Option.map_some, Option.getD_some, hx]
  rw [positionEvents, if_pos hdue]
  dsimp only
  rw [htrack { s with freeCount := s.freeCount + 1 } ht, hremove]
  split
  · exact htrack _ ht
  · rfl

end Sys2Proof.Machine
end

section
namespace Sys2Proof.Proofs

open Sys2Proof.Machine

/-- Settles O21: the pulse moves a position by the scale; what it brings to the one band is the event its state and position call for. -/
theorem encoderPositions : Obligations.EncoderPositions := by
  intro e l s hp
  refine ⟨⟨_, rfl, commandAt_becomes hp (Becomes.refl _)⟩, ⟨_, rfl, ?_⟩, fun he => ⟨_, rfl, ?_⟩, ?_⟩
  · rw [commandAt_eq hp]
    have hk := kick_becomes (encoderPulse e true { sampleLines l s with out := [] })
    have hpos := (congrArg Tracker.pos hk.bt).trans (encoderPulse_pos e _)
    obtain ⟨hsum, hlt⟩ := advance_sum (encOf s.cfg.scale e) (encOf s.bt.pos e)
    refine ⟨by simp, by simp [SameRegisters], by simp, by simp, by simp, by simp, by simp, hk.dc.trans (encoderPulse_dc e true _),
      ?_, ?_, fun o ho => ?_⟩
    · rw [hpos, encOf_encPut]
      exact hsum
    · rw [hpos, encOf_encPut]
      exact hlt
    · rw [hpos, encOf_encPut_ne _ ho]
      rfl
  · refine commandAt_becomes hp ?_
    have hpos : (commandAt l (encoderPulse e true) s).bt.pos =
        (encoderPulse e true { sampleLines l s with out := [] }).bt.pos := by
      rw [commandAt_eq hp]
      exact congrArg Tracker.pos (kick_becomes _).bt
    rw [hpos]
    cases e with
    | paper => exact absurd rfl he
    | infeed => exact Becomes.refl _
    | drum => exact Becomes.refl _
  · intro pos u mm hidle hsoft hret
    obtain ⟨-, hseg, -, -⟩ := hidle
    have hrun : exec (.encoderPulse .paper true l) s = .next (kick (paperMoved u)) := congrArg _ (commandAt_eq hp l _)
    constructor
    · intro b c ht hc hspl nip patch trail
      have hmoved : paperMoved u = startRetirement (trackEvents u) :=
        paperMoved_idle hseg (fun x hx => by
          obtain rfl : x = b := by simpa [ht] using (show x ∈ s.bt.track from hx)
          simp [hc]) (fun x hx => by
          have hlt : (pos.nm : Int) < (x : Int) + (s.cfg.w : Int) * 1000000 := hspl x hx
          rw [← Bool.not_eq_true, spliceDue_iff]
          exact fun (hle : x + s.cfg.w * 1000000 ≤ pos.nm) => by omega)
      -- an event that leaves the band short of FINISHED is all that the pulse brings
      have hevent : ∀ (v : State) (b' : Band), trackEvents u = v → v.bt.track = [b'] → b'.state ≠ .finished →
          ∃ t, exec (.encoderPulse .paper true l) s = .next t ∧ Becomes v [] t := fun v b' hv hvt hfin => by
        refine ⟨_, hrun, ?_⟩
        rw [hmoved, hv, startRetirement_eq_self (Or.inr fun a ha => by
          obtain rfl : b' = a := by simpa [hvt] using ha
          exact hfin)]
        exact kick_becomes v
      have hnip := nipAt_eq s.cfg b c
      have hexit := exitAt_eq s.cfg b c
      have hpatch := patchAt_eq s.cfg b c
      have htrail := trailAt_eq s.cfg b c
      refine ⟨?_, ?_, fun hs h1 h2 => ⟨fun hk => ?_, fun hk hrdy hlen => ?_, fun hk hcan => ?_⟩, fun hs h => ?_, ?_⟩
      · intro hs h1 h2 hit
        have h := trackEvents_nip (s := u) ht hc hs (hnip.le.trans h1) (lt_of_lt_of_eq h2 hexit.symm)
        have hflags : (if entryTest u b = true then { b with state := .onDrum, flags := b.flags ||| 0x080#12 }
            else { b with state := .onDrum }) =
            { b with state := .onDrum, flags := if hit then b.flags ||| 0x080#12 else b.flags } := by
          have hhit : entryTest u b = true ↔ hit := entryTest_iff u hc
          by_cases hh : hit
          · rw [if_pos (hhit.2 hh), if_pos hh]
          · rw [if_neg (fun h => hh (hhit.1 h)), if_neg hh]
        rw [flagIf_splice, hflags] at h
        exact hevent _ _ h rfl (by simp)
      · intro hs h1 h2 dose low high
        have h := trackEvents_exit (s := u) ht hc hs (hexit.le.trans h1) (lt_of_lt_of_eq h2 hpatch.symm)
        exact hevent _ _ (h.trans (congrArg u.withBand (doseCheck_eq _ (low := low) (high := high) Iff.rfl Iff.rfl))) rfl (by simp)
      · exact hevent _ _ (trackEvents_patch_void (s := u) ht hc hs (hpatch.le.trans h1) (lt_of_lt_of_eq h2 htrail.symm) hk) rfl
          (by simp)
      · exact hevent _ _ (trackEvents_patch_trigger (s := u) ht hc hs (hpatch.le.trans h1) (lt_of_lt_of_eq h2 htrail.symm) hk
          (by simp [State.canTrigger, Config.triggerMax, show u.cv.status = .ready from hrdy, show u.cv.list.length < 4 from hlen]))
          rfl (by simp)
      · exact hevent _ _ (trackEvents_patch_unmeasured (s := u) ht hc hs (hpatch.le.trans h1) (lt_of_lt_of_eq h2 htrail.symm) hk
          (by
            rw [State.canTrigger, Bool.and_eq_false_iff]
            exact hcan.imp (fun h => beq_eq_false_iff_ne.2 h) (fun h => decide_eq_false (not_lt.2 h)))) rfl (by simp)
      · exact hevent _ _ (trackEvents_trail_awaiting (s := u) ht hc hs (htrail.le.trans h)) rfl (by simp [hs])
      · intro y hs h hy hyid v b' counted full
        have hfin := trackEvents_trail_clearing (s := u) ht hc hs (htrail.le.trans h)
        rw [hmoved, hfin] at hrun
        have hone : OneTally b.tally y s.bt.tallies := by
          rw [hy]
          exact ⟨List.mem_singleton_self y, fun z hz => by rw [List.mem_singleton.1 hz]; exact ⟨fun _ => rfl, fun _ => hyid⟩⟩
        obtain ⟨hframe, ⟨hroom, hnone⟩, -⟩ := (retirement_after (Becomes.refl (u.withBand { b with state := .finished }))).2
          { b with state := .finished } [] y rfl rfl hret (softBlocks_of_off (s := s) hsoft) hone
        have hframe' : Frame [.bt] [] u (kick (startRetirement (u.withBand { b with state := .finished }))) :=
          (frame_setBt u _).trans hframe
        have hput : ∀ n : Tally, s.bt.tallies.map (fun z => if z = y then n else z) = [n] := fun n => by simp [hy]
        constructor
        · intro hlt
          obtain ⟨hbt, hw⟩ := hroom hlt
          exact ⟨_, hrun, hframe', hbt.trans (congrArg (fun l =>
            { u.bt with track := [b'], retiring := some .record, tallies := l }) (hput _)), hw⟩
        · intro hle
          obtain ⟨hbt, hw⟩ := hnone hle
          exact ⟨_, hrun, hframe', hbt.trans (congrArg (fun l =>
            { u.bt with track := [b'], retiring := some .counts, tallies := l }) (hput _)), hw⟩
    · intro x rest ht hs hx hrest
      have hdue : u.spliceDue x = true := (spliceDue_iff u x).2 hx
      have hkeep : ∀ y ∈ rest.head?, u.spliceDue y = false := fun y hy => by
        rw [← Bool.not_eq_true, spliceDue_iff]
        exact not_le.2 (hrest y hy)
      have hmoved : paperMoved u = { u with freeCount := s.freeCount + 1, bt.splices := rest,
                                            bt.overflow := if rest.length < 4 then false else s.bt.overflow } := by
        rw [paperMoved, rowEvents_idle (s := u) hseg, closeWindows_resolved (s := u) (by simp [show u.bt.track = [] from ht]),
          positionEvents_splices (s := u) ht hs hdue hkeep, startRetirement_eq_self (Or.inr (by simp [show u.bt.track = [] from ht]))]
        exact tryBandStart_idle hseg
      rw [hmoved] at hrun
      exact ⟨_, hrun, kick_becomes _⟩

end Sys2Proof.Proofs
end

section
/-! Band starts (02 R36 to R40, 01 R4): the fetcher, the first row event, and the record that is appended. -/

namespace Sys2Proof.Machine

/-! ## The fetcher and the head links -/

/-- The raster after some more fetches have been started (02 R33). -/
def Raster.fetched (r : Raster) (more : List RowSlot) (k i : Nat) : Raster :=
  { r with slots := r.slots ++ more, fetchBand := k, fetchRow := i }

theorem fetchOne_eq (s : State) : ∃ more k i, (∀ x ∈ more, x.complete = false) ∧
    fetchOne s = { s with re := s.re.fetched more k i } := by
  have hnone : s = { s with re := s.re.fetched [] s.re.fetchBand s.re.fetchRow } := by simp [Raster.fetched]
  unfold fetchOne
  split
  · exact ⟨[], _, _, by simp, hnone⟩
  · dsimp only
    split
    · exact ⟨[_], _, _, by simp, rfl⟩
    · exact ⟨[], _, _, by simp, hnone⟩

/-- The fetcher appends slots that are not complete, and changes nothing but its place. -/
theorem fetchRun_eq (s : State) : ∃ more k i, (∀ x ∈ more, x.complete = false) ∧
    fetchRun s = { s with re := s.re.fetched more k i } := by
  have htimes : ∀ (n : Nat) (s : State), ∃ more k i, (∀ x ∈ more, x.complete = false) ∧
      times n fetchOne s = { s with re := s.re.fetched more k i } := fun n => by
    induction n with
    | zero => exact fun s => ⟨[], s.re.fetchBand, s.re.fetchRow, by simp, by simp [Raster.fetched, times]⟩
    | succ n ih =>
      intro s
      obtain ⟨m1, k1, i1, h1, e1⟩ := fetchOne_eq s
      obtain ⟨m2, k2, i2, h2, e2⟩ := ih (fetchOne s)
      refine ⟨m1 ++ m2, k2, i2, fun x hx => (List.mem_append.1 hx).elim (h1 x) (h2 x), ?_⟩
      rw [times, e2, e1]
      simp [Raster.fetched]
  exact htimes _ s

theorem headReady_iff (h : HeadLines) : headReady h = true ↔ h.present ≠ 0 ∧ h.present &&& ~~~h.ready = 0 := by
  simp [headReady]

theorem sendRow_eq (levels : List (Ink Nat)) (mark : Option Nat) (s : State) :
    sendRow levels mark s = { s with out := s.out ++ if headReady s.pins.head = true then [.headRow levels mark] else [] } := by
  unfold sendRow
  split
  · rfl
  · simp

/-! ## The row event of a row that is there -/

/-- The band after a row event of a PRINTED band with a complete row at hand (02 R40). -/
def Band.rowTaken (ready : Bool) (clips : Nat) (b : Band) : Band :=
  if ready then { b with fired := b.fired + 1, clip := satAdd 65535 b.clip clips }
  else { b with flags := b.flags ||| 0x002#12, lost := b.lost + 1 }

/-- A row event that consumes the row at the head of the buffer (02 R40). -/
theorem fireRow_eq (g : Segment) (c : BandContext) (x : RowSlot) (s : State) :
    let prof := (s.ps.slots.get g.slot).prof
    ∃ more k i low, (∀ y ∈ more, y.complete = false) ∧ fireRow g c x s = { s with
      bt.track := s.bt.track.map (fun b => if b.number = c.number then b.rowTaken (headReady s.pins.head) (rowClips prof x.words) else b),
      re := { s.re with slots := s.re.slots.tail, lowWater := low }.fetched more k i,
      out := s.out ++ if headReady s.pins.head = true
        then [.headRow (rowLevels prof (((s.bandOf c.number).map Band.g).getD 1024) x.repeatRow 0 x.words) (markPart g c)] else [] } := by
  intro prof
  have hlow : ∃ low, countLowWater s = { s with re.lowWater := low } := by
    unfold countLowWater
    split
    · exact ⟨_, rfl⟩
    · exact ⟨s.re.lowWater, rfl⟩
  obtain ⟨low, hlow⟩ := hlow
  let taken : State := { s with
    bt.track := s.bt.track.map (fun b => if b.number = c.number then b.rowTaken (headReady s.pins.head) (rowClips prof x.words) else b),
    re.lowWater := low,
    out := s.out ++ if headReady s.pins.head = true
      then [.headRow (rowLevels prof (((s.bandOf c.number).map Band.g).getD 1024) x.repeatRow 0 x.words) (markPart g c)] else [] }
  have htaken : fireRow g c x s = consumeRow taken := by
    unfold fireRow
    rw [hlow]
    dsimp only [taken]
    cases hr : headReady s.pins.head with
    | true =>
      simp only [if_true, Band.rowTaken]
      rfl
    | false =>
      simp only [Bool.false_eq_true, if_false, Band.rowTaken, List.append_nil]
      rfl
  obtain ⟨more, k, i, hm, he⟩ := fetchRun_eq { taken with re.slots := taken.re.slots.tail }
  exact ⟨more, k, i, low, hm, htaken.trans he⟩

/-! ## The start of a band -/

/-- The band RE forms, after its row event 0 (02 R37, R39, R40, R44). -/
def State.startedBand (s : State) (g : Segment) : Band :=
  match (s.formBand g).kind with
  | .void => s.formBand g
  | .printed => (s.formBand g).rowTaken (headReady s.pins.head)
      (rowClips (s.ps.slots.get g.slot).prof (s.re.slots.headD { band := 0, row := 0, repeatRow := 0, words := [], complete := false }).words)

theorem formBand_kind (s : State) (g : Segment) : (s.formBand g).kind = if g.nextVoid then .void else .printed := rfl

/-- Row event 0 counts fired, or lost with HEAD_MISS, on a PRINTED band, and nothing on a VOID one. -/
theorem startedBand_eq (s : State) (g : Segment) {kind : BandKind} {ready : Prop} [Decidable ready]
    (hk : (s.formBand g).kind = kind) (hr : headReady s.pins.head = true ↔ ready) :
    s.startedBand g = { s.formBand g with
      flags := if kind = .printed ∧ ¬ready then 0x002#12 else 0, fired := if kind = .printed ∧ ready then 1 else 0,
      lost := if kind = .printed ∧ ¬ready then 1 else 0,
      clip := if kind = .printed ∧ ready then min 65535 (rowClips (s.ps.slots.get g.slot).prof
        (s.re.slots.headD { band := 0, row := 0, repeatRow := 0, words := [], complete := false }).words) else 0 } := by
  rw [State.startedBand, hk]
  cases kind with
  | void => rfl
  | printed =>
    dsimp only
    unfold Band.rowTaken
    by_cases h : ready
    · simp only [hr.2 h, h, if_true, not_true, and_false, and_true, if_false]
      simp [State.formBand, satAdd]
    · have hno : headReady s.pins.head = false := by simpa using fun hc => h (hr.1 hc)
      simp only [hno, h, not_false_eq_true, and_true, and_false, if_true, if_false, Bool.false_eq_true]
      simp [State.formBand]

/-- A boundary that RE announces while the line is running and it is not PRIMING: TR may read, and nothing else comes of it (09 R174). -/
theorem bandBoundary_running {s : State} (hl : s.dc.line = .running) (hr : s.re.raster ≠ .priming) :
    ∃ rs, bandBoundary s = { s with smp.reads := rs } := by
  have hlook : ∃ rs, readerLook s = { s with smp.reads := rs } := by
    unfold readerLook issueRead
    (repeat' split) <;> exact ⟨_, rfl⟩
  obtain ⟨rs, hlook⟩ := hlook
  have hauto : autoStart { s with smp.reads := rs } = { s with smp.reads := rs } := if_neg (fun h => hr h.1)
  refine ⟨rs, ?_⟩
  rw [bandBoundary, if_pos (by rw [hl]; rfl), chainLook, hlook]
  split
  · exact hauto
  · rfl

/-- The tallies with one more band created and in the track (01 R4). -/
def Tally.bandAdded (e : Tally) : Tally := { e with created := e.created + 1, inTrack := e.inTrack + 1, stale := true }

/-- What a band start with its row event 0 leaves (02 R37, R39). -/
theorem startBand_eq {g : Segment} {s : State} (hl : s.dc.line = .running) (hrows : 2 ≤ g.bandRows)
    (hrow' : g.nextVoid = false → ∃ x rest, s.re.slots = x :: rest ∧ x.complete = true)
    (hnum : ∀ b ∈ s.bt.track, b.number ≠ s.bt.nextNumber) :
    let b := s.formBand g
    ∃ more k i low rs, (∀ y ∈ more, y.complete = false) ∧ (g.nextVoid = true → more = []) ∧ startBand g s = { s with
      bt.track := s.bt.track ++ [s.startedBand g], bt.nextNumber := s.bt.nextNumber + 1,
      bt.tallies := s.bt.tallies.map (fun e => if e.id = g.tally then e.bandAdded else e),
      tr.pollRunning := false, tr.pollElapsed := 0, smp.reads := rs,
      re := { s.re with
        seg := some { g with created := g.created + 1 }, printEnd := b.l0 + b.len, lastStarted := b.number, raster := .printing,
        band := some { b.context with next := 1 }, fullWait := false, lowWater := low,
        slots := if g.nextVoid then s.re.slots else s.re.slots.tail }.fetched more k i,
      out := s.out ++ if headReady s.pins.head = true
        then [.headRow (if g.nextVoid then blankRow g.width
          else rowLevels (s.ps.slots.get g.slot).prof b.g
            (s.re.slots.headD { band := 0, row := 0, repeatRow := 0, words := [], complete := false }).repeatRow 0
            (s.re.slots.headD { band := 0, row := 0, repeatRow := 0, words := [], complete := false }).words) (markPart g b.context)]
        else [] } := by
  intro b
  let s2 : State := { appendBand b s with
    re.seg := some { g with created := g.created + 1 }, re.printEnd := b.l0 + b.len, re.lastStarted := b.number,
    re.raster := .printing, re.band := some b.context, re.fullWait := false }
  obtain ⟨rs, hrs⟩ := bandBoundary_running (s := pollStop s2) hl (by simp [pollStop, s2])
  let s3 : State := { pollStop s2 with smp.reads := rs }
  have hstart : startBand g s = rowEvent s3 := by
    show rowEvent (bandBoundary (pollStop s2)) = _
    rw [hrs]
  have hrow : rowEvent s3 = { rowOutcome { g with created := g.created + 1 } b.context s3 with
      re.band := (rowOutcome { g with created := g.created + 1 } b.context s3).re.band.map (fun x => { x with next := 1 }) } := by
    exact if_neg (show ¬g.bandRows ≤ 0 + 1 by omega)
  rw [hstart, hrow]
  cases hv : g.nextVoid with
  | true =>
    have hk : b.context.kind = .void := by simp [b, Band.context, State.formBand, hv]
    have hout : rowOutcome { g with created := g.created + 1 } b.context s3 =
        sendRow (blankRow g.width) (markPart g b.context) s3 := by
      rw [rowOutcome, hk]
      rfl
    have hb : s.startedBand g = b := by
      rw [State.startedBand, show (s.formBand g).kind = .void from hk]
    refine ⟨[], s.re.fetchBand, s.re.fetchRow, s.re.lowWater, rs, by simp, fun _ => rfl, ?_⟩
    rw [hout, sendRow_eq, hb]
    simp only [if_true, Raster.fetched, List.append_nil]
    rfl
  | false =>
    have hk : b.context.kind = .printed := by simp [b, Band.context, State.formBand, hv]
    obtain ⟨x, rest, hs, hx⟩ := hrow' hv
    have hout : rowOutcome { g with created := g.created + 1 } b.context s3 =
        fireRow { g with created := g.created + 1 } b.context x s3 := by
      rw [rowOutcome, hk]
      dsimp only
      rw [if_neg (by simp [Band.context])]
      rw [show s3.re.slots = x :: rest from hs]
      exact if_pos hx
    have hb : s.startedBand g = b.rowTaken (headReady s.pins.head) (rowClips (s.ps.slots.get g.slot).prof x.words) := by
      rw [State.startedBand, show (s.formBand g).kind = .printed from hk, hs]
      rfl
    have hband : s3.bandOf b.number = some b := by
      rw [State.bandOf, show s3.bt.track = s.bt.track ++ [b] from rfl, List.find?_append,
        List.find?_eq_none.2 (fun y hy => by rw [decide_eq_true_eq]; exact hnum y hy)]
      simp
    have hcomp : ((s3.bandOf b.context.number).map Band.g).getD 1024 = b.g := by
      rw [show s3.bandOf b.context.number = some b from hband]
      rfl
    have htrack : ∀ f : Band → Band, s3.bt.track.map (fun y => if y.number = b.context.number then f y else y) =
        s.bt.track ++ [f b] := fun f => by
      have hold : s.bt.track.map (fun y => if y.number = b.number then f y else y) = s.bt.track :=
        (List.map_congr_left fun y hy => if_neg (hnum y hy)).trans (List.map_id _)
      rw [show s3.bt.track = s.bt.track ++ [b] from rfl, List.map_append, show b.context.number = b.number from rfl, hold]
      simp
    obtain ⟨more, k, i, low, hm, hfire⟩ := fireRow_eq { g with created := g.created + 1 } b.context x s3
    refine ⟨more, k, i, low, rs, hm, fun h => by simp at h, ?_⟩
    rw [hout, hfire, hb, hcomp, htrack, show s3.re.slots = x :: rest from hs, hs]
    rfl

theorem mayStart_iff (s : State) (g : Segment) : s.mayStart g = true ↔
    (s.re.raster = .priming ∨ s.re.raster = .between) ∧ s.re.ending = .none ∧ (g.count = 0 ∨ g.created < g.count) ∧
      s.dc.line = .running ∧ s.re.printEnd ≤ s.bt.pos.paper.nm ∧ (g.created ∈ g.voids ∨ s.cfg.leadRows ≤ s.re.depth) := by
  simp only [State.mayStart, Segment.nextVoid, Bool.and_eq_true, Bool.or_eq_true, beq_iff_eq, decide_eq_true_eq,
    List.contains_iff_mem, and_assoc]
  rfl

theorem accepts_iff (b : Tracker) : b.accepts = true ↔ b.track.length < 96 ∧ b.nextNumber ≤ 4294967295 := by
  rw [Tracker.accepts, Tracker.full, Tracker.exhausted, Bool.and_eq_true, Bool.not_eq_true', Bool.not_eq_true',
    decide_eq_false_iff_not, decide_eq_false_iff_not, not_le, not_lt]
  rfl

/-- A depth of at least 1 is a complete row at the head of the buffer. -/
theorem head_complete_of_depth {r : Raster} (h : 1 ≤ r.depth) : ∃ x rest, r.slots = x :: rest ∧ x.complete = true := by
  unfold Raster.depth at h
  cases hs : r.slots with
  | nil => simp [hs] at h
  | cons x rest =>
    refine ⟨x, rest, rfl, ?_⟩
    by_contra hc
    simp [hs, hc] at h

end Sys2Proof.Machine
end

section
namespace Sys2Proof.Proofs

open Sys2Proof.Machine

/-- Settles O26: `startBand_eq` is the start with its row event 0; the other two outcomes change the track-full wait alone. -/
theorem bandStart : Obligations.BandStart := by
  intro l g s hp hg u may p
  have hmay : (u.mayStart g = true) ↔ may := mayStart_iff u g
  let v : State := { u with out := [] }
  have hrun : exec (.bandStart l) s = .next (kick (tryBandStart v)) := congrArg _ (commandAt_eq hp l _)
  have htry : tryBandStart v = if u.mayStart g = true then
      if u.bt.accepts = true then startBand g v
      else if u.re.fullWait = true then v else { v with re.fullWait := true, re.gaps := satAdd max32 u.re.gaps 1 }
    else { v with re.fullWait := false } := by
    rw [tryBandStart, show v.re.seg = some g from hg]
    rfl
  refine ⟨?_, fun hm hfull => ?_, fun hm => ?_⟩
  · intro hm htk hnn hrows hlead hnum ready kind row prof
    obtain ⟨-, -, -, hline, -, hdepth⟩ := id hm
    have hvoid : g.nextVoid = true ↔ g.created ∈ g.voids := List.contains_iff_mem
    have hrow : g.nextVoid = false → ∃ x rest, v.re.slots = x :: rest ∧ x.complete = true := fun hv => by
      have hd : s.cfg.leadRows ≤ s.re.depth := hdepth.resolve_left (fun h => by rw [← hvoid, hv] at h; cases h)
      exact head_complete_of_depth (r := s.re) (by omega)
    obtain ⟨more, k, i, low, rs, hmore, hnone, hstart⟩ := startBand_eq (s := v) hline hrows hrow (fun b hb => (hnum b hb).ne)
    have hkind : (v.formBand g).kind = kind := if_congr hvoid rfl rfl
    have hrowvoid : kind = .void ↔ g.created ∈ g.voids := by simp [kind]
    have hrowkind : ∀ x y : List (Ink Nat), (if kind = .void then x else y) = if g.nextVoid = true then x else y :=
      fun x y => if_congr (hrowvoid.trans hvoid.symm) rfl rfl
    rw [startedBand_eq v g hkind (headReady_iff l.head)] at hstart
    obtain ⟨t, ht, hk⟩ : ∃ t, exec (.bandStart l) s = .next t ∧ Becomes (startBand g v) [] t :=
      ⟨_, by rw [hrun, htry, if_pos (hmay.2 hm), if_pos ((accepts_iff u.bt).2 ⟨htk, hnn⟩)], kick_becomes _⟩
    have hframe : Frame [.tr, .re, .bt] [] u t := by
      refine Frame.becomes (ns := []) (u := startBand g v) ?_ hk
      rw [hstart]
      exact frame_of_blocks (htr := .inl (by decide)) (hre := .inl (by decide)) (hbt := .inl (by decide))
    have hbt := hk.bt.trans (congrArg State.bt hstart)
    have hre := hk.re.trans (congrArg State.re hstart)
    have htr := hk.tr.trans (congrArg State.tr hstart)
    have hout := hk.out.trans (congrArg State.out hstart)
    refine ⟨t, _, ht, hframe, congrArg Tracker.track hbt, congrArg Tracker.nextNumber hbt, rfl, rfl, rfl, hkind, rfl, rfl, rfl,
      rfl, rfl, rfl, rfl, rfl, rfl, rfl, rfl, rfl, rfl, rfl, rfl, rfl, rfl, congrArg Raster.raster hre, congrArg Raster.seg hre,
      congrArg Raster.printEnd hre, congrArg Raster.lastStarted hre, congrArg Raster.fullWait hre,
      congrArg Reader.pollRunning htr, ⟨?_, ?_⟩, fun hv => ?_, fun hpr => ⟨more, ?_, hmore⟩, congrArg Tracker.tallies hbt⟩
    · rw [hre]
      simp only [Raster.fetched, Band.context, hkind]
      rfl
    · rw [hout]
      have hc : (v.formBand g).context =
          { number := (v.formBand g).number, index := (v.formBand g).index, kind := kind,
            l0 := (v.formBand g).l0, p := (v.formBand g).p, next := 0, blank := false } := by
        rw [Band.context, hkind]
      rw [hc]
      exact (List.nil_append _).trans (if_congr (headReady_iff l.head) (by rw [hrowkind]; rfl) rfl)
    · rw [congrArg Raster.slots hre, hnone (hvoid.2 (hrowvoid.1 hv))]
      exact (List.append_nil _).trans (if_pos (hvoid.2 (hrowvoid.1 hv)))
    · rw [congrArg Raster.slots hre]
      exact congrArg (· ++ more) (if_neg (fun h => by rw [hrowvoid.2 (hvoid.1 h)] at hpr; cases hpr))
  · refine ⟨_, hrun, ?_⟩
    have hno : ¬u.bt.accepts = true := fun h => by
      obtain ⟨h1, h2⟩ := (accepts_iff u.bt).1 h
      exact hfull.elim (not_le.2 h1) (not_lt.2 h2)
    rw [htry, if_pos (hmay.2 hm), if_neg hno]
    have hgaps : (if u.re.fullWait = true then v else { v with re.fullWait := true, re.gaps := satAdd max32 u.re.gaps 1 }) =
        { v with re.fullWait := true,
                 re.gaps := if s.re.fullWait then s.re.gaps else min 4294967295 (s.re.gaps + 1) } := by
      by_cases hw : s.re.fullWait = true
      · rw [if_pos (show u.re.fullWait = true from hw), if_pos hw]
        have hre : v.re = { v.re with fullWait := true } := by
          rw [show v.re = s.re from rfl, ← hw]
        exact congrArg (fun x => { v with re := x }) hre
      · rw [if_neg (show ¬u.re.fullWait = true from hw), if_neg hw]
        rfl
    rw [hgaps]
    exact kick_becomes _
  · refine ⟨_, hrun, ?_⟩
    rw [htry, if_neg (fun h => hm (hmay.1 h))]
    exact kick_becomes _

end Sys2Proof.Proofs
end

section
/-! Bursts (10 R185, R186): the transfer whose burst ends, the words it writes, and what its end without error or by an error leads to. -/

namespace Sys2Proof.Machine

/-! ## The words of a write burst -/

/-- The bus writes of the next `n` words of a transfer, as many of them as there are. -/
def Transfer.put (x : Transfer) (n : Nat) : List Output :=
  (List.range (x.next n).length).map (fun i => .busWrite (x.addr + 4 * x.moved + 4 * i) ((x.next n).getD i 0))

theorem emitWrites_eq (ws : List Word) : ∀ (addr : Nat) (s : State), emitWrites addr ws s =
    { s with out := s.out ++ (List.range ws.length).map (fun i => .busWrite (addr + 4 * i) (ws.getD i 0)) } := by
  induction ws with
  | nil => simp [emitWrites]
  | cons w ws ih =>
    intro addr s
    rw [emitWrites, ih, List.length_cons, List.range_succ_eq_map]
    have haddr : ∀ i : Nat, addr + 4 + 4 * i = addr + 4 * (i + 1) := fun i => by omega
    simp [emit, Function.comp_def, haddr]

theorem emitWrites_next (x : Transfer) (n : Nat) (s : State) :
    emitWrites (x.addr + 4 * x.moved) (x.next n) s = { s with out := s.out ++ x.put n } := emitWrites_eq _ _ _

/-- Where the transfer has that many words left, these are the statements' bus writes. -/
theorem put_eq_written {x : Transfer} {n : Nat} (h : x.moved + n ≤ x.words.length) : x.put n = x.written n := by
  have hlen : (x.next n).length = n := by
    rw [Transfer.next, List.length_take, List.length_drop]
    omega
  unfold Transfer.put Transfer.written
  rw [hlen]
  refine List.map_congr_left fun i hi => ?_
  have hi' : i < n := List.mem_range.1 hi
  have haddr : x.addr + 4 * x.moved + 4 * i = x.addr + 4 * (x.moved + i) := by omega
  have hword : (x.next n).getD i 0 = x.words.getD (x.moved + i) 0 := by
    simp [Transfer.next, List.getD_eq_getElem?_getD, hi']
  rw [haddr, hword]

/-! ## The burst in progress -/

theorem queue_setGrant (p : Port) (o : Option Grant) (c : Client) : ({ p with grant := o } : Port).queue c = p.queue c := by
  cases c <;> rfl

theorem burstEnd_none {s : State} (ws : List Word) (h : s.smp.grant = none) : burstEnd ws s = s := by
  unfold burstEnd
  rw [h]

theorem burstEnd_dropped {s : State} {g : Grant} (ws : List Word) (h : s.smp.grant = some g) (hd : g.dropped = true) :
    burstEnd ws s = { s with smp.grant := none } := by
  unfold burstEnd
  rw [h]
  exact if_pos hd

theorem busError_none {s : State} (n : Nat) (h : s.smp.grant = none) : busError n s = s := by
  unfold busError
  rw [h]

section
variable {s : State} {g : Grant} {x : Transfer} {rest : List Transfer} (hg : s.smp.grant = some g) (hd : g.dropped = false)
  (hq : s.smp.queue g.client = x :: rest)

include hg hd hq

/-- The burst that ends is one of the transfer at the head of its client's queue. -/
theorem burstEnd_transfer (ws : List Word) : burstEnd ws s = transferBurst g.client x rest g ws { s with smp.grant := none } := by
  obtain ⟨c, n, d⟩ := g
  unfold burstEnd
  rw [hg]
  cases c with
  | row => exact absurd hq (by simp [Port.queue])
  | write | read | copy =>
    dsimp only at hd hq ⊢
    rw [if_neg (by simp [hd]), queue_setGrant, hq]

/-- Where the burst is the transfer's last one, it is that transfer's event. -/
theorem finishes_last {ws : List Word} (hl : x.left ≤ x.moves g ws) (p : Transfer → Bool) : s.finishes ws p = p x := by
  obtain ⟨c, n, d⟩ := g
  have hf : s.finishing ws = some (.transfer x) := by
    unfold State.finishing
    rw [hg]
    cases c with
    | row => exact absurd hq (by simp [Port.queue])
    | write | read | copy =>
      dsimp only at hd hq ⊢
      rw [if_neg (by simp [hd]), hq]
      exact if_pos hl
  rw [State.finishes, hf]

end

/-- The words of a burst of this transfer have moved. -/
def State.burstMoved (s : State) (x : Transfer) (n : Nat) (ws : List Word) : State :=
  if x.isWrite then { s with out := s.out ++ x.put n } else stageWords x (ws.take n) s

theorem transferBurst_last {c : Client} {x : Transfer} {rest : List Transfer} {g : Grant} {ws : List Word} {s : State}
    (hl : x.left ≤ x.moves g ws) : transferBurst c x rest g ws s =
      transferEnded (x.after (x.moves g ws) ws) { s.burstMoved x (x.moves g ws) ws with
        smp := (s.burstMoved x (x.moves g ws) ws).smp.setQueue c rest } := by
  have h0 : (x.after (x.moves g ws) ws).left = 0 := Nat.sub_eq_zero_of_le hl
  unfold transferBurst State.burstMoved
  rw [← emitWrites_next]
  exact if_pos h0

theorem transferBurst_more {c : Client} {x : Transfer} {rest : List Transfer} {g : Grant} {ws : List Word} {s : State}
    (hl : x.moves g ws < x.left) : transferBurst c x rest g ws s =
      { s.burstMoved x (x.moves g ws) ws with
        smp := (s.burstMoved x (x.moves g ws) ws).smp.setQueue c (x.after (x.moves g ws) ws :: rest) } := by
  have h0 : (x.after (x.moves g ws) ws).left ≠ 0 := by
    show x.left - x.moves g ws ≠ 0
    omega
  unfold transferBurst State.burstMoved
  rw [← emitWrites_next]
  exact if_neg h0

/-! ## Bus errors -/

/-- The port and the bus once a burst has been cut off after `n` words (10 R186). -/
def State.cut (s : State) (x : Transfer) (g : Grant) (n : Nat) : State :=
  raise .port { s with out := s.out ++ (if x.isWrite then x.put (min n g.words) else []), smp.grant := none }

theorem busError_dropped {s : State} {g : Grant} (n : Nat) (hg : s.smp.grant = some g) (hd : g.dropped = true) :
    busError n s = raise .port { s with smp.grant := none } := by
  have hcut : cutBurst n s = s := by
    unfold cutBurst
    rw [hg]
    dsimp only
    split
    · rfl
    · exact if_neg (by simp [hd])
  unfold busError
  rw [hg, hcut]
  exact if_pos hd

theorem busError_transfer {s : State} {g : Grant} {x : Transfer} {rest : List Transfer} (n : Nat) (hg : s.smp.grant = some g)
    (hd : g.dropped = false) (hq : s.smp.queue g.client = x :: rest) :
    busError n s = transferFailed g.client x rest (s.cut x g n) := by
  have hcut : cutBurst n s = { s with out := s.out ++ (if x.isWrite then x.put (min n g.words) else []) } := by
    unfold cutBurst
    rw [hg]
    dsimp only
    rw [hq]
    dsimp only
    cases hw : x.isWrite with
    | true => simp [hd, emitWrites_next]
    | false => simp
  have hcut' : raise .port { cutBurst n s with smp.grant := none } = s.cut x g n := by
    rw [hcut]
    rfl
  unfold busError
  rw [hg]
  dsimp only
  rw [hcut', if_neg (by simp [hd])]
  have hq' : (s.cut x g n).smp.queue g.client = x :: rest := by
    rw [← hq]
    cases g.client <;> rfl
  obtain ⟨c, k, d⟩ := g
  cases c with
  | row => exact absurd hq (by simp [Port.queue])
  | write | read | copy =>
    dsimp only at hq' ⊢
    rw [hq']

end Sys2Proof.Machine
end

section
/-! Finalisation and the port: operations that look neither at client 3's queue nor at the arbiter keep `Becomes`, and what a
finalisation leaves (01 R20 to R22, 07 R149). -/

namespace Sys2Proof.Machine

theorem autoCount_eq (s : State) : autoCount s = { s with mr := s.counted } := by
  unfold autoCount State.counted
  cases s.cfg.counterMode <;> rfl

/-! ## Operations that keep `Becomes` -/

section
variable {ns : List Notice} {u t : State}

theorem Becomes.queueWrite (h : Becomes u ns t) (x : Transfer) : Becomes (queueWrite x u) ns (queueWrite x t) := by
  rw [becomes_iff] at *
  obtain ⟨he, h1, h2, h3, h4, h5, h6, h7, h8, h9, h10⟩ := h
  refine ⟨by rw [he]; rfl, h1, h2, h3, h4, h5, h6, h7, ?_, h9, h10⟩
  exact congrArg (· ++ [x]) h8

theorem Becomes.modTally (h : Becomes u ns t) (id : Nat) (f : Tally → Tally) : Becomes (modTally id f u) ns (modTally id f t) :=
  h.setBt (fun b => { b with tallies := b.tallies.map (fun y => if y.id = id then f y else y) })

theorem Becomes.queueHeader (h : Becomes u ns t) (addr : Nat) (w : HeaderWrite) :
    Becomes (queueHeader addr w u) ns (queueHeader addr w t) := by
  unfold Machine.queueHeader
  rw [h.writes]
  split
  · rw [becomes_iff] at *
    obtain ⟨he, h1, h2, h3, h4, h5, h6, h7, -, h9, h10⟩ := h
    exact ⟨by rw [he], h1, h2, h3, h4, h5, h6, h7, rfl, h9, h10⟩
  · exact h.queueWrite _

theorem Becomes.queueSegmentHeader (h : Becomes u ns t) (addr : Nat) (notify : Bool) (st : TicketState) (status : Status) :
    Becomes (queueSegmentHeader addr notify st status u) ns (queueSegmentHeader addr notify st status t) := by
  unfold Machine.queueSegmentHeader
  rw [h.tr]
  refine Becomes.queueHeader ?_ _ _
  split
  · exact h.tr ▸ h.setTr (fun r => { r with awaitSeg := none })
  · exact h

theorem Becomes.autoCount (h : Becomes u ns t) : Becomes (autoCount u) ns (autoCount t) := by
  have hc : t.counted = u.counted := by rw [State.counted, State.counted, h.cfg, h.mr]
  rw [autoCount_eq, autoCount_eq, hc]
  exact h.setMr (fun _ => u.counted)

theorem Becomes.signalFinal (h : Becomes u ns t) (e : Tally) : Becomes (signalFinal e u) ns (signalFinal e t) :=
  ((h.setBt (fun b => { b with tallies := b.tallies.filter (fun y => y.id != e.id) })).autoCount).queueSegmentHeader _ _ _ _

theorem Becomes.queueCounts (h : Becomes u ns t) (why : CountsFor) (e : Tally) :
    Becomes (queueCounts why e u) ns (queueCounts why e t) := (h.queueWrite _).modTally _ _

theorem Becomes.tallyOf (h : Becomes u ns t) (id : Nat) : t.tallyOf id = u.tallyOf id := by
  rw [State.tallyOf, State.tallyOf, h.bt]

theorem Becomes.finalise (h : Becomes u ns t) (id : Nat) : Becomes (finalise id u) ns (finalise id t) := by
  unfold Machine.finalise
  rw [h.tallyOf]
  cases u.tallyOf id with
  | none => exact h
  | some e =>
    dsimp only
    split
    · exact h
    · split
      · exact (h.modTally _ _).queueCounts _ _
      · exact h.signalFinal e

end

/-! ## A finalisation -/

theorem resultBody_eq (e : Tally) : e.resultBody = e.addr + 132 := Nat.add_assoc _ _ _

/-- A finalisation begins with its counts write where its counts have changed since the last one (01 R22, step 1). -/
theorem finalise_stale {id : Nat} {e : Tally} {s : State} (h : OneTally id e s.bt.tallies) (hc : e.closing = false)
    (hs : e.stale = true) : finalise id s = { s with
      bt.tallies := s.bt.tallies.map (fun y => if y = e then { e with closing := true, stale := false } else y),
      smp.writes := s.smp.writes ++ [writeOf (.countsWrite (.finalise id)) (e.addr + 132) (countsWords e)] } := by
  have hf : s.tallyOf id = some e := h.find
  have hcounts : ∀ x : State, queueCounts (.finalise id) e x = modTally id (fun u => { u with stale := false })
      (queueWrite (writeOf (.countsWrite (.finalise id)) (e.addr + 132) (countsWords e)) x) := fun x => by
    rw [queueCounts, h.id_eq, resultBody_eq]
  unfold finalise
  rw [hf]
  dsimp only
  rw [if_neg (by simp [hc]), if_pos hs, hcounts]
  refine (modTally_modTally id (fun u => { u with closing := true }) (fun u => { u with stale := false }) (fun _ => rfl)
    (queueWrite (writeOf (.countsWrite (.finalise id)) (e.addr + 132) (countsWords e)) s)).trans ?_
  unfold modTally queueWrite
  rw [h.map_eq (fun u => { u with closing := true, stale := false })]

/-- A header write is queued where no TAKEN write of the same ticket is being repeated (09 R168). -/
theorem queueHeader_append {addr : Nat} {h : HeaderWrite} {s : State} (hw : ∀ y ∈ s.smp.writes, y.isRepeatedTaken addr = false) :
    queueHeader addr h s = queueWrite (headerTransfer addr h) s := by
  have hany : s.smp.writes.any (Transfer.isRepeatedTaken addr) = false := by simpa using hw
  unfold queueHeader
  rw [hany, Bool.and_false]
  exact if_neg Bool.false_ne_true

/-- The signal of a finalisation that TR does not wait for, no TAKEN write of its ticket being repeated (01 R22, steps 2 and 3). -/
theorem signalFinal_eq {e : Tally} {s : State} (ha : s.tr.awaitSeg = none) (hw : ∀ y ∈ s.smp.writes, y.isRepeatedTaken e.addr = false) :
    signalFinal e s = { s with
      bt.tallies := s.bt.tallies.filter (fun y => y.id ≠ e.id), mr := s.counted,
      smp.writes := s.smp.writes ++ [segmentFinal e] } := by
  have hf : segmentFinal e = headerTransfer e.addr
      { state := e.cause.final.1, status := e.cause.final.2, detail := 0, notify := e.notify, role := .segment false,
        repeating := false } := by
    unfold segmentFinal
    cases e.cause <;> rfl
  have hawait : ∀ x : State, x.tr.awaitSeg = none → queueSegmentHeader e.addr e.notify e.cause.final.1 e.cause.final.2 x =
      queueHeader e.addr { state := e.cause.final.1, status := e.cause.final.2, detail := 0, notify := e.notify,
                           role := .segment false, repeating := false } x := fun x hx => by
    unfold queueSegmentHeader
    rw [hx]
    rfl
  have hfilter : s.bt.tallies.filter (fun y => y.id != e.id) = s.bt.tallies.filter (fun y => y.id ≠ e.id) :=
    List.filter_congr fun y _ => by by_cases hy : y.id = e.id <;> simp [hy]
  rw [signalFinal, autoCount_eq, hf, hawait, queueHeader_append, hfilter]
  · rfl
  · exact hw
  · exact ha

end Sys2Proof.Machine
end

section
/-! The taking of a SEGMENT (02 R29, R33, R51, 01 R21, 09 R172). -/

namespace Sys2Proof.Machine

/-! ## The take checks -/

theorem firstFail_eq_none_iff (l : List (Nat × Bool)) : firstFail l = none ↔ ∀ c ∈ l, c.2 = true := by
  simp [firstFail]

/-- A SEGMENT that passes its checks has bands of at least 64 rows. -/
theorem bandRows_of_takeCheck {t : Ticket} {s : State} (hk : t.kind = .segment) (h : takeCheck t s = none) : 64 ≤ natAt t.body 4 := by
  have hfirst : firstFail (segmentChecks t.body) = none := by
    unfold takeCheck at h
    rw [hk] at h
    cases hf : firstFail (segmentChecks t.body) with
    | none => rfl
    | some i =>
      dsimp only at h
      rw [hf] at h
      cases h
  have hrows : inN (natAt t.body 4) 64 16384 = true :=
    (firstFail_eq_none_iff _).1 hfirst (5, inN (natAt t.body 4) 64 16384) (by simp [segmentChecks])
  simp [inN] at hrows
  omega

/-! ## The first fetches (02 R33) -/

/-- The slots of the first rows of band 0, none of them fetched yet. -/
def Segment.firstRows (g : Segment) (n : Nat) : List RowSlot := (List.range n).map (fun i =>
  { band := 0, row := i, repeatRow := (g.first + i) % g.rows, words := [], complete := false })

/-- RE fetching band 0 of a segment, `n` row fetches started. -/
def Raster.fetchingFirst (r : Raster) (g : Segment) (n : Nat) : Prop :=
  r.seg = some g ∧ r.fetchOn = true ∧ r.ending = .none ∧ r.fetchBand = 0 ∧ r.fetchRow = n ∧ r.slots = g.firstRows n

theorem fetchOne_first {g : Segment} {n : Nat} {s : State} (h : s.re.fetchingFirst g n) (hv : 0 ∉ g.voids) (hn : n < 32)
    (hrows : 64 ≤ g.bandRows) :
    fetchOne s = { s with re.slots := g.firstRows (n + 1), re.fetchBand := 0, re.fetchRow := n + 1 } := by
  obtain ⟨hseg, hon, hend, hband, hrow, hslots⟩ := h
  have hskip : skipVoids g.voids g.voids.length 0 = 0 := by
    cases g.voids.length with
    | zero => rfl
    | succ k => simp [skipVoids, hv]
  have hk : s.re.nextBand g = 0 := by
    rw [Raster.nextBand, hband, hskip, ite_self]
  have hmay : s.re.mayFetchBand g 0 = true := by
    simp [Raster.mayFetchBand, hend]
    omega
  have hlen : s.re.slots.length = n := by simp [hslots, Segment.firstRows]
  unfold fetchOne
  rw [hseg]
  dsimp only
  rw [hk, hmay, hon, hlen, if_pos (by simp [Config.slotMax, hn]), hrow, if_neg (by omega), if_neg (by omega), hslots]
  simp [Segment.firstRows, List.range_succ, Segment.repeatRow]

/-- With an empty buffer and a band of at least 64 rows the fetcher asks for the first 32 of them. -/
theorem fetchRun_first {g : Segment} {s : State} (h : s.re.fetchingFirst g 0) (hv : 0 ∉ g.voids) (hrows : 64 ≤ g.bandRows) :
    fetchRun s = { s with re.slots := g.firstRows 32, re.fetchBand := 0, re.fetchRow := 32 } := by
  have htimes : ∀ (k n : Nat) (s : State), s.re.fetchingFirst g n → n + k ≤ 32 → times k fetchOne s =
      { s with re.slots := g.firstRows (n + k), re.fetchBand := 0, re.fetchRow := n + k } := fun k => by
    induction k with
    | zero =>
      intro n s ⟨_, _, _, hband, hrow, hslots⟩ _
      rw [times, Nat.add_zero, ← hslots, ← hrow, ← hband]
    | succ k ih =>
      intro n s hs hle
      obtain ⟨hseg, hon, hend, -⟩ := id hs
      rw [times, fetchOne_first hs hv (by omega) hrows]
      refine (ih (n + 1) _ ?_ ?_).trans ?_
      · exact ⟨hseg, hon, hend, rfl, rfl, rfl⟩
      · omega
      · rw [show n + 1 + k = n + (k + 1) by omega]
  have hlen : s.re.slots.length = 0 := by
    obtain ⟨-, -, -, -, -, hslots⟩ := h
    simp [hslots, Segment.firstRows]
  unfold fetchRun
  rw [hlen]
  exact (htimes 32 0 s h (by omega)).trans (by rw [Nat.zero_add])

/-! ## What comes of a line that does not run -/

/-- No band starts while the line is not RUNNING, and a track-full wait that is not on stays off (02 R36). -/
theorem tryBandStart_still {s : State} (hl : s.dc.line ≠ .running) (hw : s.re.fullWait = false) : tryBandStart s = s := by
  unfold tryBandStart
  cases hseg : s.re.seg with
  | none => rfl
  | some g =>
    have hmay : ¬s.mayStart g = true := fun h => by
      obtain ⟨-, -, -, hrun, -⟩ := (mayStart_iff s g).1 h
      exact hl hrun
    have hre : s.re = { s.re with fullWait := false } := by rw [← hw]
    exact (if_neg hmay).trans (congrArg (fun r => { s with re := r }) hre.symm)

theorem dropGrant_becomes (c : Client) (t : Bool) (s : State) : Becomes s [] (dropGrant c t s) := by
  rw [becomes_iff]
  unfold dropGrant
  (repeat' split) <;> simp [PortStep]

/-- Discarding rows moves nothing but the slots and the arbiter (02 R35). -/
theorem discardSlots_becomes (p : RowSlot → Bool) (s : State) :
    Becomes { s with re.slots := s.re.slots.filter (fun x => !p x) } [] (discardSlots p s) :=
  ((dropGrant_becomes _ _ s).setRe (fun r => { r with slots := r.slots.filter (fun x => !p x) })).trans (idleCounts_becomes _)

/-- RE without a segment (02 R50). -/
def Raster.cleared (r : Raster) : Raster :=
  { r with raster := .idle, seg := none, ending := .none, band := none, slots := [], fetchOn := false, fullWait := false,
           autoRetry := false }

/-- Outside PRINTING the end of a segment is RE's alone (02 R50, R53). -/
theorem clearSegment_becomes {s : State} (h : s.re.raster ≠ .printing) : Becomes { s with re := s.re.cleared } [] (clearSegment s) := by
  have hd := (discardSlots_becomes (fun _ => true) s).setRe (fun r =>
    { r with raster := .idle, seg := none, ending := .none, band := none, fetchOn := false, fullWait := false, autoRetry := false })
  unfold clearSegment
  dsimp only
  rw [if_neg h]
  have hslots : s.re.slots.filter (fun _ => !true) = [] := by simp
  rw [hslots] at hd
  exact hd

/-- Client 3's queue without its ticket reads. -/
def Port.readsCut (p : Port) : Port := { p with reads := p.reads.filter (fun t => !t.isTicketRead) }

theorem Becomes.readsCut {ns : List Notice} {u t : State} (h : Becomes u ns t) :
    Becomes { u with smp := u.smp.readsCut } ns { t with smp := t.smp.readsCut } := by
  rw [becomes_iff] at *
  obtain ⟨he, h1, h2, h3, h4, h5, h6, h7, h8, h9, h10⟩ := h
  exact ⟨by rw [he], h1, h2, h3, h4, h5, h6, h7, h8, h9, by simp [Port.readsCut]⟩

theorem abandonTicketRead_becomes (s : State) : Becomes { s with smp := s.smp.readsCut } [] (abandonTicketRead s) :=
  (dropGrant_becomes .read ((s.smp.reads.head?.map Transfer.isTicketRead).getD false) s).readsCut.trans (idleCounts_becomes _)

/-- TR leaves HOLDING with no ticket at it and no halt pending: it abandons its read-ahead and waits for the segment's write (09
R174b). -/
theorem leaveHolding_becomes {addr : Nat} {s : State} (hr : s.tr.reader = .holding) (ht : s.tr.ticket = none)
    (hh : s.tr.haltReq = false) :
    Becomes { s with smp := s.smp.readsCut, tr := { s.tr with reader := .reading, awaitSeg := some addr } } [] (leaveHolding addr s) := by
  have hs : { s with tr.ticket := none } = s := by rw [← ht]
  have hk := abandonTicketRead_becomes s
  unfold leaveHolding
  rw [hr]
  dsimp only
  rw [if_neg (by simp [ht]), hs, if_neg (by rw [hk.tr, hh]; simp)]
  exact hk.setTr (fun r => { r with reader := .reading, awaitSeg := some addr })

/-- The permission test of a start (06 R114). -/
theorem startTest_eq (s : State) : s.startTest =
    if s.hc.drum ≠ .atTemp then some .drumNotReady
    else if s.dc.nip ≠ .opened then some .nipNotOpen
    else if (∀ w ∈ s.dc.webs.toList, w.inRange = true) ∧ s.pins.broken = ⟨false, false, false⟩ then none
    else some .sensor := by
  have hsensor : (!(s.dc.webs.toList.all WebLoop.inRange) || s.pins.broken.paper || s.pins.broken.infeed || s.pins.broken.drum) = true ↔
      ¬((∀ w ∈ s.dc.webs.toList, w.inRange = true) ∧ s.pins.broken = ⟨false, false, false⟩) := by
    rw [← List.all_eq_true]
    obtain ⟨p, i, d⟩ := s.pins.broken
    cases p <;> cases i <;> cases d <;> simp
  exact if_congr Iff.rfl rfl (if_congr Iff.rfl rfl ((if_congr hsensor rfl rfl).trans (ite_not ..)))

/-- The cause of a refusal is the first condition that fails. -/
theorem startTest_refused {s : State} (h : ¬(s.hc.drum = .atTemp ∧ s.dc.nip = .opened ∧ (∀ w ∈ s.dc.webs.toList, w.inRange = true) ∧
      s.pins.broken = ⟨false, false, false⟩)) :
    s.startTest = some (if s.hc.drum ≠ .atTemp then .drumNotReady else if s.dc.nip ≠ .opened then .nipNotOpen else .sensor) := by
  rw [startTest_eq]
  by_cases h1 : s.hc.drum = .atTemp
  · rw [if_neg (not_not.2 h1), if_neg (not_not.2 h1)]
    by_cases h2 : s.dc.nip = .opened
    · rw [if_neg (not_not.2 h2), if_neg (not_not.2 h2), if_neg (fun h3 => h ⟨h1, h2, h3⟩)]
    · rw [if_pos h2, if_pos h2]
  · rw [if_pos h1, if_pos h1]

/-! ## The SEGMENT taken -/

/-- The tally entry of a SEGMENT as it opens (01 R21). -/
def Ticket.tally (t : Ticket) (id : Nat) : Tally :=
  { id := id, addr := t.addr, notify := segmentNotify t, area := address (wordAt t.body 10), capacity := natAt t.body 11,
    created := 0, inTrack := 0, good := 0, suspect := 0, reject := 0, void := 0, written := 0, dropped := 0, discarded := 0,
    printed := false, cause := .ok, stale := true, closing := false }

/-- A SEGMENT's TAKEN write. -/
def Ticket.takenWrite (t : Ticket) : Transfer := headerTransfer t.addr
  { state := .taken, status := .ok, detail := 0, notify := t.notify, role := .take t.kind, repeating := false }

/-- The state once a SEGMENT has been taken, before its AUTO_START asks. -/
def State.segmentTaken (t : Ticket) (s : State) : State :=
  { s with
    smp.writes := s.smp.writes ++ [t.takenWrite],
    tr := { s.tr with ticket := none, reader := .holding, step := .link },
    bt := { s.bt with nextTally := s.bt.nextTally + 1, tallies := s.bt.tallies ++ [t.tally s.bt.nextTally] },
    dc.nipHold := 0,
    re := { s.re with
      raster := .priming, seg := some (segmentOf s.bt.nextTally t.addr t.body), ending := .none, band := none, fetchOn := true,
      fetchBand := 0, fetchRow := 32, serial := t.serial, fullWait := false, autoRetry := false,
      slots := (segmentOf s.bt.nextTally t.addr t.body).firstRows 32 } }

theorem takeSegment_eq {t : Ticket} {s : State} (hs : s.re.slots = []) (hv : 0 ∉ voidsOf t.body) (hrows : 64 ≤ natAt t.body 4) :
    takeSegment t s = tryBandStart (autoStart (s.segmentTaken t)) := by
  have hw : writeTaken t s = { s with smp.writes := s.smp.writes ++ [t.takenWrite] } := rfl
  unfold takeSegment
  dsimp only
  rw [hw]
  refine congrArg (fun x => tryBandStart (autoStart x)) ?_
  refine (fetchRun_first (g := segmentOf s.bt.nextTally t.addr t.body) ?_ ?_ ?_).trans ?_
  · exact ⟨rfl, rfl, rfl, rfl, rfl, hs⟩
  · exact hv
  · exact hrows
  · rfl

theorem bodyDone_takes {t : Ticket} {ws : List Word} {s : State} (ht : s.tr.ticket = some t) (hh : s.tr.haltReq = false)
    (hk : t.kind = .segment) (hcheck : takeCheck { t with body := ws } s = none) (hs : s.re.slots = []) (hv : 0 ∉ voidsOf ws) :
    bodyDone ws s = tryBandStart (autoStart (s.segmentTaken { t with body := ws })) := by
  have hhalt : ¬s.haltsRead = true := by simp [State.haltsRead, hh]
  unfold bodyDone checkTicket
  rw [ht]
  dsimp only
  rw [if_neg hhalt, hcheck, hk]
  exact takeSegment_eq hs hv (bandRows_of_takeCheck (t := { t with body := ws }) hk hcheck)

/-! ## Its AUTO_START (02 R51) -/

/-- A PRIMING segment with AUTO_START finds the line STOPPED. -/
def State.autoStarts (s : State) : Prop :=
  s.re.raster = .priming ∧ (s.re.seg.map Segment.autoStart).getD false = true ∧ s.dc.line = .stopped

theorem autoStart_none {s : State} (h : ¬s.autoStarts) : autoStart s = s := if_neg h

theorem autoStart_accepted {s : State} (h : s.autoStarts) (ht : s.startTest = none) :
    Becomes { s with re.autoRetry := false,
                     dc := { s.dc with startCause := .none, line := .starting, nipHold := 0,
                                       webs := s.dc.webs.map (fun w => { w with integral := 0, run := 0 }) } } [.line] (autoStart s) := by
  have hline : s.dc.line ≠ .starting := by
    obtain ⟨-, -, hl⟩ := h
    rw [hl]
    decide
  obtain ⟨h1, h2, h3⟩ := id h
  unfold autoStart
  rw [if_pos (And.intro h1 (And.intro h2 h3)), ht]
  exact (setLine_becomes (l := .starting) (s := { s with
    dc.startCause := .none, dc.webs := s.dc.webs.map (fun w => { w with integral := 0, run := 0 }) }) hline).setRe
    (fun r => { r with autoRetry := false })

theorem autoStart_retries {s : State} (h : s.autoStarts) (hd : s.hc.drum = .heating) :
    Becomes { s with re.autoRetry := true, dc.startCause := .drumNotReady } [.line] (autoStart s) := by
  have ht : s.startTest = some .drumNotReady := by
    rw [startTest_eq, if_pos (by rw [hd]; decide)]
  obtain ⟨h1, h2, h3⟩ := id h
  unfold autoStart
  rw [if_pos (And.intro h1 (And.intro h2 h3)), ht]
  dsimp only
  rw [if_pos ⟨rfl, hd⟩]
  exact (raise_becomes .line { s with dc.startCause := .drumNotReady }).setRe (fun r => { r with autoRetry := true })

theorem autoStart_refused {s : State} {c : StartCause} (h : s.autoStarts) (ht : s.startTest = some c) (hd : s.hc.drum ≠ .heating) :
    autoStart s = refuseSegment (refuseStart c s) := by
  obtain ⟨h1, h2, h3⟩ := id h
  unfold autoStart
  rw [if_pos (And.intro h1 (And.intro h2 h3)), ht]
  exact if_neg (fun hc => hd hc.2)

/-- A segment refused at its start: RE is IDLE and its tally entry is finalised with START_REFUSED, TR waiting for its final state. -/
theorem refuseSegment_becomes {g : Segment} {s : State} (hg : s.re.seg = some g) (hp : s.re.raster ≠ .printing)
    (hr : s.tr.reader = .holding) (ht : s.tr.ticket = none) (hh : s.tr.haltReq = false) :
    Becomes (finalise g.tally (modTally g.tally (fun t => { t with cause := .startRefused }) { s with
      re := s.re.cleared, smp := s.smp.readsCut, tr := { s.tr with reader := .reading, awaitSeg := some g.addr } }))
      [] (refuseSegment s) := by
  have hc := (clearSegment_becomes hp).modTally g.tally (fun t => { t with cause := .startRefused })
  have hl := (hc.readsCut.setTr (fun r => { r with reader := .reading, awaitSeg := some g.addr })).trans
    (leaveHolding_becomes (addr := g.addr) (by rw [hc.tr]; exact hr) (by rw [hc.tr]; exact ht) (by rw [hc.tr]; exact hh))
  unfold refuseSegment
  rw [hg]
  exact hl.finalise g.tally

/-- The last burst of a SEGMENT's body, its checks passed (09 R172). -/
theorem bodyBurst_segment {t : Ticket} {x : Transfer} {more : List Transfer} {g : Grant} {ws : List Word} {s : State}
    (hb : BodyArrives t x more g ws s) (hk : t.kind = .segment)
    (hcheck : takeCheck { t with body := x.words ++ ws.take g.words } s = none)
    (hslots : s.re.slots = []) (hv : 0 ∉ voidsOf (x.words ++ ws.take g.words)) :
    ticketStep .segment ws s = tryBandStart (autoStart
      ({ s with smp.grant := none, smp.reads := more }.segmentTaken { t with body := x.words ++ ws.take g.words })) := by
  obtain ⟨-, ht, hphase, hhalt, hreads, hkind, hg, hc, hd, hleft⟩ := hb
  have hq : s.smp.queue g.client = x :: more := by
    rw [hc]
    exact hreads
  have hw : x.isWrite = false := by
    unfold Transfer.isWrite
    rw [hkind]
  have hmoves : x.moves g ws = min ws.length g.words := if_neg (by simp [hw])
  have hlast : x.left ≤ x.moves g ws := by rwa [hmoves]
  have htake : ws.take (min ws.length g.words) = ws.take g.words := by
    rw [← List.take_take, List.take_of_length_le (by simp)]
  have hdue : s.ticketDue ws .segment = true := by
    unfold State.ticketDue
    rw [finishes_last hg hd hq hlast, hkind]
    simp [ht, hk, hphase]
  have hstay : ∀ v : State, v.burstMoved x (x.moves g ws) ws = v := fun v => by
    unfold State.burstMoved stageWords
    rw [if_neg (by simp [hw]), if_neg (by simp [Transfer.isCopy, hkind])]
  have hwords : (x.after (x.moves g ws) ws).words = x.words ++ ws.take g.words := by
    rw [hmoves, ← htake]
    exact if_neg (by simp [hw])
  unfold ticketStep
  rw [if_pos hdue, burstEnd_transfer hg hd hq, transferBurst_last hlast, hstay, hc]
  unfold transferEnded
  rw [show (x.after (x.moves g ws) ws).kind = .bodyRead from hkind]
  dsimp only
  rw [hwords]
  exact bodyDone_takes (t := t) ht hhalt hk hcheck hslots hv

/-! ## The entry just opened -/

section
variable {id : Nat} {e : Tally} {l : List Tally} (hn : ∀ y ∈ l, y.id ≠ id) (he : e.id = id)

include hn he

theorem oneTally_append : OneTally id e (l ++ [e]) := by
  refine ⟨by simp, fun y hy => ?_⟩
  rcases List.mem_append.1 hy with h | h
  · exact ⟨fun hc => absurd hc (hn y h), fun hc => absurd (hc ▸ he) (hn y h)⟩
  · rw [List.mem_singleton.1 h]
    exact ⟨fun _ => rfl, fun _ => he⟩

theorem map_append_tally (f : Tally → Tally) : (l ++ [e]).map (fun y => if y.id = id then f y else y) = l ++ [f e] := by
  rw [List.map_append, List.map_congr_left (g := fun y => y) (fun y hy => if_neg (hn y hy)), List.map_id']
  simp [he]

end

end Sys2Proof.Machine
end

section
namespace Sys2Proof.Proofs

open Sys2Proof.Machine

/-- Settles O18: `bodyBurst_segment` loads the segment and its first 32 fetches, and each answer to its AUTO_START is one lemma. -/
theorem segmentTicket : Obligations.SegmentTicket := by
  intro t x more g ws l s hb hk hrd hcheck hline hidle hslots hv body auto ready taken
  obtain ⟨⟨hp, -⟩, -, -, hhalt, -⟩ := id hb
  let T : Ticket := { t with body := body }
  let V : State := { sampleLines l s with out := [], smp.grant := none, smp.reads := more }
  let W : State := V.segmentTaken T
  have hrun : exec (.segment ws l) s = .next (kick (tryBandStart (autoStart W))) :=
    congrArg Host.Outcome.next ((commandAt_eq hp l _).trans (congrArg kick
      (bodyBurst_segment (s := { sampleLines l s with out := [] }) hb hk hcheck hslots hv)))
  have hauto : W.autoStarts ↔ auto := ⟨fun h => h.2, fun h => ⟨rfl, h⟩⟩
  have htaken : T.takenWrite = taken := by
    simp only [Ticket.takenWrite, taken, T, hk]
  have hframe : ∀ v : State, v.pins = W.pins → v.cfg = W.cfg → v.now = W.now → v.freeCount = W.freeCount → v.pending = W.pending →
      v.smp = W.smp → v.ps = W.ps → v.hc = W.hc → v.mr = W.mr → v.cv = W.cv → Frame [.tr, .re, .bt, .dc] [] (sampleLines l s) v :=
    fun v h1 h2 h3 h4 h5 h6 h7 h8 h9 h10 =>
      frame_of_blocks h1 h2 h3 h4 h5 (by rw [SameRegisters, h6]; exact ⟨rfl, rfl, rfl, rfl, rfl⟩) (by rw [h6]; rfl) (by rw [h6]; rfl)
        (.inl (by decide)) (.inl (by decide)) (.inr h7) (.inl (by decide)) (.inr h8) (.inl (by decide)) (.inr h9) (.inr h10)
  refine ⟨fun ha hready => ?_, fun ha hheat => ?_, fun ha hready hdrum hh hnew => ?_, fun ha => ?_⟩
  · have htest : W.startTest = none := by
      obtain ⟨h1, h2, h3, h4⟩ := hready
      exact (startTest_eq W).trans ((if_neg (not_not.2 h1)).trans ((if_neg (not_not.2 h2)).trans (if_pos ⟨h3, h4⟩)))
    have hw := autoStart_accepted (hauto.2 ha) htest
    have hstill : tryBandStart (autoStart W) = autoStart W := by
      refine tryBandStart_still ?_ ?_
      · rw [hw.dc]
        show LineState.starting ≠ .running
        decide
      · rw [hw.re]
        rfl
    have hu := hw.trans (kick_becomes (autoStart W))
    rw [hrun, hstill]
    refine ⟨_, rfl, hu.after (hframe _ rfl rfl rfl rfl rfl rfl rfl rfl rfl rfl), congrArg Drive.line hu.dc,
      congrArg Drive.startCause hu.dc, congrArg Raster.raster hu.re, congrArg Raster.autoRetry hu.re, congrArg Reader.reader hu.tr,
      hu.writes.trans ?_⟩
    rw [← htaken]
    rfl
  · have hw := autoStart_retries (hauto.2 ha) hheat
    have hstill : tryBandStart (autoStart W) = autoStart W := by
      refine tryBandStart_still ?_ ?_
      · rw [hw.dc]
        exact hline
      · rw [hw.re]
        rfl
    have hu := hw.trans (kick_becomes (autoStart W))
    rw [hrun, hstill]
    refine ⟨_, rfl, hu.after (hframe _ rfl rfl rfl rfl rfl rfl rfl rfl rfl rfl), (congrArg Drive.line hu.dc).trans ha.2,
      congrArg Drive.startCause hu.dc, congrArg Raster.raster hu.re, congrArg Raster.autoRetry hu.re, congrArg Reader.reader hu.tr,
      hu.writes.trans ?_⟩
    rw [← htaken]
    rfl
  · let cause : StartCause := if s.hc.drum ≠ .atTemp then .drumNotReady else if s.dc.nip ≠ .opened then .nipNotOpen else .sensor
    have htest : W.startTest = some cause := startTest_refused (s := W) (fun h => hready h)
    let W1 : State := refuseStart cause W
    let g1 : Segment := segmentOf s.bt.nextTally t.addr body
    let e : Tally := { T.tally s.bt.nextTally with cause := .startRefused }
    have hr := refuseSegment_becomes (g := g1) (s := W1) rfl (by show RasterState.priming ≠ .printing; decide) rfl rfl hhalt
    have hone : OneTally s.bt.nextTally e (s.bt.tallies ++ [e]) := oneTally_append hnew rfl
    let Y : State := { W1 with
      re := W1.re.cleared, smp := W1.smp.readsCut, tr := { W1.tr with reader := .reading, awaitSeg := some g1.addr } }
    let X : State := { Y with bt.tallies := s.bt.tallies ++ [e] }
    have hcause : modTally g1.tally (fun t => { t with cause := .startRefused }) Y = X :=
      congrArg (fun x => { X with bt.tallies := x }) (map_append_tally (e := T.tally s.bt.nextTally) hnew rfl _)
    rw [hcause, finalise_stale (s := X) (id := g1.tally) (e := e) hone rfl rfl] at hr
    have hu := hr.trans (kick_becomes (refuseSegment W1))
    have hstill : tryBandStart (refuseSegment W1) = refuseSegment W1 := tryBandStart_idle (by rw [hr.re]; rfl)
    have hW1 : Frame [.tr, .re, .bt, .dc] [.line] (sampleLines l s) W1 :=
      (raise_becomes .line { W with dc.startCause := cause }).after (hframe _ rfl rfl rfl rfl rfl rfl rfl rfl rfl rfl)
    rw [hrun, autoStart_refused (hauto.2 ha) htest hdrum, hstill]
    refine ⟨_, { e with closing := true, stale := false }, rfl,
      hW1.trans (hu.after (frame_of_blocks (htr := .inl (by decide)) (hre := .inl (by decide)) (hbt := .inl (by decide)) (hdc := .inl (by decide)))),
      (congrArg Drive.line hu.dc).trans ha.2, (congrArg Drive.startCause hu.dc).trans rfl, congrArg Raster.raster hu.re,
      congrArg Raster.seg hu.re, congrArg Raster.slots hu.re, congrArg Reader.reader hu.tr, (congrArg Tracker.tallies hu.bt).trans ?_,
      rfl, rfl, rfl, hu.writes.trans ?_⟩
    · exact ((hone.map_eq (fun u => { u with closing := true, stale := false })).symm.trans (map_append_tally (e := e) hnew rfl _))
    · rw [← htaken]
      exact List.append_assoc ..
  · rw [hrun, autoStart_none (mt hauto.1 ha), tryBandStart_still (s := W) hline rfl]
    have hu := kick_becomes W
    refine ⟨_, rfl, hu.after (hframe _ rfl rfl rfl rfl rfl rfl rfl rfl rfl rfl), hu.out, hu.tr, hu.dc, hu.bt,
      congrArg Raster.raster hu.re, congrArg Raster.ending hu.re, congrArg Raster.band hu.re, congrArg Raster.serial hu.re,
      (congrArg Raster.printEnd hu.re).trans rfl, congrArg Raster.seg hu.re, congrArg Raster.slots hu.re, hu.copies, hu.ticketReads,
      hu.writes.trans ?_⟩
    rw [← htaken]
    rfl

end Sys2Proof.Proofs
end

section
/-! The writes of a retirement and of a finalisation, as they end (01 R19, R20, R22, 02 R50). -/

namespace Sys2Proof.Machine

/-! ## A tally entry that leaves the list -/

theorem OneTally.filter {id : Nat} {e : Tally} {l : List Tally} (h : OneTally id e l) :
    l.filter (fun y => y.id ≠ id) = l.filter (fun y => y ≠ e) := List.filter_congr fun y hy => by simp [h.2 y hy]

/-- A change of the entry before it leaves is not seen. -/
theorem OneTally.filter_map {id : Nat} {e e' : Tally} {l : List Tally} (h : OneTally id e l) (he' : e'.id = id) :
    (l.map (fun y => if y = e then e' else y)).filter (fun y => y.id ≠ id) = l.filter (fun y => y ≠ e) := by
  have htest : ∀ y ∈ l, ((fun y : Tally => decide (y.id ≠ id)) ∘ fun y => if y = e then e' else y) y = decide (y ≠ e) := fun y hy => by
    by_cases hye : y = e
    · simp [hye, he']
    · simp [hye, h.2 y hy]
  rw [List.filter_map, List.filter_congr htest]
  refine (List.map_congr_left fun y hy => ?_).trans (List.map_id _)
  exact if_neg (by simpa using (List.mem_filter.1 hy).2)

/-! ## The end of a record write -/

/-- A record write that ends counts the record written, or dropped where it failed, and makes the counts write (01 R19, R20). -/
theorem recordEnded_eq {ok : Bool} {b : Band} {tl : List Band} {e : Tally} {s : State} (ht : s.bt.track = b :: tl)
    (he : OneTally b.tally e s.bt.tallies) {f : Tally → Tally} (hf : f = fun u =>
      if ok then { u with written := u.written + 1, stale := true } else { u with dropped := u.dropped + 1, stale := true }) :
    recordEnded ok s = { s with
      bt.retiring := some .counts,
      bt.tallies := s.bt.tallies.map (fun y => if y = e then { f e with stale := false } else y),
      smp.writes := s.smp.writes ++ [writeOf (.countsWrite .retirement) ((f e).addr + 132) (countsWords (f e))] } := by
  have hid : ∀ y : Tally, (f y).id = y.id := fun y => by
    rw [hf]
    cases ok <;> rfl
  unfold recordEnded
  rw [ht]
  dsimp only
  rw [← hf]
  exact startCounts_modTally he hid

/-! ## The end of a counts write -/

/-- The state once the head record has been removed, its entry with a band less in the track (01 R20). -/
def State.headRemoved (b : Band) (tl : List Band) (e : Tally) (s : State) : State :=
  { s with bt := { s.bt with
      track := tl, retiring := none, lastRetired := b.number,
      tallies := s.bt.tallies.map (fun y => if y = e then { e with inTrack := e.inTrack - 1 } else y) } }

theorem removeHead_becomes {b : Band} {tl : List Band} {e : Tally} {s : State} (ht : s.bt.track = b :: tl)
    (he : OneTally b.tally e s.bt.tallies) : Becomes (s.headRemoved b tl e) [] (removeHead s) := by
  unfold removeHead
  rw [ht]
  dsimp only
  have hm : modTally b.tally (fun u => { u with inTrack := u.inTrack - 1 })
      { s with bt.track := tl, bt.retiring := none, bt.lastRetired := b.number } = s.headRemoved b tl e := by
    unfold modTally
    dsimp only
    rw [he.map_eq (fun u => { u with inTrack := u.inTrack - 1 })]
    rfl
  rw [hm]
  exact requestProgress_becomes _

theorem Becomes.finaliseIfDone {ns : List Notice} {u t : State} (h : Becomes u ns t) (id : Nat) :
    Becomes (finaliseIfDone id u) ns (finaliseIfDone id t) := by
  unfold Machine.finaliseIfDone
  rw [h.tallyOf]
  cases u.tallyOf id with
  | none => exact h
  | some e =>
    dsimp only
    split
    · exact h.finalise id
    · exact h

section
variable {b : Band} {tl : List Band} {e : Tally} {s : State} (he : OneTally b.tally e s.bt.tallies)

include he

/-- A retirement's counts write ends: the head record is removed and its entry is finalised where that was its last band, no further
record being FINISHED, the line not DRAINING and no segment TAKEN (01 R20). -/
theorem countsEnded_retirement (ht : s.bt.track = b :: tl) (hsoft : s.smp.soft = .off) (hfin : ∀ y ∈ tl, y.state ≠ .finished)
    (hseg : s.re.seg = none) (hline : s.dc.line ≠ .draining) :
    Becomes (finaliseIfDone b.tally (s.headRemoved b tl e)) [] (countsEnded .retirement s) := by
  have hr := removeHead_becomes ht he
  have hs : (removeHead s).smp.soft ≠ .retiring := by
    rw [hr.soft]
    show s.smp.soft ≠ .retiring
    rw [hsoft]
    decide
  have hstart : startRetirement (removeHead s) = removeHead s := startRetirement_eq_self (.inr fun y hy => by
    rw [hr.bt] at hy
    exact hfin y (List.mem_of_mem_head? hy))
  have hf := hr.finaliseIfDone b.tally
  have hdrain : drainEnd (finaliseIfDone b.tally (removeHead s)) = finaliseIfDone b.tally (removeHead s) := by
    refine if_neg (fun hc => hline ?_)
    obtain ⟨hl, -⟩ := hc
    simpa using hl
  have htry : tryBandStart (finaliseIfDone b.tally (removeHead s)) = finaliseIfDone b.tally (removeHead s) :=
    tryBandStart_idle (by simp [hseg])
  have hid : (s.bt.track.head?.map Band.tally).getD 0 = b.tally := by rw [ht]; rfl
  unfold countsEnded
  dsimp only
  rw [if_neg hs, hid, hstart, hdrain, htry]
  exact hf

/-- The entry of the removed record. -/
theorem oneTally_headRemoved : OneTally b.tally { e with inTrack := e.inTrack - 1 } (s.headRemoved b tl e).bt.tallies := by
  have h := he.map (f := fun u => { u with inTrack := u.inTrack - 1 }) (fun _ => rfl)
  rw [he.map_eq (fun u => { u with inTrack := u.inTrack - 1 })] at h
  exact h

/-- The segment has not been reported PRINTED: nothing more comes of the removal. -/
theorem finaliseIfDone_unprinted (hp : e.printed = false) :
    finaliseIfDone b.tally (s.headRemoved b tl e) = s.headRemoved b tl e := by
  have hf : (s.headRemoved b tl e).tallyOf b.tally = some _ := (oneTally_headRemoved (tl := tl) he).find
  unfold finaliseIfDone
  rw [hf]
  exact if_neg (fun hc => by simp [hp] at hc)

/-- The last retirement of a PRINTED segment signals its final state, the counts write having just carried its totals (01 R20, R21). -/
theorem finaliseIfDone_last (hp : e.printed = true) (hlast : e.inTrack = 1) (hstale : e.stale = false) (hclosing : e.closing = false)
    (hw : ∀ y ∈ s.smp.writes, y.isRepeatedTaken e.addr = false) (ha : s.tr.awaitSeg = none) :
    finaliseIfDone b.tally (s.headRemoved b tl e) = { s with
      mr := s.counted, smp.writes := s.smp.writes ++ [segmentFinal e],
      bt := { s.bt with track := tl, retiring := none, lastRetired := b.number,
                        tallies := s.bt.tallies.filter (fun y => y ≠ e) } } := by
  have hf : (s.headRemoved b tl e).tallyOf b.tally = some _ := (oneTally_headRemoved (tl := tl) he).find
  have hkeep : (s.headRemoved b tl e).bt.tallies.filter (fun y => y.id ≠ e.id) = s.bt.tallies.filter (fun y => y ≠ e) := by
    rw [he.id_eq]
    exact he.filter_map he.id_eq
  have hsignal := signalFinal_eq (e := { e with inTrack := e.inTrack - 1 }) (s := s.headRemoved b tl e) ha hw
  unfold finaliseIfDone finalise
  rw [hf]
  dsimp only
  rw [if_pos ⟨hp, by rw [hlast]⟩, if_neg (by simp [hclosing]), if_neg (by simp [hstale]), hsignal, hkeep]
  rfl

end

/-- A finalisation's counts write ends: its final state is signalled (01 R22). -/
theorem countsEnded_finalise {e : Tally} {s : State} (he : OneTally e.id e s.bt.tallies) (hsoft : s.smp.soft = .off)
    (hw : ∀ y ∈ s.smp.writes, y.isRepeatedTaken e.addr = false) (ha : s.tr.awaitSeg = none) :
    countsEnded (.finalise e.id) s = { s with
      mr := s.counted, smp.writes := s.smp.writes ++ [segmentFinal e],
      bt := { s.bt with tallies := s.bt.tallies.filter (fun y => y ≠ e) } } := by
  have hf : s.tallyOf e.id = some e := he.find
  have hsignal : countsEnded (.finalise e.id) s = signalFinal e s := by
    unfold countsEnded
    dsimp only
    rw [hf, hsoft]
  rw [hsignal, signalFinal_eq ha hw, he.filter]

/-! ## The last burst of a write -/

/-- The last burst of a write of this kind, as its own event. -/
theorem transferDone_write {x : Transfer} {rest : List Transfer} {s : State} (h : LastWriteBurst x rest s)
    {p : Transfer → Bool} (hp : p x = true) : ∃ o n, transferDone p [] s =
      transferEnded (x.after n []) { s with out := o, smp.grant := none, smp.writes := rest } := by
  obtain ⟨hw, hx, g, hg, hc, hd, hl⟩ := h
  have hq : s.smp.queue g.client = x :: rest := by
    rw [hc]
    exact hw
  have hmoves : x.moves g [] = g.words := if_pos hx
  have hlast : x.left ≤ x.moves g [] := by rwa [hmoves]
  refine ⟨s.out ++ x.put (x.moves g []), x.moves g [], ?_⟩
  unfold transferDone
  rw [finishes_last hg hd hq hlast, if_pos hp, burstEnd_transfer hg hd hq, transferBurst_last hlast, hc]
  unfold State.burstMoved
  rw [if_pos hx]
  rfl

end Sys2Proof.Machine
end

section
/-! The words of a band record (01 R19, 11, 11.3): the fields and bits of a word, masks, and the extreme doses. -/

namespace Sys2Proof.Machine

/-! ## The two events -/

theorem transferEnded_record {t : Transfer} {s : State} (h : t.kind = .recordWrite) : transferEnded t s = recordEnded true s := by
  unfold transferEnded
  rw [h]

theorem transferEnded_counts {t : Transfer} {s : State} {why : CountsFor} (h : t.kind = .countsWrite why) :
    transferEnded t s = countsEnded why s := by
  unfold transferEnded
  rw [h]

/-! ## Fields and bits of a word -/

theorem wordOf_toNat (n : Nat) : (wordOf n).toNat = n % 2 ^ 32 := BitVec.toNat_ofNat n 32

/-- A field that ends within the word is the same digits of the number. -/
theorem fieldAt_wordOf {n low width : Nat} (h : low + width ≤ 32) : fieldAt (wordOf n) low width = n / 2 ^ low % 2 ^ width := by
  rw [fieldAt, wordOf_toNat]
  refine Nat.eq_of_testBit_eq fun i => ?_
  simp only [Nat.testBit_mod_two_pow, Nat.testBit_div_two_pow]
  by_cases hi : i < width
  · have hlow : low + i < 32 := by omega
    simp [hi, Nat.add_comm i low, hlow]
  · simp [hi]

theorem getLsbD_wordOf {n i : Nat} (h : i < 32) : (wordOf n).getLsbD i = decide (n / 2 ^ i % 2 = 1) := by
  rw [wordOf, BitVec.getLsbD_ofNat, decide_eq_true h, Bool.true_and, Nat.testBit_eq_decide_div_mod_eq]

theorem fieldAt_halves_low (lo hi : Nat) : fieldAt (halves lo hi) 0 16 = lo % 65536 := by
  show fieldAt (wordOf _) 0 16 = _
  rw [fieldAt_wordOf (by decide)]
  omega

theorem fieldAt_halves_high (lo hi : Nat) : fieldAt (halves lo hi) 16 16 = hi % 65536 := by
  show fieldAt (wordOf _) 16 16 = _
  rw [fieldAt_wordOf (by decide)]
  omega

theorem wordOf_twos (x : Int) : wordOf (twos 32 x) = BitVec.ofInt 32 x := by
  rw [wordOf, twos, BitVec.ofNat_toNat, BitVec.setWidth_eq]

theorem wordOf_mod (n : Nat) : wordOf (n % 2 ^ 32) = BitVec.ofNat 32 n :=
  BitVec.eq_of_toNat_eq (by rw [wordOf_toNat, BitVec.toNat_ofNat, Nat.mod_mod])

theorem twos_lt (width : Nat) (x : Int) : twos width x < 2 ^ width := (BitVec.ofInt width x).isLt

/-! ## Masks -/

theorem bit01_le (b : Bool) : bit01 b ≤ 1 := by cases b <;> decide

theorem bit01_eq_one (b : Bool) : bit01 b = 1 ↔ b = true := by cases b <;> decide

theorem maskOf_lt (o : Oct Bool) : maskOf o < 256 := by
  have h0 := bit01_le o.z0
  have h1 := bit01_le o.z1
  have h2 := bit01_le o.z2
  have h3 := bit01_le o.z3
  have h4 := bit01_le o.z4
  have h5 := bit01_le o.z5
  have h6 := bit01_le o.z6
  have h7 := bit01_le o.z7
  unfold maskOf
  omega

/-- Zone `i` is bit `i` of its mask. -/
theorem maskOf_bit (o : Oct Bool) (i : Fin 8) : maskOf o / 2 ^ i.val % 2 = bit01 (o.get i) := by
  have h0 := bit01_le o.z0
  have h1 := bit01_le o.z1
  have h2 := bit01_le o.z2
  have h3 := bit01_le o.z3
  have h4 := bit01_le o.z4
  have h5 := bit01_le o.z5
  have h6 := bit01_le o.z6
  have h7 := bit01_le o.z7
  unfold maskOf
  fin_cases i <;> simp only [Oct.get] <;> omega

/-! ## The extreme doses -/

theorem minDose_eq {b : Band} {n : Nat} (h : n ∈ b.checkedDoses) (hn : ∀ m ∈ b.checkedDoses, n ≤ m) : b.minDose = n := by
  rw [Band.minDose, List.min?_eq_some_iff.2 ⟨h, hn⟩]
  rfl

theorem maxDose_eq {b : Band} {n : Nat} (h : n ∈ b.checkedDoses) (hn : ∀ m ∈ b.checkedDoses, m ≤ n) : b.maxDose = n := by
  rw [Band.maxDose, List.max?_eq_some_iff.2 ⟨h, hn⟩]
  rfl

theorem extremeDoses_none {b : Band} (h : ∀ n, n ∉ b.checkedDoses) : b.minDose = 0 ∧ b.maxDose = 0 := by
  rw [Band.minDose, Band.maxDose, List.eq_nil_iff_forall_not_mem.2 h]
  exact ⟨rfl, rfl⟩

/-! ## The words with several fields -/

section
variable (b : Band)

theorem recordWord5_fields (hp : b.p < 2 ^ 18) :
    let w := wordAt (recordWords b) 5
    fieldAt w 0 18 = b.p ∧ fieldAt w 18 3 = b.slot.val ∧ fieldAt w 21 2 = (b.verdict.map Verdict.code).getD 0 ∧
      w.getLsbD 23 = decide (b.kind = .void) ∧ w.getLsbD 24 = b.meas.isSome ∧ fieldAt w 25 7 = 0 := by
  intro w
  have hcode : (b.verdict.map Verdict.code).getD 0 < 4 := by
    cases b.verdict with
    | none => decide
    | some v => cases v <;> decide
  have hslot := b.slot.isLt
  have hvoid := bit01_le (b.kind == .void)
  have hmeas := bit01_le b.meas.isSome
  have hw : w = wordOf (b.p % 2 ^ 18 + b.slot.val * 2 ^ 18 + ((b.verdict.map Verdict.code).getD 0) * 2 ^ 21
     + bit01 (b.kind == .void) * 2 ^ 23 + bit01 b.meas.isSome * 2 ^ 24) := rfl
  have hkind : decide (b.kind = .void) = decide (bit01 (b.kind == .void) = 1) := by simp [bit01_eq_one]
  have hsome : b.meas.isSome = decide (bit01 b.meas.isSome = 1) := by simp [bit01_eq_one]
  rw [hw, hkind]
  refine ⟨?_, ?_, ?_, ?_, ?_, ?_⟩
  · rw [fieldAt_wordOf (by decide)]
    omega
  · rw [fieldAt_wordOf (by decide)]
    omega
  · rw [fieldAt_wordOf (by decide)]
    omega
  · rw [getLsbD_wordOf (by decide)]
    exact decide_eq_decide.2 (by omega)
  · rw [getLsbD_wordOf (by decide)]
    exact (decide_eq_decide.2 (by omega)).trans hsome.symm
  · rw [fieldAt_wordOf (by decide)]
    omega

theorem recordWord6_fields (hd : b.dpred < 2 ^ 23) (hs : b.s < 2 ^ 9) :
    let w := wordAt (recordWords b) 6
    fieldAt w 0 23 = b.dpred ∧ fieldAt w 23 9 = b.s := by
  intro w
  have hw : w = wordOf (b.dpred % 2 ^ 23 + b.s % 2 ^ 9 * 2 ^ 23) := rfl
  rw [hw, fieldAt_wordOf (by decide), fieldAt_wordOf (by decide)]
  omega

theorem recordWord7_fields (hg : b.g < 2 ^ 11) :
    let w := wordAt (recordWords b) 7
    fieldAt w 0 9 = twos 9 b.tau ∧ fieldAt w 9 11 = b.g ∧ fieldAt w 20 12 = b.flags.toNat := by
  intro w
  have hw : w = wordOf (twos 9 b.tau + b.g % 2 ^ 11 * 2 ^ 9 + b.flags.toNat * 2 ^ 20) := rfl
  have htau := twos_lt 9 b.tau
  have hflags := b.flags.isLt
  rw [hw, fieldAt_wordOf (by decide), fieldAt_wordOf (by decide), fieldAt_wordOf (by decide)]
  omega

/-- A bit of a mask above other fields. -/
theorem getLsbD_mask {lo place : Nat} (o : Oct Bool) (i : Fin 8) (hlo : lo < 2 ^ place) (hp : place + 8 ≤ 32) (hi : Nat) :
    (wordOf (lo + maskOf o * 2 ^ place + hi * 2 ^ (place + 8))).getLsbD (place + i.val) = o.get i := by
  have hmask := maskOf_bit o i
  have hdiv : (lo + maskOf o * 2 ^ place + hi * 2 ^ (place + 8)) / 2 ^ (place + i.val) % 2 = maskOf o / 2 ^ i.val % 2 := by
    have hsum : lo + maskOf o * 2 ^ place + hi * 2 ^ (place + 8) = lo + 2 ^ place * (maskOf o + hi * 256) := by ring
    rw [hsum, pow_add, ← Nat.div_div_eq_div_mul, Nat.add_mul_div_left _ _ (Nat.two_pow_pos place), Nat.div_eq_of_lt hlo, Nat.zero_add]
    fin_cases i <;> simp only [] <;> omega
  have hi' := i.isLt
  rw [getLsbD_wordOf (by omega), hdiv, hmask]
  simp [bit01_eq_one]

theorem recordWord9_fields (hr : b.firstRow < 2 ^ 20) :
    let w := wordAt (recordWords b) 9
    fieldAt w 0 20 = b.firstRow ∧ (∀ i : Fin 8, w.getLsbD (20 + i.val) = b.zones.get i) ∧ fieldAt w 28 4 = 0 := by
  intro w
  have hw : w = wordOf (b.firstRow % 2 ^ 20 + maskOf b.zones * 2 ^ 20) := rfl
  have hzones := maskOf_lt b.zones
  refine ⟨?_, fun i => ?_, ?_⟩
  · rw [hw, fieldAt_wordOf (by decide)]
    omega
  · have hbit := getLsbD_mask b.zones i (Nat.mod_lt b.firstRow (Nat.two_pow_pos 20)) (by decide) 0
    rw [Nat.zero_mul, Nat.add_zero] at hbit
    exact hbit
  · rw [hw, fieldAt_wordOf (by decide)]
    omega

theorem recordWord11_fields :
    let w := wordAt (recordWords b) 11
    (∀ i : Fin 8, w.getLsbD i.val = b.lostZones.get i) ∧ fieldAt w 8 24 = min 16777215 b.samples := by
  intro w
  have hw : w = wordOf (maskOf b.lostZones + min 0xFFFFFF b.samples * 256) := rfl
  have hlost := maskOf_lt b.lostZones
  refine ⟨fun i => ?_, ?_⟩
  · have hbit := getLsbD_mask (lo := 0) (place := 0) b.lostZones i (by decide) (by decide) (min 0xFFFFFF b.samples)
    simp only [Nat.zero_add, Nat.pow_zero, Nat.mul_one] at hbit
    exact hbit
  · rw [hw, fieldAt_wordOf (by decide)]
    omega

end

end Sys2Proof.Machine
end

section
namespace Sys2Proof.Proofs

open Sys2Proof.Machine

/-- Settles O50: each write's end is one update of its tally entry and its head record; the words are the fields' digits. -/
theorem retirementWrites : Obligations.RetirementWrites := by
  intro x rest l s hends hidle hline
  obtain ⟨⟨hp, hsoft⟩, hlast⟩ := hends
  obtain ⟨-, hseg, -, -⟩ := hidle
  let ended : List Output → State := fun o => { sampleLines l s with out := o, smp.grant := none, smp.writes := rest }
  have hcounts : ∀ why, x.kind = .countsWrite why → ∃ o t, exec (.countsWriteDone l) s = .next t ∧
      Becomes (countsEnded why (ended o)) [] t := fun why hk => by
      obtain ⟨o, n, hdone⟩ := transferDone_write (s := { sampleLines l s with out := [] }) hlast (p := Transfer.isCounts)
        (by simp [Transfer.isCounts, hk])
      exact ⟨o, _, congrArg Host.Outcome.next ((commandAt_eq hp l _).trans (congrArg kick (hdone.trans (transferEnded_counts hk)))),
        kick_becomes _⟩
  refine ⟨fun b tl e ht hu hm => ?_, fun e hu' hm hk hw ha => ?_, fun e => rfl, ?_⟩
  · have he : OneTally b.tally e s.bt.tallies := ⟨hm, hu⟩
    refine ⟨fun hk => ?_, fun hk hfin hprinted => ?_, fun hk hfin hprinted hone hstale hclosing hw ha => ?_⟩
    · obtain ⟨o, n, hdone⟩ := transferDone_write (s := { s with out := [] }) hlast (p := Transfer.isRecord)
        (by simp [Transfer.isRecord, hk])
      let V : State := { s with out := o, smp.grant := none, smp.writes := rest }
      obtain ⟨t, hrun, hu⟩ : ∃ t, exec .recordWriteDone s = .next t ∧ Becomes (recordEnded true V) [] t :=
        ⟨_, congrArg Host.Outcome.next ((command_eq hp _).trans (congrArg kick (hdone.trans (transferEnded_record hk)))), kick_becomes _⟩
      rw [recordEnded_eq (s := V) ht he rfl] at hu
      exact ⟨t, hrun, hu.after (frame_of_blocks (hbt := .inl (by decide))), hu.copies, hu.bt, hu.writes⟩
    · obtain ⟨o, t, hrun, hk⟩ := hcounts _ hk
      have hu := (countsEnded_retirement (s := ended o) he ht hsoft hfin hseg hline).trans hk
      rw [finaliseIfDone_unprinted (s := ended o) (tl := tl) he hprinted] at hu
      exact ⟨t, hrun, hu.after (frame_of_blocks (hbt := .inl (by decide))), hu.writes, hu.bt⟩
    · obtain ⟨o, t, hrun, hk⟩ := hcounts _ hk
      have hu := (countsEnded_retirement (s := ended o) he ht hsoft hfin hseg hline).trans hk
      rw [finaliseIfDone_last (s := ended o) (tl := tl) he hprinted hone hstale hclosing hw ha] at hu
      exact ⟨t, hrun, hu.after (frame_of_blocks (hbt := .inl (by decide)) (hmr := .inl (by decide))), hu.mr, hu.bt, hu.writes⟩
  · obtain ⟨o, t, hrun, hu⟩ := hcounts _ hk
    rw [countsEnded_finalise (s := ended o) ⟨hm, hu'⟩ hsoft hw ha] at hu
    exact ⟨t, hrun, hu.after (frame_of_blocks (hbt := .inl (by decide)) (hmr := .inl (by decide))), hu.mr, hu.bt, hu.writes⟩
  · intro b w m signed code checked hbp hdp hs hg hfr
    have hcode : (b.verdict.map Verdict.code).getD 0 = code := by
      simp only [code]
      cases b.verdict with
      | none => rfl
      | some v => cases v <;> rfl
    have hchecked : ∀ n, checked n ↔ n ∈ b.checkedDoses := fun n => (mem_checkedDoses b n).symm
    obtain ⟨h51, h52, h53, h54, h55, h56⟩ := recordWord5_fields b hbp
    obtain ⟨h61, h62⟩ := recordWord6_fields b hdp hs
    obtain ⟨h71, h72, h73⟩ := recordWord7_fields b hg
    obtain ⟨h91, h92, h93⟩ := recordWord9_fields b hfr
    obtain ⟨h111, h112⟩ := recordWord11_fields b
    refine ⟨rfl, rfl, rfl, wordOf_mod _, rfl, wordOf_twos _, h51, h52, h53.trans hcode, h54, h55, h56, h61, h62, h71, h72, h73,
      fieldAt_halves_low .., fieldAt_halves_high .., h91, h92, h93, fieldAt_halves_low .., fieldAt_halves_high .., h111, h112,
      fun hn => ?_, fun n hn => ⟨fun hmin => ?_, fun hmax => ?_⟩, ?_, ?_, ?_, ?_⟩
    · obtain ⟨hmin, hmax⟩ := extremeDoses_none (fun n h => hn n ((hchecked n).2 h))
      exact ⟨congrArg wordOf hmin, congrArg wordOf hmax⟩
    · exact congrArg wordOf (minDose_eq ((hchecked n).1 hn) (fun y hy => hmin y ((hchecked y).2 hy)))
    · exact congrArg wordOf (maxDose_eq ((hchecked n).1 hn) (fun y hy => hmax y ((hchecked y).2 hy)))
    · exact (fieldAt_halves_low ..).trans (Nat.mod_eq_of_lt (twos_lt 16 _))
    · exact (fieldAt_halves_high ..).trans (Nat.mod_eq_of_lt (twos_lt 16 _))
    · exact (fieldAt_halves_low ..).trans (Nat.mod_eq_of_lt (twos_lt 16 _))
    · exact fieldAt_halves_high ..

end Sys2Proof.Proofs
end

section
/-! The outcomes of a burst that does not complete its transfer, and of a bus error (10 R185, R186). -/

namespace Sys2Proof.Machine

/-! ## Queues -/

theorem queue_setQueue_same {p : Port} {c : Client} {q : List Transfer} (h : c ≠ .row) : (p.setQueue c q).queue c = q := by
  cases c with
  | row => exact absurd rfl h
  | write | read | copy => rfl

theorem queue_setQueue_other {p : Port} {c d : Client} {q : List Transfer} (h : d ≠ c) : (p.setQueue c q).queue d = p.queue d := by
  cases c with
  | row => rfl
  | write => cases d with
    | write => exact absurd rfl h
    | row | read | copy => rfl
  | read => cases d with
    | read => exact absurd rfl h
    | row | write | copy => rfl
  | copy => cases d with
    | copy => exact absurd rfl h
    | row | write | read => rfl

theorem ne_row_of_queue {p : Port} {c : Client} {x : Transfer} {rest : List Transfer} (h : p.queue c = x :: rest) : c ≠ .row := by
  rintro rfl
  cases h

theorem becomes_setGrant (s : State) (o : Option Grant) : Becomes s [] { s with smp.grant := o } := by
  rw [becomes_iff]
  exact ⟨rfl, PortStep.refl _⟩

/-- What the arbiter does to client 3's queue: the head alone, where it is a progress block write whose first burst it grants. -/
theorem kick_reads (s : State) : (kick s).smp.reads = s.smp.reads ∨
    ∃ x rest y, s.smp.reads = x :: rest ∧ x.isPendingProgress = true ∧ (kick s).smp.reads = y :: rest := by
  unfold kick
  dsimp only
  split
  · exact .inl rfl
  · split
    · exact .inl rfl
    · rename_i c _
      unfold grantBurst
      dsimp only
      split
      · rename_i x rest hreads _
        split
        · rename_i hx
          exact .inr ⟨x, rest, _, hreads, hx, rfl⟩
        · exact .inl rfl
      all_goals exact .inl rfl

theorem kick_reads_length (s : State) : (kick s).smp.reads.length = s.smp.reads.length := by
  rcases kick_reads s with h | ⟨x, rest, y, hs, -, hk⟩
  · rw [h]
  · rw [hs, hk]
    rfl

theorem kick_reads_eq {s : State} (h : ∀ x ∈ s.smp.reads.head?, x.isPendingProgress = false) : (kick s).smp.reads = s.smp.reads := by
  rcases kick_reads s with hk | ⟨x, rest, y, hs, hx, -⟩
  · exact hk
  · rw [h x (by rw [hs]; rfl)] at hx
    cases hx

/-- The arbiter keeps a queue but for a progress block write that begins. -/
theorem kick_queue {s : State} {c : Client} (h : c = .read → ∀ x ∈ s.smp.reads.head?, x.isPendingProgress = false) :
    (kick s).smp.queue c = s.smp.queue c := by
  have hk := kick_becomes s
  cases c with
  | row => rfl
  | write => exact hk.writes
  | copy => exact hk.copies
  | read => exact kick_reads_eq (h rfl)

section
variable {v : State} {p : Port} {c : Client} {y : Transfer} {rest : List Transfer} (hv : v.smp = p.setQueue c (y :: rest))

include hv

theorem kick_setQueue_same (hc : c ≠ .row) (hy : y.isPendingProgress = false) : (kick v).smp.queue c = y :: rest := by
  have hq : v.smp.queue c = y :: rest := by rw [hv, queue_setQueue_same hc]
  rw [kick_queue, hq]
  rintro rfl x hx
  rw [show v.smp.reads = y :: rest from hq] at hx
  rw [← Option.some.inj hx, hy]

theorem kick_setQueue_other {d : Client} (hd : d ≠ c) (hr : d ≠ .read) : (kick v).smp.queue d = p.queue d := by
  rw [kick_queue (fun h => absurd h hr), hv, queue_setQueue_other hd]

theorem kick_setQueue_ticketReads (hc : c ≠ .read) : (kick v).ticketReads = p.reads.filter Transfer.isTicketRead := by
  have hq : v.smp.queue .read = p.queue .read := by rw [hv, queue_setQueue_other hc.symm]
  exact (kick_becomes v).ticketReads.trans (congrArg (List.filter Transfer.isTicketRead) hq)

end

theorem frame_setQueue (s : State) (o : Option Grant) (c : Client) (q : List Transfer) (out : List Output) :
    Frame [] [] s { s with out := out, smp := ({ s.smp with grant := o } : Port).setQueue c q } := by
  cases c <;> exact frame_of_blocks

/-! ## A burst with words of its transfer left -/

section
variable {s : State} {g : Grant} {x : Transfer} {rest : List Transfer} {ws : List Word} (hg : s.smp.grant = some g)
  (hd : g.dropped = false) (hq : s.smp.queue g.client = x :: rest)

include hg hd hq

/-- A write moves all the words granted. -/
theorem burstEnd_write_more (hw : x.isWrite = true) (hl : g.words < x.left) : burstEnd ws s = { s with
    out := s.out ++ x.put g.words,
    smp := ({ s.smp with grant := none } : Port).setQueue g.client
      ({ x with moved := x.moved + g.words, left := x.left - g.words } :: rest) } := by
  have hmoves : x.moves g ws = g.words := if_pos hw
  have hafter : x.after g.words ws = { x with moved := x.moved + g.words, left := x.left - g.words } := by
    simp [Transfer.after, hw]
  rw [burstEnd_transfer hg hd hq, transferBurst_more (by rw [hmoves]; exact hl), hmoves, hafter]
  unfold State.burstMoved
  rw [if_pos hw]

/-- A read adds the words that arrived, up to those granted. -/
theorem burstEnd_read_more (hw : x.isWrite = false) (hl : g.words < x.left) : burstEnd ws s =
    { stageWords x (ws.take (min ws.length g.words)) s with
      smp := ({ s.smp with grant := none } : Port).setQueue g.client
        ({ x with moved := x.moved + min ws.length g.words, left := x.left - min ws.length g.words,
                  words := x.words ++ ws.take (min ws.length g.words) } :: rest) } := by
  have hmoves : x.moves g ws = min ws.length g.words := if_neg (by simp [hw])
  have hafter : x.after (min ws.length g.words) ws =
      { x with moved := x.moved + min ws.length g.words, left := x.left - min ws.length g.words,
               words := x.words ++ ws.take (min ws.length g.words) } := by
    simp [Transfer.after, hw]
  rw [burstEnd_transfer hg hd hq, transferBurst_more (by rw [hmoves]; omega), hmoves, hafter]
  unfold State.burstMoved
  rw [if_neg (by simp [hw])]
  cases hcopy : x.isCopy <;> simp [stageWords, hcopy]

end

/-! ## The row being fetched -/

section
variable {s : State} {g : Grant} {y : RowSlot} {done rest : List RowSlot} (hg : s.smp.grant = some g) (hc : g.client = .row)
  (hd : g.dropped = false) (hs : s.re.slots = done ++ y :: rest) (hdone : ∀ z ∈ done, z.complete = true) (hy : y.complete = false)

include hdone hy in
/-- The row being fetched is the first that is not complete. -/
theorem splitSlots : (done ++ y :: rest).takeWhile RowSlot.complete = done ∧ (done ++ y :: rest).dropWhile RowSlot.complete = y :: rest := by
  constructor
  · rw [List.takeWhile_append_of_pos hdone, List.takeWhile_cons_of_neg (by simp [hy]), List.append_nil]
  · rw [List.dropWhile_append_of_pos hdone, List.dropWhile_cons_of_neg (by simp [hy])]

include hg hc hd hs hdone hy in
/-- A burst of a row that has words left adds those that arrived (02 R33). -/
theorem burstEnd_row_more {w : Segment} {ws : List Word} (hw : s.re.seg = some w) (hl : y.words.length + min ws.length g.words < w.width) :
    burstEnd ws s = { s with smp.grant := none, re.slots := done ++ { y with words := y.words ++ ws.take g.words } :: rest } := by
  obtain ⟨ht, hr⟩ := splitSlots (rest := rest) hdone hy
  have hfill : s.re.filling = some y := by
    rw [Raster.filling, hs, List.find?_append, List.find?_eq_none.2 (fun z hz => by simp [hdone z hz]), Option.none_or,
      List.find?_cons_of_pos (by simp [hy])]
  have hleft : s.rowLeft = w.width - y.words.length := by
    rw [State.rowLeft, hfill, hw]
  have hgot : (ws.take g.words).length = min ws.length g.words := by rw [List.length_take, Nat.min_comm]
  have hburst : burstEnd ws s = rowBurst g ws { s with smp.grant := none } := by
    obtain ⟨c, n, d⟩ := g
    unfold burstEnd
    rw [hg]
    dsimp only at hc hd ⊢
    rw [hc, if_neg (by simp [hd])]
  have hleft' : ({ s with smp.grant := none } : State).rowLeft = w.width - y.words.length := hleft
  rw [hburst]
  unfold rowBurst rowWords
  dsimp only
  rw [hleft', hgot, if_neg (by omega), if_neg (by omega), hs, ht, hr]

include hg hc hd hs hdone hy in
/-- A bus error drops the words received of the row being fetched (02 R34). -/
theorem busError_row (n : Nat) : busError n s =
    raise .port { s with smp.grant := none, re.slots := done ++ { y with words := [] } :: rest } := by
  obtain ⟨ht, hr⟩ := splitSlots (rest := rest) hdone hy
  have hcut : cutBurst n s = s := by
    unfold cutBurst
    rw [hg]
    dsimp only
    rw [hc]
    rfl
  have herror : busError n s = rowFailed (raise .port { s with smp.grant := none }) := by
    obtain ⟨c, k, d⟩ := g
    unfold busError
    rw [hg]
    dsimp only at hc hd ⊢
    rw [hc, if_neg (by simp [hd]), hcut]
  rw [herror]
  unfold rowFailed
  dsimp only
  rw [show (raise .port { s with smp.grant := none }).re.slots = done ++ y :: rest from hs, ht, hr]
  rfl

end

/-! ## The owner of a failed transfer -/

/-- The final-state write of the ticket at TR, no TAKEN write of its being repeated (09 R173). -/
theorem finishTicket_eq {k : Ticket} {st : TicketState} {status : Status} {d : Nat} {s : State} (ht : s.tr.ticket = some k)
    (hw : ∀ y ∈ s.smp.writes, y.isRepeatedTaken k.addr = false) : finishTicket st status d s = { s with
      tr.ticket := some { k with phase := .final }, smp.writes := s.smp.writes ++ [finalWrite k st status d] } := by
  unfold finishTicket
  rw [ht]
  exact queueHeader_append (s := { s with tr.ticket := some { k with phase := .final } }) hw

theorem transferFailed_header {c : Client} {addr : Nat} {h : HeaderWrite} {rest : List Transfer} {s : State} :
    transferFailed c (headerTransfer addr h) rest s =
      { s with smp := s.smp.setQueue c (headerTransfer addr { h with repeating := true } :: rest) } := rfl

section
variable {c : Client} {x : Transfer} {rest : List Transfer} {s : State}

theorem transferFailed_ticketRead (hx : x.isTicketRead = true) :
    transferFailed c x rest s = ticketReadFailed { s with smp := s.smp.setQueue c rest } := by
  unfold Transfer.isTicketRead at hx
  unfold transferFailed
  cases hk : x.kind <;> simp_all

theorem transferFailed_record (hx : x.kind = .recordWrite) :
    transferFailed c x rest s = recordEnded false { s with smp := s.smp.setQueue c rest } := by
  unfold transferFailed
  rw [hx]

theorem transferFailed_counts {why : CountsFor} (hx : x.kind = .countsWrite why) :
    transferFailed c x rest s = countsEnded why { s with smp := s.smp.setQueue c rest } := by
  unfold transferFailed
  rw [hx]

theorem transferFailed_progress (hx : x.kind = .progress) :
    transferFailed c x rest s = { s with smp := s.smp.setQueue c rest } := by
  unfold transferFailed
  rw [hx]

theorem transferFailed_copy (hx : x.kind = .profileCopy) :
    transferFailed c x rest s = copyFailed { s with smp := s.smp.setQueue c rest } := by
  unfold transferFailed
  rw [hx]

theorem transferFailed_report (hx : x.kind = .reportWrite) :
    transferFailed c x rest s = reportEnded false { s with smp := s.smp.setQueue c rest } := by
  unfold transferFailed
  rw [hx]

end

/-- TR with no ticket and no halt pending is STALLED by a failed read (09 R178). -/
theorem ticketReadFailed_eq {s : State} (ht : s.tr.ticket = none) (hh : s.tr.haltReq = false) :
    ticketReadFailed s = { s with tr := { s.tr with reader := .stalled } } := by
  have hs : ticketReadFailed s = { s with tr := { s.tr with ticket := s.tr.ticket.filter Ticket.past, reader := .stalled } } :=
    if_neg (by simp [hh])
  have htr : { s.tr with ticket := none, reader := .stalled } = { s.tr with reader := .stalled } := by rw [← ht]
  rw [hs, ht]
  exact congrArg (fun r => { s with tr := r }) htr

/-- A soft reset that is not under way leaves a REPORT's failed snapshot to its ticket (09 R176). -/
theorem reportEnded_failed {s : State} (hs : s.smp.soft = .off) : reportEnded false s = finishTicket .failed .portError 1 s := by
  unfold reportEnded
  rw [hs]
  rfl

theorem frame_cut (cs : List Block) (s : State) (x : Transfer) (g : Grant) (n : Nat) : Frame cs [.port] s (s.cut x g n) :=
  (raise_becomes .port _).after (frame_of_blocks)

/-- The words of the failed burst that have reached memory (log entry 38). -/
theorem cut_out {s : State} {x : Transfer} {g : Grant} {n : Nat} (hw : x.isWrite = true) (h : x.moved + g.words ≤ x.words.length) :
    (s.cut x g n).out = s.out ++ x.written (min n g.words) := by
  rw [← put_eq_written (by omega)]
  exact congrArg (s.out ++ ·) (if_pos hw)

end Sys2Proof.Machine
end

section
namespace Sys2Proof.Proofs

open Sys2Proof.Machine

/-- Settles O51: each outcome is the equation of the burst's end, or of the failed transfer's, and the arbiter moves nothing of it. -/
theorem bursts : Obligations.Bursts := by
  intro l s hcmd u
  obtain ⟨hp, hsoft⟩ := hcmd
  let U : State := { u with out := [] }
  have hburst : ∀ ws, exec (.burstEnd ws l) s = .next (kick (burstEnd ws U)) := fun ws => congrArg _ (commandAt_eq hp l _)
  have herror : ∀ n, exec (.busError n l) s = .next (kick (busError n U)) := fun n => congrArg _ (commandAt_eq hp l _)
  have hfail : ∀ (x : Transfer) (rest : List Transfer) (g : Grant) (n : Nat), s.smp.grant = some g → g.dropped = false →
      s.smp.queue g.client = x :: rest →
      ∃ t, exec (.busError n l) s = .next t ∧ Becomes (transferFailed g.client x rest (U.cut x g n)) [] t :=
    fun x rest g n hg hd hq => ⟨_, by rw [herror, busError_transfer n (s := U) hg hd hq], kick_becomes _⟩
  refine ⟨fun hg ws n => ⟨?_, ?_⟩, fun x rest g ws hg hd hq hl => ⟨fun hw hne hlen => ?_, fun hw hk => ?_, fun p hc hk hstage => ?_⟩,
    fun g ws hg hd => ?_, fun addr n h rest hg hw => ?_, fun x rest g n hg hc hd hr hx hh ht => ?_,
    fun x rest g n b tl e hg hc hd hw hk ht hm hu => ?_, fun x rest g n k hg hc hd hq hk ht hw => ?_,
    fun x rest g n k hg hc hd hq hk hlen ht hw => ?_, fun x rest g n e hg hc hd hq hlen hm => ⟨fun hk hu hw ha => ?_,
      fun b tl hk ht hu hfin hprinted hidle hline => ?_⟩, fun x rest g n hg hc hd hq hk hlen => ?_,
    fun g w ws y done rest hg hc hd hseg hs hdone hy hl => ?_, fun g n y done rest hg hc hd hs hdone hy => ?_⟩
  · rw [hburst, burstEnd_none ws (s := U) hg]
    exact ⟨_, rfl, kick_becomes U⟩
  · rw [herror, busError_none n (s := U) hg]
    exact ⟨_, rfl, kick_becomes U⟩
  -- a burst that leaves words of its transfer: a write, a read, an image
  · rw [hburst, burstEnd_write_more (s := U) hg hd hq hw hl]
    have hpend : ({ x with moved := x.moved + g.words, left := x.left - g.words } : Transfer).isPendingProgress = false := by
      simp [Transfer.isPendingProgress, hne]
    exact ⟨_, rfl, (kick_becomes _).after (frame_setQueue U none g.client _ _),
      kick_setQueue_same rfl (ne_row_of_queue hq) hpend,
      fun c hc hcr => (kick_setQueue_other rfl hc hcr).trans (queue_setGrant ..),
      fun hc => kick_setQueue_ticketReads (p := { U.smp with grant := none }) rfl hc,
      (kick_becomes _).out.trans (put_eq_written (by omega))⟩
  · rw [hburst, burstEnd_read_more (s := U) hg hd hq hw hl]
    have hstage : stageWords x (ws.take (min ws.length g.words)) U = U := if_neg (by simp [Transfer.isCopy, hk])
    have hpend : ({ x with moved := x.moved + min ws.length g.words, left := x.left - min ws.length g.words,
                           words := x.words ++ ws.take (min ws.length g.words) } : Transfer).isPendingProgress = false := by
      have hprogress : x.kind ≠ .progress := fun h => by simp [Transfer.isWrite, h] at hw
      simp [Transfer.isPendingProgress, Transfer.isProgress, hprogress]
    rw [hstage]
    exact ⟨_, rfl, (kick_becomes _).after (frame_setQueue U none g.client _ _),
      kick_setQueue_same rfl (ne_row_of_queue hq) hpend,
      fun c hc hcr => (kick_setQueue_other rfl hc hcr).trans (queue_setGrant ..), (kick_becomes _).out⟩
  · have hw : x.isWrite = false := by simp [Transfer.isWrite, hk]
    have hstaged : stageWords x (ws.take (min ws.length g.words)) U =
        { U with ps := { s.ps with staging := some { p with words := p.words ++ ws.take (min ws.length g.words) } } } := by
      refine (if_pos (by simp [Transfer.isCopy, hk])).trans ?_
      show ({ U with ps := { s.ps with staging := s.ps.staging.map _ } } : State) = _
      rw [hstage]
      rfl
    rw [hburst, burstEnd_read_more (s := U) hg hd hq hw hl, hstaged, hc]
    have hu := kick_becomes { U with
      ps := { s.ps with staging := some { p with words := p.words ++ ws.take (min ws.length g.words) } },
      smp := ({ U.smp with grant := none } : Port).setQueue .copy
        ({ x with moved := x.moved + min ws.length g.words, left := x.left - min ws.length g.words,
                  words := x.words ++ ws.take (min ws.length g.words) } :: rest) }
    exact ⟨_, rfl, hu.after (frame_of_blocks (hps := .inl (by decide))), hu.writes, hu.copies, hu.ps, hu.out⟩
  · rw [hburst, burstEnd_dropped ws (s := U) hg hd]
    exact ⟨_, rfl, (becomes_setGrant U none).trans (kick_becomes _)⟩
  -- errors: a header write, a ticket read, a record, an image, a snapshot
  · obtain ⟨t, hrun, hk⟩ := hfail _ rest _ n hg rfl hw
    refine ⟨t, hrun, (frame_cut [] U _ _ n).trans (hk.after (frame_setQueue _ none .write _ _)), hk.writes, hk.out.trans ?_⟩
    rcases Nat.eq_zero_or_pos n with rfl | hn
    · rfl
    · have hone : min n 1 = 1 := by omega
      rw [if_neg (by omega)]
      exact congrArg (Transfer.put (headerTransfer addr h)) hone
  · obtain ⟨t, hrun, hk⟩ := hfail x rest g n hg hd (by rw [hc]; exact hr)
    rw [transferFailed_ticketRead hx, ticketReadFailed_eq (by exact ht) (by exact hh), hc] at hk
    refine ⟨t, hrun, (frame_cut _ U x g n).trans (hk.after (frame_of_blocks (htr := .inl (by decide)))), hk.tr, hk.writes, hk.ticketReads⟩
  · obtain ⟨t, hrun, hk'⟩ := hfail x rest g n hg hd (by rw [hc]; exact hw)
    let V : State := { U.cut x g n with smp := (U.cut x g n).smp.setQueue .write rest }
    rw [transferFailed_record hk, hc, recordEnded_eq (s := V) ht ⟨hm, hu⟩ rfl] at hk'
    exact ⟨t, hrun, (frame_cut _ U x g n).trans (hk'.after (frame_of_blocks (hbt := .inl (by decide)))), hk'.bt⟩
  · obtain ⟨t, hrun, hu⟩ := hfail x rest g n hg hd (by rw [hc]; exact hq)
    let V : State := { U.cut x g n with smp := (U.cut x g n).smp.setQueue .copy rest, ps.staging := none }
    have hfinish : transferFailed .copy x rest (U.cut x g n) = finishTicket .failed .portError 2 V := transferFailed_copy hk
    rw [hc, hfinish, finishTicket_eq (s := V) ht hw] at hu
    exact ⟨t, hrun, (frame_cut _ U x g n).trans (hu.after (frame_of_blocks (htr := .inl (by decide)) (hps := .inl (by decide)))), hu.ps, hu.copies, hu.writes⟩
  · obtain ⟨t, hrun, hu⟩ := hfail x rest g n hg hd (by rw [hc]; exact hq)
    let V : State := { U.cut x g n with smp := (U.cut x g n).smp.setQueue .copy rest }
    have hfinish : transferFailed .copy x rest (U.cut x g n) = finishTicket .failed .portError 1 V :=
      (transferFailed_report hk).trans (reportEnded_failed (s := V) hsoft)
    rw [hc, hfinish, finishTicket_eq (s := V) ht hw] at hu
    exact ⟨t, hrun, (frame_cut _ U x g n).trans (hu.after (frame_of_blocks (htr := .inl (by decide)))), hu.tr, hu.copies, hu.writes,
      hu.out.trans (cut_out (s := U) (by simp [Transfer.isWrite, hk]) hlen)⟩
  -- errors of counts writes: a finalisation's, a retirement's
  · obtain ⟨t, hrun, hk'⟩ := hfail x rest g n hg hd (by rw [hc]; exact hq)
    let V : State := { U.cut x g n with smp := (U.cut x g n).smp.setQueue .write rest }
    rw [hc, transferFailed_counts hk, countsEnded_finalise (s := V) ⟨hm, hu⟩ hsoft hw ha] at hk'
    exact ⟨t, hrun, (frame_cut _ U x g n).trans (hk'.after (frame_of_blocks (hbt := .inl (by decide)) (hmr := .inl (by decide)))), hk'.mr, hk'.bt, hk'.writes,
      hk'.out.trans (cut_out (s := U) (by simp [Transfer.isWrite, hk]) hlen)⟩
  · obtain ⟨t, hrun, hk'⟩ := hfail x rest g n hg hd (by rw [hc]; exact hq)
    let V : State := { U.cut x g n with smp := (U.cut x g n).smp.setQueue .write rest }
    have he : OneTally b.tally e V.bt.tallies := ⟨hm, hu⟩
    obtain ⟨-, hseg, -, -⟩ := hidle
    rw [hc, transferFailed_counts hk] at hk'
    have hr := (countsEnded_retirement (s := V) he ht hsoft hfin hseg hline).trans hk'
    rw [finaliseIfDone_unprinted (tl := tl) he hprinted] at hr
    exact ⟨t, hrun, (frame_cut _ U x g n).trans (hr.after (frame_of_blocks (hbt := .inl (by decide)))), hr.writes,
      hr.out.trans (cut_out (s := U) (by simp [Transfer.isWrite, hk]) hlen), hr.bt⟩
  -- a progress block write is given up; the row being fetched
  · have hfailed : transferFailed .read x rest (U.cut x g n) =
        { U.cut x g n with smp := (U.cut x g n).smp.setQueue .read rest } := transferFailed_progress hk
    have hq' : U.smp.queue g.client = x :: rest := by
      rw [hc]
      exact hq
    let W : State := { U.cut x g n with smp := (U.cut x g n).smp.setQueue .read rest }
    have hout : W.out = x.written (min n g.words) := cut_out (s := U) (by simp [Transfer.isWrite, hk]) hlen
    have hreads : rest.filter Transfer.isTicketRead = s.smp.reads.filter Transfer.isTicketRead := by
      rw [hq, List.filter_cons_of_neg (by simp [Transfer.isTicketRead, hk])]
    have hw : Becomes { u with out := x.written (min n g.words) } [.port] W :=
      (becomes_iff _ _ _).2 ⟨congrArg (fun o => { W with out := o }) hout, rfl, rfl, rfl, rfl, rfl, rfl, rfl, rfl, rfl, hreads⟩
    rw [herror, busError_transfer n (s := U) hg hd hq', hc, hfailed]
    refine ⟨_, rfl, hw.trans (kick_becomes W), kick_reads_length W, fun hrest => kick_reads_eq (s := W) fun y hy => ?_⟩
    simp [Transfer.isPendingProgress, Transfer.isProgress, hrest y hy]
  · rw [hburst, burstEnd_row_more (s := U) hg hc hd hs hdone hy hseg hl]
    exact ⟨_, rfl, (becomes_setGrant _ none).trans (kick_becomes _)⟩
  · rw [herror, busError_row (s := U) hg hc hd hs hdone hy]
    exact ⟨_, rfl, ((becomes_setGrant _ none).trans (raise_becomes .port _)).trans (kick_becomes _)⟩

end Sys2Proof.Proofs
end

section
/-! The blocks at soft reset (10 R190, stage 2): each block's soft-reset values, with what the arbiter and the causes raised add. -/

namespace Sys2Proof.Machine

/-! ## More operations that keep `Becomes` -/

section
variable {ns : List Notice} {u t : State}

theorem Becomes.setSoft (h : Becomes u ns t) (v : SoftStage) : Becomes { u with smp.soft := v } ns { t with smp.soft := v } := by
  rw [becomes_iff] at *
  obtain ⟨he, h1, h2, h3, h4, h5, -, h7, h8, h9, h10⟩ := h
  exact ⟨by rw [he], h1, h2, h3, h4, h5, rfl, h7, h8, h9, h10⟩

theorem Becomes.setCopies (h : Becomes u ns t) (f : List Transfer → List Transfer) :
    Becomes { u with smp.copies := f u.smp.copies } ns { t with smp.copies := f t.smp.copies } := by
  rw [becomes_iff] at *
  obtain ⟨he, h1, h2, h3, h4, h5, h6, h7, h8, h9, h10⟩ := h
  exact ⟨by rw [he], h1, h2, h3, h4, h5, h6, h7, h8, congrArg f h9, h10⟩

theorem Becomes.finishTicket (h : Becomes u ns t) (st : TicketState) (status : Status) (d : Nat) :
    Becomes (finishTicket st status d u) ns (finishTicket st status d t) := by
  unfold Machine.finishTicket
  rw [h.tr]
  cases u.tr.ticket with
  | none => exact h
  | some k => exact (h.tr ▸ h.setTr (fun r => { r with ticket := some { k with phase := .final } })).queueHeader _ _

end

/-! ## CV, PS, TR and RE -/

/-- CV's soft-reset values (08 R166). -/
def Verifier.softReset (v : Verifier) : Verifier :=
  { v with list := [], txq := v.txq.take 1, seq := 1, drift := false, failRun := 0, passRun := 0, late := 0, bad := 0 }

theorem verifierSoftReset_becomes (s : State) : Becomes { s with cv := s.cv.softReset }
    (if (s.cv.drift && s.cfg.driftEdge == .both) = true then [.drift] else []) (verifierSoftReset s) := raiseIf_becomes _ _ _

theorem storeSoftReset_becomes (s : State) : Becomes { s with
    ps := { s.ps with staging := none }, smp.copies := s.smp.copies.filter (fun t => !t.isCopy) } [] (storeSoftReset s) :=
  (((dropGrant_becomes .copy ((s.smp.copies.head?.map Transfer.isCopy).getD false) s).setCopies
    (List.filter (fun t => !t.isCopy))).setPs (fun p => { p with staging := none })).trans (idleCounts_becomes _)

/-- TR as soft reset reaches it (09 R180, step 1). -/
def Reader.softReached (r : Reader) : Reader := { r with awaitSeg := none, ticket := r.ticket.filter Ticket.past }

theorem readerSoftReset_becomes (s : State) : Becomes { s with smp := s.smp.readsCut, tr := s.tr.softReached } [] (readerSoftReset s) :=
  (abandonTicketRead_becomes s).setTr Reader.softReached

/-! ## HC -/

/-- HC's soft-reset values (05 R110). -/
def Heat.softReset (h : Heat) : Heat :=
  if h.retain then h
  else { h with zones := h.zones.map (fun z => { z.turnOff with target := 0, enable := false }),
                drum := if h.drum = .tripped then .tripped else .cold }

theorem heatSoftReset_becomes (s : State) : ∃ ns, Becomes { s with hc := s.hc.softReset } ns (heatSoftReset s) := by
  let v : State := modZones (fun z => { z.turnOff with target := 0, enable := false }) s
  by_cases hr : s.hc.retain = true
  · have hv : heatSoftReset s = s := if_pos hr
    have hh : s.hc.softReset = s.hc := if_pos hr
    rw [hv, hh]
    exact ⟨[], Becomes.refl s⟩
  · have hh : s.hc.softReset = { v.hc with drum := if v.hc.drum = .tripped then .tripped else .cold } := if_neg hr
    have hv : heatSoftReset s = if v.hc.drum = .tripped then v else setDrum .cold v := if_neg hr
    rw [hv, hh]
    by_cases hd : v.hc.drum = .tripped
    · rw [if_pos hd, if_pos hd, ← hd]
      exact ⟨[], Becomes.refl v⟩
    · rw [if_neg hd, if_neg hd]
      by_cases hcold : v.hc.drum = .cold
      · have hself : setDrum .cold v = v := if_pos hcold
        rw [hself, ← hcold]
        exact ⟨[], Becomes.refl v⟩
      · exact ⟨_, setDrum_becomes (s := v) hcold⟩

/-- HC's soft-reset values, field by field. -/
theorem heatSoftReset_off (h : Heat) (hr : h.retain = false) : (h.softReset.drum = if h.drum = .tripped then .tripped else .cold) ∧
    ∀ z ∈ h.softReset.zones.toList, z.target = 0 ∧ z.enable = false ∧ z.state = .off ∧ z.duty = 0 ∧ z.integral = 0 ∧ z.eff = 0 ∧
      z.validRun = 0 := by
  have hs : h.softReset = { h with zones := h.zones.map (fun z => { z.turnOff with target := 0, enable := false }),
                                   drum := if h.drum = .tripped then .tripped else .cold } := if_neg (by simp [hr])
  rw [hs]
  refine ⟨rfl, fun z hz => ?_⟩
  simp only [Oct.map, Oct.toList, List.mem_cons, List.not_mem_nil, or_false] at hz
  rcases hz with rfl | rfl | rfl | rfl | rfl | rfl | rfl | rfl <;> exact ⟨rfl, rfl, rfl, rfl, rfl, rfl, rfl⟩

/-! ## DC -/

/-- The line state of a soft reset (06 R137). -/
def Pins.restLine (p : Pins) : LineState := if p.mainsOk then .stopped else .powerHeld

/-- DC's soft-reset values, the switches confirming the nip open (06 R136, R137). -/
def State.driveReset (s : State) : Drive :=
  { Drive.reset with
    line := s.pins.restLine,
    webs := ⟨s.dc.webs.paper.softReset 300, s.dc.webs.fabric.softReset 200, s.dc.webs.tissue.softReset 150⟩,
    storedIn := s.bt.pos.infeed.nm, storedDr := s.bt.pos.drum.nm }

/-- The track as the nip is set open: the bands ON_DRUM under a CLOSED nip are exposed (05 R107). -/
def State.nipOpenTrack (s : State) : List Band :=
  if s.dc.nip = .closed then s.bt.track.map (fun b => b.flagIf (b.state == .onDrum) .stopExposed) else s.bt.track

theorem setNip_opened_becomes (s : State) : Becomes { s with dc.nip := .opened, bt.track := s.nipOpenTrack } [] (setNip .opened s) := by
  by_cases h : s.dc.nip = .opened
  · have hself : setNip .opened s = s := if_pos h
    have htrack : s.nipOpenTrack = s.bt.track := if_neg (by rw [h]; decide)
    rw [hself, htrack, ← h]
    exact Becomes.refl s
  · by_cases hc : s.dc.nip = .closed
    · have htrack : s.nipOpenTrack = s.bt.track.map (fun b => b.flagIf (b.state == .onDrum) .stopExposed) := if_pos hc
      rw [htrack]
      exact setNip_leaves_closed h hc
    · have htrack : s.nipOpenTrack = s.bt.track := if_neg hc
      rw [htrack]
      exact setNip_becomes h hc

/-- The line at a soft reset: LINE is raised where that is a change (06 R111, R137). -/
theorem setLine_rest_becomes (s : State) : ∃ ns d, Becomes { s with dc := d } ns (setLine s.pins.restLine s) ∧
    (s.dc.line ≠ s.pins.restLine → .line ∈ ns) ∧ d.line = s.pins.restLine ∧ d.nip = s.dc.nip ∧
    d.webs.map WebLoop.inRange = s.dc.webs.map WebLoop.inRange := by
  by_cases h : s.dc.line = s.pins.restLine
  · have hself : setLine s.pins.restLine s = s := if_pos h
    exact ⟨[], s.dc, by rw [hself]; exact Becomes.refl s, fun hc => absurd h hc, h, rfl, rfl⟩
  · have hcounts : s.pins.restLine.counts = false := by
      unfold Pins.restLine
      cases s.pins.mainsOk <;> rfl
    refine ⟨_, _, setLine_becomes h, fun _ => List.mem_singleton.2 rfl, rfl, rfl, ?_⟩
    rw [hcounts]
    rfl

/-- DC's soft-reset values but for the nip, from a state of DC and the positions. -/
def Drive.softValues (p : Encs Position) (x : Drive) : Drive := { x with
  stopKind := .normal, setpoint := Drive.reset.setpoint, accel := Drive.reset.accel, ref := 0,
  webs := ⟨x.webs.paper.softReset 300, x.webs.fabric.softReset 200, x.webs.tissue.softReset 150⟩,
  devLimit := Drive.reset.devLimit, faultTime := Drive.reset.faultTime, stretch := 0,
  storedIn := p.infeed.nm, storedDr := p.drum.nm, valve := .opening, nipHold := 0, silence := ⟨0, 0, 0⟩, startCause := .none }

theorem softValues_open {s : State} {d : Drive} (hl : d.line = s.pins.restLine)
    (hw : d.webs.map WebLoop.inRange = s.dc.webs.map WebLoop.inRange) :
    { d.softValues s.bt.pos with nip := .opened, nipTimer := none } = s.driveReset := by
  have hp : d.webs.paper.inRange = s.dc.webs.paper.inRange := congrArg Webs.paper hw
  have hf : d.webs.fabric.inRange = s.dc.webs.fabric.inRange := congrArg Webs.fabric hw
  have ht : d.webs.tissue.inRange = s.dc.webs.tissue.inRange := congrArg Webs.tissue hw
  unfold Drive.softValues State.driveReset WebLoop.softReset
  rw [hp, hf, ht, ← hl]
  rfl

theorem driveSoftReset_becomes {s : State} (hopen : s.pins.nipOpen = true) (hnip : s.dc.nip ≠ .fault) :
    ∃ ns, Becomes { s with dc := s.driveReset, bt.track := s.nipOpenTrack } ns (driveSoftReset s) ∧
      (s.dc.line ≠ s.pins.restLine → .line ∈ ns) := by
  obtain ⟨ns, d, h, hline, hl, hn, hw⟩ := setLine_rest_becomes s
  let s1 : State := setLine s.pins.restLine s
  have hbt : s1.bt = s.bt := h.bt
  let s2 : State := { s1 with dc := s1.dc.softValues s1.bt.pos }
  have hnip2 : s2.dc.nip = s.dc.nip := (congrArg Drive.nip h.dc).trans hn
  have hfault : s2.dc.nip ≠ .fault := hnip2 ▸ hnip
  have hopen2 : s2.pins.nipOpen = true := (congrArg Pins.nipOpen h.pins).trans hopen
  have htrack : s2.nipOpenTrack = s.nipOpenTrack := by
    rw [State.nipOpenTrack, State.nipOpenTrack, hnip2, show s2.bt = s.bt from hbt]
  have heq : driveSoftReset s = { setNip .opened s2 with dc.nipTimer := none } := (if_neg hfault).trans (if_pos hopen2)
  have h2 : Becomes { s with dc := d.softValues s.bt.pos } ns s2 := hbt ▸ h.setDc (Drive.softValues s1.bt.pos)
  have h3 := (((h2.setDc (fun x => { x with nip := .opened })).setBt (fun b => { b with track := s2.nipOpenTrack })).trans
    (setNip_opened_becomes s2)).setDc (fun x => { x with nipTimer := none })
  rw [heq]
  refine ⟨ns ++ [], ?_, fun hc => by simpa using hline hc⟩
  rw [← softValues_open hl hw, ← htrack]
  exact h3

/-! ## All blocks -/

/-- The state once soft reset has reached every block but BT, MR and TR's last steps: no segment is TAKEN, and the switches confirm the
nip open. -/
def State.blocksReset (s : State) : State :=
  { s with
    smp := { s.smp with
      soft := .retiring, copies := s.smp.copies.filter (fun t => !t.isCopy), reads := s.smp.reads.filter (fun t => !t.isTicketRead) },
    cv := s.cv.softReset, ps := { s.ps with staging := none }, tr := s.tr.softReached, re := s.re.cleared, hc := s.hc.softReset,
    dc := s.driveReset, bt := { s.bt with track := s.nipOpenTrack } }

/-- Stage 2 up to BT's wait for a retirement in progress (10 R190, 01 R25, step 1). -/
theorem softReach_blocks {s : State} (hopen : s.pins.nipOpen = true) (hnip : s.dc.nip ≠ .fault) (hidle : s.re.raster ≠ .printing) :
    ∃ x ns, Becomes s.blocksReset ns x ∧ (s.dc.line ≠ s.pins.restLine → .line ∈ ns) ∧
      softReach s = if x.bt.retiring.isSome then x else softDiscard x := by
  let port : Port := { s.smp with soft := .retiring, copies := s.smp.copies.filter (fun t => !t.isCopy) }
  obtain ⟨a, hae⟩ : ∃ a, a = verifierSoftReset { s with smp.soft := .retiring } := ⟨_, rfl⟩
  have ha : Becomes { s with smp := { s.smp with soft := .retiring }, cv := s.cv.softReset } _ a :=
    hae ▸ verifierSoftReset_becomes { s with smp.soft := .retiring }
  obtain ⟨b, hbe⟩ : ∃ b, b = storeSoftReset a := ⟨_, rfl⟩
  have hb : Becomes { s with smp := port, cv := s.cv.softReset, ps := { s.ps with staging := none } } _ b :=
    hbe ▸ ((ha.setPs (fun p => { p with staging := none })).setCopies (List.filter (fun t => !t.isCopy))).trans
      (storeSoftReset_becomes a)
  obtain ⟨c, hce⟩ : ∃ c, c = readerSoftReset b := ⟨_, rfl⟩
  have hc : Becomes { s with smp := port.readsCut, cv := s.cv.softReset, ps := { s.ps with staging := none }, tr := s.tr.softReached } _ c :=
    hce ▸ (hb.readsCut.setTr Reader.softReached).trans (readerSoftReset_becomes b)
  obtain ⟨d, hde⟩ : ∃ d, d = clearSegment c := ⟨_, rfl⟩
  have hd : Becomes { s with smp := port.readsCut, cv := s.cv.softReset, ps := { s.ps with staging := none }, tr := s.tr.softReached,
                             re := s.re.cleared } _ d :=
    hde ▸ (hc.setRe Raster.cleared).trans (clearSegment_becomes (s := c) (by rw [hc.re]; exact hidle))
  obtain ⟨ns, hheat⟩ := heatSoftReset_becomes d
  obtain ⟨e, hee⟩ : ∃ e, e = heatSoftReset d := ⟨_, rfl⟩
  have he : Becomes { s with smp := port.readsCut, cv := s.cv.softReset, ps := { s.ps with staging := none }, tr := s.tr.softReached,
                             re := s.re.cleared, hc := s.hc.softReset } _ e :=
    hee ▸ (hd.setHc Heat.softReset).trans hheat
  have hpins : e.pins = s.pins := he.pins
  have hdc : e.dc = s.dc := he.dc
  have hbt : e.bt = s.bt := he.bt
  obtain ⟨ms, hdrive, hline⟩ := driveSoftReset_becomes (s := e) (by rw [hpins]; exact hopen) (by rw [hdc]; exact hnip)
  have hreset : e.driveReset = s.driveReset := by rw [State.driveReset, State.driveReset, hpins, hdc, hbt]
  have htrack : e.nipOpenTrack = s.nipOpenTrack := by rw [State.nipOpenTrack, State.nipOpenTrack, hdc, hbt]
  rw [hreset, htrack] at hdrive
  have hx : Becomes s.blocksReset _ (driveSoftReset e) :=
    ((he.setDc (fun _ => s.driveReset)).setBt (fun t => { t with track := s.nipOpenTrack })).trans hdrive
  have hreach : softReach s = if (driveSoftReset e).bt.retiring.isSome then driveSoftReset e else softDiscard (driveSoftReset e) := by
    rw [hee, hde, hce, hbe, hae]
    rfl
  refine ⟨driveSoftReset e, _, hx, fun hl => List.mem_append.2 (.inr (hline ?_)), hreach⟩
  rw [hdc, hpins]
  exact hl

end Sys2Proof.Machine
end

section
/-! Soft reset once it has reached the blocks (10 R190): what BT discards and finalises, TR's last steps, and the commands that lead
there. -/

namespace Sys2Proof.Machine

/-! ## The discard (01 R25) -/

/-- The state with every record removed and every entry to be finalised with cause RESET. -/
def State.discarded (s : State) : State :=
  { s with bt := { s.bt with track := [], tallies := s.bt.tallies.map (Tally.discard s.bt.track) }, smp := { s.smp with soft := .writing } }

/-- A header write in flight is waited for before anything is finalised (log entry 33). -/
theorem softDiscard_waits {s : State} (h : ∃ x ∈ s.smp.writes, x.isHeaderWrite = true) : softDiscard s = s.discarded := by
  have hany : s.discarded.smp.writes.any Transfer.isHeaderWrite = true := List.any_eq_true.2 h
  exact if_pos hany

theorem softDiscard_goes {s : State} (h : ∀ x ∈ s.smp.writes, x.isHeaderWrite = false) :
    softDiscard s = softFinalise { s.discarded with smp.soft := .finalising } := by
  have hany : ¬s.smp.writes.any Transfer.isHeaderWrite = true := by simpa using h
  exact if_neg hany

/-- A finalisation that begins is one update of the entry and its counts write. -/
theorem finalise_only {e : Tally} {s : State} (ht : s.bt.tallies = [e]) (hc : e.closing = false) (hs : e.stale = true) :
    finalise e.id s = { s with
      bt := { s.bt with tallies := [{ e with closing := true, stale := false }] },
      smp := { s.smp with writes := s.smp.writes ++ [writeOf (.countsWrite (.finalise e.id)) (e.addr + 132) (countsWords e)] } } := by
  have hone : OneTally e.id e s.bt.tallies := by
    rw [ht]
    exact oneTally_append (l := []) (by simp) rfl
  have hmap : s.bt.tallies.map (fun y => if y = e then { e with closing := true, stale := false } else y) =
      [{ e with closing := true, stale := false }] := by
    rw [ht]
    simp
  rw [finalise_stale hone hc hs, hmap]

/-- The first entry's finalisation begins with its counts write, and the next entry waits for it (01 R25, step 3). -/
theorem softFinalise_stale {e : Tally} {s : State} (ht : s.bt.tallies = [e]) (hc : e.closing = false) (hs : e.stale = true) :
    softFinalise s = finalise e.id s := by
  have hlen : ¬(finalise e.id s).bt.tallies.length < s.bt.tallies.length := by
    rw [finalise_only ht hc hs, ht]
    simp
  unfold softFinalise finaliseNext
  rw [ht]
  dsimp only
  rw [← ht, if_neg hlen]

theorem softFinalise_none {s : State} (ht : s.bt.tallies = []) : softFinalise s = softSettle s := by
  unfold softFinalise finaliseNext
  rw [ht]

/-! ## TR's last steps (09 R180, steps 3 to 5) -/

/-- A REPORT's snapshot write is waited for (09 R180, step 4). -/
theorem softClose_report {s : State} (h : ∃ x ∈ s.smp.copies, x.kind = .reportWrite) : softClose s = s := by
  refine if_neg (fun hc => ?_)
  obtain ⟨x, hx, hk⟩ := h
  have := List.any_eq_false.1 hc.2 x hx
  simp [Transfer.isReport, hk] at this

section
variable {s : State} (hs : s.smp.soft = .closing)

include hs

theorem softClose_ticket {k : Ticket} (h : ∀ x ∈ s.smp.copies, x.kind ≠ .reportWrite) (ht : s.tr.ticket = some k)
    (hk : k.phase = .handed) : softClose s = finishTicket .failed .reset 0 s := by
  have hcopies : s.smp.copies.any Transfer.isReport = false := List.any_eq_false.2 fun x hx => by simp [Transfer.isReport, h x hx]
  exact (if_pos ⟨hs, hcopies⟩).trans (if_pos (by simp [ht, Ticket.unsettled, hk]))

theorem softClose_last (h : ∀ x ∈ s.smp.copies, x.kind ≠ .reportWrite) (ht : s.tr.ticket = none)
    (hw : ∀ x ∈ s.smp.writes, x.isHeaderWrite = false) : softClose s = softLast s := by
  have hcopies : s.smp.copies.any Transfer.isReport = false := List.any_eq_false.2 fun x hx => by simp [Transfer.isReport, h x hx]
  have hwrites : s.smp.writes.any Transfer.isHeaderWrite = false := by simpa using hw
  exact (if_pos ⟨hs, hcopies⟩).trans ((if_neg (by simp [ht])).trans (if_neg (by rw [hwrites]; decide)))

end

/-- MR's soft-reset values (07 R151). -/
def Marks.softReset (m : Marks) : Marks := { m with lock := .search, found := 0, miss := 0, ccur := 0, errors := 0, lastRead := none }

/-- TR's soft-reset values (09 R180, step 5). -/
def Reader.softReset (r : Reader) : Reader :=
  { r with reader := .idle, haltReq := false, pauseReq := false, awaitSeg := none, pollRunning := false, pollElapsed := 0 }

theorem softLast_becomes (s : State) : ∃ ns, Becomes { s with
    smp := { s.smp with soft := .settling }, tr := s.tr.softReset, mr := s.mr.softReset } ns (softLast s) := by
  let v : State := { s with smp.soft := .settling, tr.pauseReq := false }
  have hm : ∃ ns, Becomes { v with mr := s.mr.softReset } ns (marksSoftReset v) := by
    by_cases hl : s.mr.lock = .search
    · have heq : marksSoftReset v = { requestProgress v with mr := (requestProgress v).mr.softReset } :=
        congrArg (fun x : State => { x with mr := x.mr.softReset }) (if_pos hl)
      rw [heq]
      exact ⟨_, (requestProgress_becomes v).setMr Marks.softReset⟩
    · have heq : marksSoftReset v = { raiseIf (v.cfg.lockEdge == .both) .lock (requestProgress v) with
          mr := (raiseIf (v.cfg.lockEdge == .both) .lock (requestProgress v)).mr.softReset } :=
        congrArg (fun x : State => { x with mr := x.mr.softReset }) (if_neg hl)
      rw [heq]
      exact ⟨_, ((requestProgress_becomes v).trans (raiseIf_becomes _ _ _)).setMr Marks.softReset⟩
  obtain ⟨ns, hm⟩ := hm
  exact ⟨ns, hm.setTr (fun r => { r with reader := .idle, haltReq := false, awaitSeg := none, pollRunning := false, pollElapsed := 0 })⟩

/-! ## What stage 2 leaves -/

theorem Becomes.discarded {ns : List Notice} {u t : State} (h : Becomes u ns t) : Becomes u.discarded ns t.discarded :=
  (h.setBt (fun b => { b with track := [], tallies := b.tallies.map (Tally.discard b.track) })).setSoft .writing

/-- The exposure of bands under a nip that opens has no part in what is discarded. -/
theorem discard_nipOpenTrack (s : State) (e : Tally) : e.discard s.nipOpenTrack = e.discard s.bt.track := by
  have hlen : (s.nipOpenTrack.filter (fun b => b.tally == e.id)).length = (s.bt.track.filter (fun b => b.tally == e.id)).length := by
    unfold State.nipOpenTrack
    split
    · have htally : ∀ b : Band, (b.flagIf (b.state == .onDrum) .stopExposed).tally = b.tally := fun b => by
        cases hb : b.state == .onDrum <;> rfl
      rw [List.filter_map, List.length_map]
      exact congrArg List.length (List.filter_congr fun b _ => by simp [htally])
    · rfl
  unfold Tally.discard
  rw [hlen]

/-- The state as TR's last steps begin, BT having nothing to finalise (01 R25, step 4). -/
def State.softClosing (s : State) : State :=
  { s.blocksReset with
    bt := { s.bt with track := [], tallies := [], splices := [], overflow := false },
    smp := { s.blocksReset.smp with soft := .closing } }

/-- The copies that soft reset leaves hold no snapshot write where none was queued. -/
theorem softClosing_noReport {s : State} (hc : ∀ x ∈ s.smp.copies, x.kind ≠ .reportWrite) :
    ∀ x ∈ s.softClosing.smp.copies, x.kind ≠ .reportWrite :=
  fun x hx => hc x (List.mem_filter.1 hx).1

theorem isRepeatedTaken_of_isHeaderWrite {y : Transfer} (addr : Nat) (h : y.isHeaderWrite = false) : y.isRepeatedTaken addr = false := by
  unfold Transfer.isHeaderWrite at h
  unfold Transfer.isRepeatedTaken
  cases hk : y.kind <;> simp_all

section
variable {s : State} (hopen : s.pins.nipOpen = true) (hnip : s.dc.nip ≠ .fault) (hidle : s.re.raster ≠ .printing)

include hopen hnip hidle

theorem softReach_retiring (hr : s.bt.retiring ≠ none) : ∃ ns, Becomes s.blocksReset ns (softReach s) := by
  obtain ⟨x, ns, h, -, he⟩ := softReach_blocks hopen hnip hidle
  have hx : x.bt.retiring.isSome = true := by
    rw [h.bt]
    exact Option.isSome_iff_ne_none.2 hr
  rw [he, if_pos hx]
  exact ⟨ns, h⟩

/-- With no retirement in progress BT discards at once. -/
theorem softReach_discards (hr : s.bt.retiring = none) :
    ∃ x ns, Becomes s.blocksReset ns x ∧ (s.dc.line ≠ s.pins.restLine → .line ∈ ns) ∧ softReach s = softDiscard x := by
  obtain ⟨x, ns, h, hl, he⟩ := softReach_blocks hopen hnip hidle
  have hx : ¬x.bt.retiring.isSome = true := by
    rw [h.bt]
    simp [State.blocksReset, hr]
  exact ⟨x, ns, h, hl, he.trans (if_neg hx)⟩

theorem softReach_writing (hr : s.bt.retiring = none) (hw : ∃ x ∈ s.smp.writes, x.isHeaderWrite = true) :
    ∃ ns, Becomes s.blocksReset.discarded ns (softReach s) := by
  obtain ⟨x, ns, h, -, he⟩ := softReach_discards hopen hnip hidle hr
  rw [he, softDiscard_waits (by rw [h.writes]; exact hw)]
  exact ⟨ns, h.discarded⟩

theorem softReach_finalising {e : Tally} (hr : s.bt.retiring = none) (hw : ∀ x ∈ s.smp.writes, x.isHeaderWrite = false)
    (ht : s.bt.tallies = [e]) (hc : e.closing = false) (hb : ∃ b ∈ s.bt.track, b.tally = e.id) :
    ∃ ns, Becomes { s.blocksReset with
      bt := { s.bt with track := [], tallies := [{ e.discard s.bt.track with closing := true, stale := false }] },
      smp := { s.blocksReset.smp with soft := .finalising, writes := s.smp.writes ++
        [writeOf (.countsWrite (.finalise e.id)) (e.addr + 132) (countsWords (e.discard s.bt.track))] } } ns (softReach s) := by
  obtain ⟨x, ns, h, -, he⟩ := softReach_discards hopen hnip hidle hr
  have hstale : (e.discard s.bt.track).stale = true := by
    obtain ⟨b, hb, hbe⟩ := hb
    have hmem : b ∈ s.bt.track.filter (fun b => b.tally == e.id) := List.mem_filter.2 ⟨hb, by simp [hbe]⟩
    have hn := (List.length_pos_of_mem hmem).ne'
    simp [Tally.discard, hn]
  let R : State := { s.blocksReset.discarded with smp := { s.blocksReset.discarded.smp with soft := .finalising } }
  have hR : Becomes R ns { x.discarded with smp.soft := .finalising } := h.discarded.setSoft .finalising
  have htR : R.bt.tallies = [e.discard s.bt.track] := by
    rw [← discard_nipOpenTrack]
    exact congrArg (List.map (Tally.discard s.nipOpenTrack)) ht
  have hf := hR.finalise (e.discard s.bt.track).id
  rw [finalise_only (s := R) (e := e.discard s.bt.track) htR hc hstale] at hf
  rw [he, softDiscard_goes (by rw [h.writes]; exact hw), softFinalise_stale (e := e.discard s.bt.track) (by rw [hR.bt]; exact htR) hc hstale]
  exact ⟨ns, hf⟩

/-- BT has nothing to finalise: TR's last steps follow at once. -/
theorem softReach_closes (hr : s.bt.retiring = none) (hw : ∀ x ∈ s.smp.writes, x.isHeaderWrite = false)
    (ht : s.bt.tallies = []) :
    ∃ x ns, Becomes s.softClosing ns x ∧
      (s.dc.line ≠ s.pins.restLine → .line ∈ ns) ∧ softReach s = softClose x := by
  obtain ⟨x, ns, h, hl, he⟩ := softReach_discards hopen hnip hidle hr
  let R : State := { s.blocksReset.discarded with smp := { s.blocksReset.discarded.smp with soft := .finalising } }
  have hR : Becomes R ns { x.discarded with smp.soft := .finalising } := h.discarded.setSoft .finalising
  have htR : R.bt.tallies = [] := congrArg (List.map (Tally.discard s.nipOpenTrack)) ht
  have hbt : { R.bt with splices := [], overflow := false } = { s.bt with track := [], tallies := [], splices := [], overflow := false } :=
    congrArg (fun l => { s.bt with track := [], tallies := l, splices := [], overflow := false }) htR
  have hclose := (hR.setBt (fun b => { b with splices := [], overflow := false })).setSoft .closing
  rw [hbt] at hclose
  refine ⟨_, ns, hclose, hl, ?_⟩
  rw [he, softDiscard_goes (by rw [h.writes]; exact hw), softFinalise_none (by rw [hR.bt]; exact htR)]
  rfl

theorem softReach_report (hr : s.bt.retiring = none) (hw : ∀ x ∈ s.smp.writes, x.isHeaderWrite = false) (ht : s.bt.tallies = [])
    (hc : ∃ x ∈ s.smp.copies, x.kind = .reportWrite) : ∃ ns, Becomes s.softClosing ns (softReach s) := by
  obtain ⟨x, ns, h, -, he⟩ := softReach_closes hopen hnip hidle hr hw ht
  have hcopies : ∃ y ∈ x.smp.copies, y.kind = .reportWrite := by
    obtain ⟨y, hy, hk⟩ := hc
    rw [h.copies]
    exact ⟨y, List.mem_filter.2 ⟨hy, by simp [Transfer.isCopy, hk]⟩, hk⟩
  rw [he, softClose_report hcopies]
  exact ⟨ns, h⟩

theorem softReach_ticket {k : Ticket} (hr : s.bt.retiring = none) (hw : ∀ x ∈ s.smp.writes, x.isHeaderWrite = false)
    (ht : s.bt.tallies = []) (hc : ∀ x ∈ s.smp.copies, x.kind ≠ .reportWrite) (hk : s.tr.ticket = some k) (hp : k.phase = .handed) :
    ∃ ns, Becomes { s.softClosing with
      tr := { s.tr with awaitSeg := none, ticket := some { k with phase := .final } },
      smp := { s.softClosing.smp with writes := s.smp.writes ++ [finalWrite k .failed .reset 0] } } ns (softReach s) := by
  obtain ⟨x, ns, h, -, he⟩ := softReach_closes hopen hnip hidle hr hw ht
  have htr : s.softClosing.tr.ticket = some k := by
    show s.tr.ticket.filter Ticket.past = some k
    rw [hk]
    simp [Ticket.past, hp]
  have hwrites : ∀ y ∈ s.softClosing.smp.writes, y.isRepeatedTaken k.addr = false :=
    fun y hy => isRepeatedTaken_of_isHeaderWrite _ (hw y hy)
  have hf := h.finishTicket .failed .reset 0
  rw [finishTicket_eq (s := s.softClosing) htr hwrites] at hf
  rw [he, softClose_ticket (by rw [h.soft]; rfl) (by rw [h.copies]; exact softClosing_noReport hc) (by rw [h.tr]; exact htr) hp]
  exact ⟨ns, hf⟩

theorem softReach_settles (hr : s.bt.retiring = none) (hw : ∀ x ∈ s.smp.writes, x.isHeaderWrite = false)
    (ht : s.bt.tallies = []) (hc : ∀ x ∈ s.smp.copies, x.kind ≠ .reportWrite) (hk : s.tr.ticket = none) :
    ∃ ns, Becomes { s.softClosing with
      tr := s.tr.softReset, mr := s.mr.softReset, smp := { s.softClosing.smp with soft := .settling } } ns (softReach s) ∧
      (s.dc.line ≠ s.pins.restLine → .line ∈ ns) := by
  obtain ⟨x, ns, h, hl, he⟩ := softReach_closes hopen hnip hidle hr hw ht
  have htr : s.softClosing.tr.softReset = s.tr.softReset := by
    have hticket : s.tr.ticket.filter Ticket.past = s.tr.ticket := by
      rw [hk]
      rfl
    exact congrArg (fun k => { s.tr.softReset with ticket := k }) hticket
  have hticket : x.tr.ticket = none := by
    rw [h.tr]
    exact congrArg (Option.filter Ticket.past) hk
  obtain ⟨ms, hlast⟩ := softLast_becomes x
  have hu := (((h.setSoft .settling).setTr Reader.softReset).setMr Marks.softReset).trans hlast
  rw [htr] at hu
  rw [he, softClose_last (by rw [h.soft]; rfl) (by rw [h.copies]; exact softClosing_noReport hc) hticket (by rw [h.writes]; exact hw)]
  exact ⟨_, hu, fun hc => List.mem_append.2 (.inl (hl hc))⟩

end

/-! ## The commands that lead there -/

/-- DC's soft reset stands at the end of stage 2 (06 R137). -/
theorem softReach_dc {s : State} (hopen : s.pins.nipOpen = true) (hnip : s.dc.nip ≠ .fault) (hidle : s.re.raster ≠ .printing) :
    (softReach s).dc = s.driveReset := by
  obtain ⟨x, ns, h, -, he⟩ := softReach_blocks hopen hnip hidle
  have hx : x.dc = s.driveReset := h.dc
  rw [he]
  split
  · exact hx
  · simpa using hx

/-- A stop that comes to speed 0 in a soft reset (06 R112, R137). -/
theorem speedZeroTest_soft {s : State} (hs : s.smp.soft = .stopping)
    (hl : (s.dc.line = .stopping ∧ s.dc.stopKind = .fast) ∨ s.dc.line = .powerStop) (hr : s.dc.ref = 0) :
    speedZeroTest s = softReach (zeroLoops s) := by
  have hzero : s.atSpeedZero = true := by
    unfold State.atSpeedZero
    rcases hl with ⟨hl, hk⟩ | hl
    · simp [hr, hl, hk]
    · simp [hr, hl]
  exact (if_pos hzero).trans (if_pos hs)

/-- The sample that brings the reference to 0 makes the test itself (log entry 17). -/
theorem refStage_soft {s : State} (hs : s.smp.soft = .stopping)
    (hl : (s.dc.line = .stopping ∧ s.dc.stopKind = .fast) ∨ s.dc.line = .powerStop) (hr : s.dc.ref ≤ s.cfg.stopDecel * 5) :
    refStage s = softReach (zeroLoops { s with dc.ref := 0 }) := by
  have hnext : s.nextRef = 0 := by
    have hstep : stepToward s.dc.ref 0 (s.cfg.stopDecel * 5) = 0 := by
      unfold stepToward
      split <;> omega
    unfold State.nextRef
    rcases hl with ⟨hl, hk⟩ | hl
    · rw [hl, hk]
      exact hstep
    · rw [hl]
      exact hstep
  have hmoving : s.dc.line ≠ .starting := by
    rcases hl with ⟨hl, -⟩ | hl <;> rw [hl] <;> decide
  have href : stepRef s = { s with dc.ref := 0 } := by
    unfold stepRef
    rw [hnext]
    exact if_neg (by omega)
  have hclose : nipCloseTest { s with dc.ref := 0 } = { s with dc.ref := 0 } := if_neg (fun hc => hmoving hc.1)
  have hrun : runningTest { s with dc.ref := 0 } = { s with dc.ref := 0 } := if_neg (fun hc => hmoving hc.1)
  unfold refStage
  rw [href, hclose, hrun]
  exact speedZeroTest_soft hs hl rfl

end Sys2Proof.Machine
end

section
/-! Soft reset at rest or at speed 0 (10 R190): the rest of the sample that brings it there, and the six outcomes of O11. -/

namespace Sys2Proof.Machine

/-! ## The rest of a sample with the line at rest (06 R126) -/

/-- A web after the later stages of a sample, the loops being off. -/
def WebLoop.sampledAtRest (c : LoadCell) (w : WebLoop) : WebLoop := { w.read false c with integral := 0, demand := 0, run := 0 }

/-- The webs after the later stages of a sample, the loops being off. -/
def Drive.sampledAtRest (cells : Webs LoadCell) (d : Drive) : Webs WebLoop :=
  ⟨d.webs.paper.sampledAtRest cells.paper, d.webs.fabric.sampledAtRest cells.fabric, d.webs.tissue.sampledAtRest cells.tissue⟩

/-- With the line STOPPED or POWER_HELD the stages after the first change the webs alone, and send the demands. -/
theorem sampleStages_atRest {s : State} (cells : Webs LoadCell) (hl : s.dc.line = s.pins.restLine) :
    ∃ o, driveOut (faultStage (countStage (loopStage (sensorStage (readStage cells s))))) =
      { s with dc := { s.dc with webs := s.dc.sampledAtRest cells }, out := o } := by
  have hmoving : s.dc.line.moving = false := by
    rw [hl, Pins.restLine]
    cases s.pins.mainsOk <;> rfl
  have hcounts : s.dc.line.counts = false := by
    rw [hl, Pins.restLine]
    cases s.pins.mainsOk <;> rfl
  have hfast : ∀ v : State, v.dc.line = s.dc.line → v.canFastStop = false := fun v hv => by
    unfold State.canFastStop
    rw [hv, hl, Pins.restLine]
    cases s.pins.mainsOk <;> rfl
  have hsensor : ∀ v : State, v.dc.line = s.dc.line → sensorStage v = v := fun v hv => if_neg (by simp [hfast v hv])
  have hfault : ∀ v : State, v.dc.line = s.dc.line → faultStage v = v := fun v hv => by
    refine if_neg ?_
    simp [Drive.runFaults, hv, hcounts]
  let v1 : State := readStage cells s
  let v2 : State := { v1 with dc.webs := v1.dc.webs.map (fun w => { w with integral := 0, demand := 0 }) }
  have hloop : loopStage v1 = v2 := if_neg (by rw [show v1.dc.line = s.dc.line from rfl, hmoving]; decide)
  rw [hsensor v1 rfl, hloop, hfault (countStage v2) rfl]
  have hcount : ∀ (n : Nat) (w : WebLoop), w.countRun s.dc.line.counts n = { w with run := 0 } := fun n w => by
    rw [hcounts]
    rfl
  have hwebs : (countStage v2).dc.webs = s.dc.sampledAtRest cells := by
    have hread : ∀ (n : Nat) (c : LoadCell) (w : WebLoop), ({ w.read s.dc.line.moving c with integral := 0, demand := 0 }.countRun
        s.dc.line.counts n) = w.sampledAtRest c := fun n c w => by
      rw [hmoving, hcount]
      rfl
    show (⟨_, _, _⟩ : Webs WebLoop) = _
    exact congr (congr (congrArg Webs.mk (hread _ _ _)) (hread _ _ _)) (hread _ _ _)
  have hstate : countStage v2 = { s with dc := { s.dc with webs := (countStage v2).dc.webs } } := rfl
  rw [hstate, hwebs]
  exact ⟨_, rfl⟩

/-- The webs have their soft-reset values; a sample that goes on stores its tensions. -/
def WebsReset (sample : Prop) (w : Webs WebLoop) : Prop :=
  w.toList.map WebLoop.tset = [300, 200, 150] ∧ ∀ x ∈ w.toList, x.kp = 32 ∧ x.ki = 4 ∧ x.zero = 0 ∧ x.scale = 1024 ∧
    x.integral = 0 ∧ x.demand = 0 ∧ x.run = 0 ∧ (¬sample → x.tension = 0) ∧ x.peak = none

theorem driveReset_webs (sample : Prop) (s : State) : WebsReset sample s.driveReset.webs := by
  refine ⟨rfl, fun x hx => ?_⟩
  simp only [Webs.toList, List.mem_cons, List.not_mem_nil, or_false] at hx
  rcases hx with rfl | rfl | rfl <;> exact ⟨rfl, rfl, rfl, rfl, rfl, rfl, rfl, fun _ => rfl, rfl⟩

theorem sampledAtRest_webs {sample : Prop} (hs : sample) (cells : Webs LoadCell) (s : State) :
    WebsReset sample (s.driveReset.sampledAtRest cells) := by
  have hread : ∀ (n : Nat) (c : LoadCell) (w : WebLoop), ∃ t r, (w.softReset n).sampledAtRest c =
      { WebLoop.reset n with tension := t, inRange := r } := fun n c w => by
    unfold WebLoop.sampledAtRest WebLoop.read
    split
    · exact ⟨_, _, rfl⟩
    · exact ⟨_, _, rfl⟩
  obtain ⟨t1, r1, h1⟩ := hread 300 cells.paper s.dc.webs.paper
  obtain ⟨t2, r2, h2⟩ := hread 200 cells.fabric s.dc.webs.fabric
  obtain ⟨t3, r3, h3⟩ := hread 150 cells.tissue s.dc.webs.tissue
  have hw : s.driveReset.sampledAtRest cells = ⟨{ WebLoop.reset 300 with tension := t1, inRange := r1 },
      { WebLoop.reset 200 with tension := t2, inRange := r2 }, { WebLoop.reset 150 with tension := t3, inRange := r3 }⟩ := by
    rw [← h1, ← h2, ← h3]
    rfl
  rw [hw]
  refine ⟨rfl, fun x hx => ?_⟩
  simp only [Webs.toList, List.mem_cons, List.not_mem_nil, or_false] at hx
  rcases hx with rfl | rfl | rfl <;> exact ⟨rfl, rfl, rfl, rfl, rfl, rfl, rfl, fun hc => absurd hs hc, rfl⟩

/-! ## The three commands -/

theorem becomes_softReach {s : State} (hout : s.out = []) (hopen : s.pins.nipOpen = true) (hnip : s.dc.nip ≠ .fault)
    (hidle : s.re.raster ≠ .printing) :
    Becomes { softReach s with dc := { s.driveReset with webs := s.driveReset.webs }, out := [] } [] (kick (softReach s)) := by
  have hkeep : (softReach s).out = s.out := by simp
  have hx : softReach s = { softReach s with dc := s.driveReset, out := [] } :=
    congrArg₂ (fun d o => { softReach s with dc := d, out := o }) (softReach_dc hopen hnip hidle) (hkeep.trans hout)
  exact (congrArg (fun y => Becomes y [] (kick (softReach s))) hx).mp (kick_becomes _)

/-- The state that stage 2 starts from: the stage, the outputs and DC's loops may differ from the command's own. -/
def State.reachFrom (u : State) (d : Drive) : State := { u with out := [], smp := { u.smp with soft := .stopping }, dc := d }

/-- Each command of O11 ends in stage 2, from a state that differs from its own in the stage, the outputs and DC's loops. -/
theorem reachesBlocks_run {c : Instr} {l : Lines} {s u : State} (h : ReachesBlocks c l s u) (hopen : s.pins.nipOpen = true)
    (hnip : s.dc.nip ≠ .fault) (hidle : s.re.raster ≠ .printing) :
    ∃ d t w o, exec c s = .next t ∧ d.line = s.dc.line ∧ d.nip = s.dc.nip ∧
      Becomes { softReach (u.reachFrom d) with
        dc := { s.driveReset with webs := w }, out := o } [] t ∧
      WebsReset (∃ cells, c = .tensionSample cells l) w ∧ (¬(∃ cells, c = .tensionSample cells l) → o = []) := by
  have hstage : s.smp.soft = .stopping → { s.smp with soft := .stopping } = s.smp := fun hs => by rw [← hs]
  obtain ⟨hp, ⟨rfl, rfl, hsoft, hl⟩ | ⟨rfl, hsoft, hl, ⟨rfl, hr⟩ | ⟨cells, rfl, hr⟩⟩⟩ := h
  · let P : State := u.reachFrom u.dc
    have hrun : exec .softReset u = .next (kick (softReach P)) := by
      have hctl : lineCtl softStart { u with out := [] } = softStart { u with out := [] } := by
        unfold lineCtl
        rw [show ({ u with out := [] } : State).smp.soft = .off from hsoft]
      have hstart : softStart { u with out := [] } = softReach P := by
        refine if_neg ?_
        rcases hl with hl | hl | hl <;> simp [hl, LineState.moving]
      exact congrArg Host.Outcome.next ((command_eq hp _).trans (congrArg kick (hctl.trans hstart)))
    exact ⟨u.dc, _, _, _, hrun, rfl, rfl, becomes_softReach rfl hopen hnip hidle, driveReset_webs _ P, fun _ => rfl⟩
  · let v : State := { sampleLines l s with out := [] }
    have hrun : exec (.speedZero l) s = .next (kick (softReach (zeroLoops v))) :=
      congrArg Host.Outcome.next ((commandAt_eq hp l _).trans (congrArg kick (speedZeroTest_soft (s := v) hsoft hl hr)))
    refine ⟨(zeroLoops v).dc, _, (zeroLoops v).driveReset.webs, [], hrun, rfl, rfl, ?_, driveReset_webs _ (zeroLoops v), fun _ => rfl⟩
    rw [show (sampleLines l s).reachFrom (zeroLoops v).dc = zeroLoops v
      from congrArg (fun p => { zeroLoops v with smp := p }) (hstage hsoft)]
    exact becomes_softReach (s := zeroLoops v) rfl hopen hnip hidle
  · let v : State := { sampleLines l s with out := [] }
    let P : State := zeroLoops { v with dc.ref := 0 }
    have hdc : (softReach P).dc = P.driveReset := softReach_dc hopen hnip hidle
    obtain ⟨o, hrest⟩ := sampleStages_atRest (s := softReach P) cells (by rw [hdc]; simp; rfl)
    have hrun : exec (.tensionSample cells l) s = .next (kick { softReach P with
        dc := { (softReach P).dc with webs := (softReach P).dc.sampledAtRest cells }, out := o }) := by
      rw [← hrest, ← refStage_soft (s := v) hsoft hl hr]
      exact congrArg Host.Outcome.next (commandAt_eq hp l _)
    rw [hdc] at hrun
    refine ⟨P.dc, _, P.driveReset.sampledAtRest cells, o, hrun, rfl, rfl, ?_, sampledAtRest_webs ⟨cells, rfl⟩ cells P,
      fun hc => absurd ⟨cells, rfl⟩ hc⟩
    rw [show (sampleLines l s).reachFrom P.dc = P
      from congrArg (fun p => { P with smp := p }) (hstage hsoft)]
    exact kick_becomes _

/-! ## Causes and outputs -/

theorem Becomes.setOut {ns : List Notice} {u t : State} (h : Becomes u ns t) (o : List Output) :
    Becomes { u with out := o } ns { t with out := o } := by
  rw [becomes_iff] at *
  exact ⟨by rw [h.1], h.2⟩

/-- A cause that was raised stands in NOTICE. -/
theorem raised_bit {n : Notice} : ∀ {ns : List Notice} {w : BitVec 10}, n ∈ ns ∨ w.getLsbD n.bit = true →
    (ns.foldl (fun w m => w ||| (1#10 <<< m.bit)) w).getLsbD n.bit = true := fun {ns} => by
  induction ns with
  | nil => simp
  | cons m ns ih =>
    intro w h
    have hbit : (1#10 <<< n.bit).getLsbD n.bit = true := by cases n <;> decide
    refine ih ?_
    rcases h with h | h
    · rcases List.mem_cons.1 h with rfl | h
      · exact .inr (by rw [BitVec.getLsbD_or, hbit, Bool.or_true])
      · exact .inl h
    · exact .inr (by rw [BitVec.getLsbD_or, h, Bool.true_or])

/-- RE without a segment changes nothing but its buffer and its tests. -/
theorem cleared_of_rasterIdle {s : State} (h : s.rasterIdle) :
    s.re.cleared = { s.re with slots := [], fetchOn := false, fullWait := false, autoRetry := false } := by
  obtain ⟨h1, h2, h3, h4⟩ := h
  simp [Raster.cleared, h1, h2, h3, h4]

end Sys2Proof.Machine
end

section
namespace Sys2Proof.Proofs

open Sys2Proof.Machine

/-- Settles O11: each command ends in stage 2, whose six outcomes are one lemma each. -/
theorem softResetAtRest : Obligations.SoftResetAtRest := by
  intro c l s u hreach ho hcl hnip hidle sample
  obtain ⟨d, t, w, o, hrun, hdl, hdn, ht, hw, hout⟩ := reachesBlocks_run hreach (by simp [Pins.nipOpen, ho, hcl]) hnip
    (by rw [hidle.1]; decide)
  obtain ⟨p, rfl, hopen, hmains⟩ : ∃ p, u = { s with pins := p } ∧ p.nipOpen = true ∧ p.mainsOk = s.pins.mainsOk := by
    obtain ⟨-, ⟨-, rfl, -⟩ | ⟨rfl, -⟩⟩ := hreach
    · exact ⟨_, rfl, by simp [Pins.nipOpen, ho, hcl], rfl⟩
    · exact ⟨_, rfl, by simp [Pins.nipOpen, ho, hcl], rfl⟩
  let P : State := State.reachFrom { s with pins := p } d
  have hnipP : P.dc.nip ≠ .fault := by
    show d.nip ≠ .fault
    rw [hdn]
    exact hnip
  have hidleP : P.re.raster ≠ .printing := by
    show s.re.raster ≠ .printing
    rw [hidle.1]
    decide
  have hgo : ∀ (R : State) (ns : List Notice), Becomes R ns (softReach P) →
      Becomes { R with dc := { s.driveReset with webs := w }, out := o } ns t := fun R ns h => by
    have hu := ((h.setDc (fun _ => { s.driveReset with webs := w })).setOut o).trans ht
    rwa [List.append_nil] at hu
  refine ⟨fun e htl hc hr hb hwr => ?_, fun hr hn => ?_, fun hr hwr => ?_, fun htr htl hr hwr hcp => ?_,
    fun k htr htl hr hk hph hwr hcp => ?_, fun htr htl hr hk hwr hcp => ?_⟩
  · obtain ⟨ns, h⟩ := softReach_finalising (s := P) hopen hnipP hidleP hr hwr htl hc hb
    have hu := hgo _ ns h
    have hfilter : s.bt.track.filter (fun b => b.tally == e.id) = s.bt.track.filter (fun b => b.tally = e.id) := rfl
    have hdiscard : e.discard s.bt.track = { e with
        discarded := e.discarded + (s.bt.track.filter (fun b => b.tally = e.id)).length,
        inTrack := e.inTrack - (s.bt.track.filter (fun b => b.tally = e.id)).length, cause := .reset,
        stale := (e.discard s.bt.track).stale } := by
      rw [← hfilter]
      rfl
    have hwords : countsWords (e.discard s.bt.track) = countsWords { e with
        discarded := e.discarded + (s.bt.track.filter (fun b => b.tally = e.id)).length } := (congrArg countsWords hdiscard).trans rfl
    refine ⟨t, hrun, hu.soft, hu.bt.trans ?_, hu.writes.trans ?_, (congrArg Reader.reader hu.tr).trans rfl, hu.mr,
      fun hs => hu.out.trans (hout hs)⟩
    · exact congrArg (fun x : Tally => { s.bt with track := [], tallies := [{ x with closing := true, stale := false }] }) hdiscard
    · exact congrArg (fun x => s.smp.writes ++ [writeOf (.countsWrite (.finalise e.id)) (e.addr + 132) x]) hwords
  · obtain ⟨ns, h⟩ := softReach_retiring (s := P) hopen hnipP hidleP hr
    have hu := hgo _ ns h
    refine ⟨t, hrun, hu.soft, hu.bt.trans ?_, hu.writes, (congrArg Reader.reader hu.tr).trans rfl, hu.mr, fun hs => hu.out.trans (hout hs)⟩
    exact congrArg (fun x => { s.bt with track := x }) (if_neg (by show d.nip ≠ .closed; rw [hdn]; exact hn))
  · obtain ⟨ns, h⟩ := softReach_writing (s := P) hopen hnipP hidleP hr hwr
    have hu := hgo _ ns h
    exact ⟨t, hrun, hu.soft, congrArg Tracker.track hu.bt, hu.writes, (congrArg Reader.reader hu.tr).trans rfl, hu.mr,
      fun hs => hu.out.trans (hout hs)⟩
  · obtain ⟨ns, h⟩ := softReach_report (s := P) hopen hnipP hidleP hr hwr htl hcp
    have hu := hgo _ ns h
    exact ⟨t, hrun, hu.soft, (congrArg Reader.reader hu.tr).trans rfl, hu.mr, hu.writes⟩
  · obtain ⟨ns, h⟩ := softReach_ticket (s := P) hopen hnipP hidleP hr hwr htl hcp hk hph
    have hu := hgo _ ns h
    exact ⟨t, hrun, hu.soft, hu.writes, hu.tr, hu.mr⟩
  · obtain ⟨ns, h, hline⟩ := softReach_settles (s := P) hopen hnipP hidleP hr hwr htl hcp hk
    have hu := hgo _ ns h
    obtain ⟨hpins, hcfg, hnow, -, hpend, hregs, -, hraised, -⟩ := hu.frame
    have hdc := hu.dc
    have hrest : p.restLine = s.pins.restLine := by rw [Pins.restLine, Pins.restLine, hmains]
    have hnotice : t.dc.line ≠ s.dc.line → t.smp.notice.getLsbD Notice.line.bit = true := fun hne => by
      have hmem : Notice.line ∈ ns := hline fun hc => hne <|
        calc t.dc.line = s.pins.restLine := congrArg Drive.line hdc
          _ = p.restLine := hrest.symm
          _ = d.line := hc.symm
          _ = s.dc.line := hdl
      exact (congrArg (fun x : BitVec 10 => x.getLsbD Notice.line.bit) hraised).trans (raised_bit (.inl hmem))
    obtain ⟨htset, hwebs⟩ := hw
    refine ⟨t, hrun, hu.soft, hregs, hpins, hcfg, hnow, hpend, hu.tr, hu.re.trans (cleared_of_rasterIdle hidle), hu.ps,
      hu.bt.trans ?_, hu.mr, hu.cv, fun hret => hu.hc.trans (if_pos hret), fun hret => ?_, congrArg Drive.line hdc, hnotice,
      congrArg Drive.ref hdc, congrArg Drive.startCause hdc, congrArg Drive.setpoint hdc, congrArg Drive.accel hdc,
      congrArg Drive.stretch hdc, congrArg Drive.storedIn hdc, congrArg Drive.storedDr hdc, congrArg Drive.nip hdc,
      congrArg Drive.valve hdc, congrArg Drive.devLimit hdc, congrArg Drive.faultTime hdc, congrArg Drive.silence hdc, ?_⟩
    · exact congrArg₂ (fun x y => { s.bt with track := x, tallies := y, splices := [], overflow := false }) htr.symm htl.symm
    · rw [hu.hc]
      exact heatSoftReset_off s.hc hret
    · have hwt : t.dc.webs = w := congrArg Drive.webs hdc
      rw [hwt]
      exact ⟨htset, hwebs⟩

end Sys2Proof.Proofs
end

section
/-! The take checks of a SEGMENT (02 R28, R29): the first field outside its range, the profile slot, the geometry. -/

namespace Sys2Proof.Machine

/-! ## The first check that fails -/

/-- Of checks in ascending order, the first that fails is the smallest index whose field is outside its range. -/
theorem firstFail_eq_some {l : List (Nat × Bool)} {inside : Nat → Prop} {i : Nat} (hasc : l.Pairwise (fun a b => a.1 < b.1))
    (hin : ∀ c ∈ l, c.2 = true ↔ inside c.1) (hmem : ∃ c ∈ l, c.1 = i) (hi : ¬inside i) (hlt : ∀ k < i, inside k) :
    firstFail l = some i := by
  obtain ⟨d, hd, rfl⟩ := hmem
  have hfail : d.2 = false := by simpa using fun h => hi ((hin d hd).1 h)
  cases hf : l.find? (fun c => !c.2) with
  | none => simpa [hfail] using List.find?_eq_none.1 hf d hd
  | some c =>
    obtain ⟨hc, pre, post, rfl, hpre⟩ := List.find?_eq_some_iff_append.1 hf
    have hcout : ¬inside c.1 := fun h => by simp [(hin c (by simp)).2 h] at hc
    have hcd : c = d := by
      rcases List.mem_append.1 hd with h | h
      · simpa [hfail] using hpre d h
      · rcases List.mem_cons.1 h with rfl | h
        · rfl
        · exact absurd (hlt _ ((List.pairwise_cons.1 (List.pairwise_append.1 hasc).2.1).1 d h)) hcout
    rw [firstFail, hf, hcd]
    rfl

/-! ## The fields (02 R28) -/

theorem repeatFits_iff (ws : List Word) : repeatFits ws = true ↔
    ((natAt ws 0 / 16 * 16 : Nat) : Int) + ((natAt ws 3 : Int) - 1) * natAt ws 1 + 4 * natAt ws 2 ≤ 4294967296 := by
  rw [repeatFits, decide_eq_true_eq, max32]
  exact ⟨fun h => by have := h; simp only [address, natAt] at *; omega, fun h => by simp only [address, natAt] at *; omega⟩

theorem areaFits_iff (ws : List Word) : areaFits ws = true ↔ natAt ws 10 / 16 * 16 + natAt ws 11 * 64 ≤ 4294967296 := by
  rw [areaFits, decide_eq_true_eq]
  rfl

theorem inN_iff (x lo hi : Nat) : inN x lo hi = true ↔ lo ≤ x ∧ x ≤ hi := by
  simp [inN]

/-- Every field of a SEGMENT body lies in its range, the repeat and the result area fit, and the void entries read are bands. -/
def SegmentInRange (v : Nat → Nat) : Prop :=
  ((v 0 / 16 * 16 : Nat) : Int) + ((v 3 : Int) - 1) * v 1 + 4 * v 2 ≤ 4294967296 ∧ v 1 % 16 = 0 ∧ 4 * v 2 ≤ v 1 ∧ 1 ≤ v 2 ∧
    v 2 ≤ 80000 ∧ 1 ≤ v 3 ∧ v 3 ≤ 1048575 ∧ 64 ≤ v 4 ∧ v 4 ≤ 16384 ∧ v 6 < v 3 ∧ v 7 ≤ 7 ∧ v 8 ≤ 65535 ∧
    v 10 / 16 * 16 + v 11 * 64 ≤ 4294967296 ∧ 1 ≤ v 11 ∧ v 11 ≤ 65535 ∧ v 12 ≤ 16 ∧ ∀ i < v 12, v 5 = 0 ∨ v (13 + i) < v 5

/-- A property of every check of a SEGMENT body, check by check. -/
theorem forall_segmentChecks {ws : List Word} {P : Nat → Bool → Prop} : (∀ c ∈ segmentChecks ws, P c.1 c.2) ↔
    P 1 (repeatFits ws) ∧ P 2 (natAt ws 1 % 16 == 0 && 4 * natAt ws 2 ≤ natAt ws 1) ∧ P 3 (inN (natAt ws 2) 1 80000) ∧
    P 4 (inN (natAt ws 3) 1 1048575) ∧ P 5 (inN (natAt ws 4) 64 16384) ∧ P 7 (natAt ws 6 < natAt ws 3) ∧ P 8 (natAt ws 7 ≤ 7) ∧
    P 9 (natAt ws 8 ≤ 65535) ∧ P 11 (areaFits ws) ∧ P 12 (inN (natAt ws 11) 1 65535) ∧ P 13 (natAt ws 12 ≤ 16) ∧
    ∀ j < min 16 (natAt ws 12), P (14 + j) (natAt ws 5 == 0 || natAt ws (13 + j) < natAt ws 5) := by
  simp only [segmentChecks, List.mem_append, List.mem_cons, List.not_mem_nil, or_false, List.mem_map, List.mem_range, or_imp,
    forall_and, forall_eq, forall_exists_index, and_imp, forall_apply_eq_imp_iff₂, and_assoc]

theorem segmentChecks_pass_iff (ws : List Word) : firstFail (segmentChecks ws) = none ↔ SegmentInRange (natAt ws) := by
  rw [firstFail_eq_none_iff, forall_segmentChecks (P := fun _ b => b = true)]
  simp only [repeatFits_iff, areaFits_iff, inN_iff, Bool.and_eq_true, Bool.or_eq_true, beq_iff_eq, decide_eq_true_eq,
    SegmentInRange, lt_min_iff, and_assoc]
  refine and_congr_right fun _ => ?_
  grind

/-- The indices of the checks: the fields 1 to 13 but for 6 and 10, then a void entry each from 14 on. -/
theorem segmentChecks_index (ws : List Word) : (segmentChecks ws).map Prod.fst =
    [1, 2, 3, 4, 5, 7, 8, 9, 11, 12, 13] ++ (List.range (min 16 (natAt ws 12))).map (fun i => 14 + i) := by
  simp [segmentChecks, Function.comp_def]

theorem segmentChecks_ascend (ws : List Word) : (segmentChecks ws).Pairwise (fun a b => a.1 < b.1) := by
  rw [← List.pairwise_map (f := Prod.fst) (R := fun a b => a < b), segmentChecks_index, List.pairwise_append, List.pairwise_map]
  refine ⟨by decide, List.pairwise_lt_range.imp (by omega), fun a ha b hb => ?_⟩
  obtain ⟨j, -, rfl⟩ := List.mem_map.1 hb
  simp only [List.mem_cons, List.not_mem_nil, or_false] at ha
  omega

theorem exists_segmentCheck_iff (ws : List Word) (i : Nat) : (∃ c ∈ segmentChecks ws, c.1 = i) ↔
    (1 ≤ i ∧ i ≤ 13 ∧ i ≠ 6 ∧ i ≠ 10) ∨ (14 ≤ i ∧ i < 14 + min 16 (natAt ws 12)) := by
  rw [← List.mem_map (f := Prod.fst), segmentChecks_index, List.mem_append, List.mem_map]
  simp only [List.mem_cons, List.not_mem_nil, or_false, List.mem_range]
  refine or_congr (by omega) ⟨?_, fun h => ⟨i - 14, by omega, by omega⟩⟩
  rintro ⟨j, hj, rfl⟩
  omega

/-! ## The take checks (02 R29) -/

theorem firstFail_two_then_one (a b c : Prop) [Decidable a] [Decidable b] [Decidable c] (i j : Nat) :
    firstFail [(i, decide a), (i, decide b), (j, decide c)] = if a ∧ b then if c then none else some j else some i := by
  by_cases ha : a <;> by_cases hb : b <;> by_cases hc : c <;> simp [firstFail, ha, hb, hc]

/-- The geometry checks: the band against the two distances, then the patch offset against the band (02 R29, check 3). -/
theorem firstFail_geometry (cfg : Settings) (ws : List Word) : firstFail (geometryChecks cfg ws) =
    if natAt ws 4 * cfg.pnom < cfg.dpn * 1000000 ∧ natAt ws 4 * cfg.pnom ≤ cfg.dxi * 1000000 then
      if natAt ws 8 * 1000000 < natAt ws 4 * cfg.pnom then none else some 9
    else some 5 := firstFail_two_then_one ..

section
variable {t : Ticket} {s : State} (hk : t.kind = .segment)

include hk

theorem takeCheck_badField {i : Nat} (h : firstFail (segmentChecks t.body) = some i) : takeCheck t s = some (.badField, i) := by
  unfold takeCheck
  rw [hk]
  dsimp only
  rw [h]

/-- With every field in its range the slot is looked at, and then the geometry. -/
theorem takeCheck_inRange (h : SegmentInRange (natAt t.body)) : takeCheck t s =
    if (s.ps.slots.get (slotOf (natAt t.body 7))).valid = true then
      if natAt t.body 4 * s.cfg.pnom < s.cfg.dpn * 1000000 ∧ natAt t.body 4 * s.cfg.pnom ≤ s.cfg.dxi * 1000000 then
        if natAt t.body 8 * 1000000 < natAt t.body 4 * s.cfg.pnom then none else some (.badGeometry, 9)
      else some (.badGeometry, 5)
    else some (.noProfile, 8) := by
  have hslot : takeCheck t s = if (s.ps.slots.get (slotOf (natAt t.body 7))).valid = true then
      (firstFail (geometryChecks s.cfg t.body)).map (fun i => (.badGeometry, i)) else some (.noProfile, 8) := by
    unfold takeCheck
    rw [hk]
    dsimp only
    rw [(segmentChecks_pass_iff _).2 h]
    by_cases hv : (s.ps.slots.get (slotOf (natAt t.body 7))).valid = true
    · rw [if_neg (by simp [hv]), if_pos hv]
    · rw [if_pos (by simpa using hv), if_neg hv]
  rw [hslot, firstFail_geometry]
  (repeat' split) <;> rfl

end

end Sys2Proof.Machine
end

section
namespace Sys2Proof.Proofs

open Sys2Proof.Machine

/-- Settles O47: the checks stand in ascending order of their fields, so the first that fails names the first field out of its range. -/
theorem segmentChecks : Obligations.SegmentChecks := by
  intro t s hk v len fits fields inside slot
  have hin : ∀ c ∈ Machine.segmentChecks t.body, c.2 = true ↔ inside c.1 := by
    rw [forall_segmentChecks (P := fun i b => b = true ↔ inside i)]
    simp only [repeatFits_iff, areaFits_iff, inN_iff, Bool.and_eq_true, Bool.or_eq_true, beq_iff_eq, decide_eq_true_eq]
    refine ⟨Iff.rfl, Iff.rfl, Iff.rfl, Iff.rfl, Iff.rfl, Iff.rfl, Iff.rfl, Iff.rfl, Iff.rfl, Iff.rfl, Iff.rfl, fun j hj => ?_⟩
    have hvoid : inside (14 + j) ↔ (14 ≤ 14 + j → 14 + j ≤ 29 → 14 + j < 14 + v 12 → v 5 = 0 ∨ v (14 + j - 1) < v 5) := by
      rw [Nat.add_comm 14 j]
      exact Iff.rfl
    rw [hvoid, show 14 + j - 1 = 13 + j by omega]
    have hlt : 14 + j < 14 + v 12 := Nat.add_lt_add_left (lt_min_iff.1 hj).2 14
    exact ⟨fun h _ _ _ => h, fun h => h (by omega) (by omega) hlt⟩
  have hindex : ∀ i, ¬inside i → ∃ c ∈ Machine.segmentChecks t.body, c.1 = i := fun i hi => by
    rw [exists_segmentCheck_iff]
    by_contra hno
    refine hi ?_
    by_cases hlow : i < 14
    · obtain rfl | rfl | rfl : i = 0 ∨ i = 6 ∨ i = 10 := by omega
      all_goals exact fun h => absurd h (by decide)
    · obtain ⟨j, rfl⟩ : ∃ j, i = j + 14 := ⟨i - 14, by omega⟩
      exact fun h1 h2 h3 => absurd (.inr ⟨h1, by rw [← Nat.add_min_add_left]; exact lt_min_iff.2 ⟨by omega, h3⟩⟩) hno
  have hrange : fields → takeCheck t s = if slot.valid = true then
      if len < s.cfg.dpn * 1000000 ∧ len ≤ s.cfg.dxi * 1000000 then
        if v 8 * 1000000 < len then none else some (.badGeometry, 9)
      else some (.badGeometry, 5)
    else some (.noProfile, 8) := takeCheck_inRange hk
  refine ⟨fun i hi hlt => ?_, fun hf hv h1 h2 h3 => ?_, ?_, fun hf hv => ?_, fun hf hv h => ?_⟩
  · exact takeCheck_badField hk (firstFail_eq_some (segmentChecks_ascend _) hin (hindex i hi) hi hlt)
  · rw [hrange hf, if_pos hv, if_pos ⟨h1, h2⟩, if_neg (not_lt.2 h3)]
  · constructor
    · intro h
      have hf : fields := by
        cases hfirst : firstFail (Machine.segmentChecks t.body) with
        | none => exact (segmentChecks_pass_iff _).1 hfirst
        | some i => rw [takeCheck_badField hk hfirst] at h; cases h
      rw [hrange hf] at h
      grind
    · rintro ⟨hf, hv, h1, h2, h3⟩
      rw [hrange hf, if_pos hv, if_pos ⟨h1, h2⟩, if_pos h3]
  · rw [hrange hf, if_neg (by simp [hv])]
  · rw [hrange hf, if_pos hv, if_neg (by omega)]

end Sys2Proof.Proofs
end

section
/-! The last words of a row (02 R33). -/

namespace Sys2Proof.Machine

section
variable {s : State} {g : Grant} {y : RowSlot} {done rest : List RowSlot} {w : Segment} {ws : List Word}
  (hg : s.smp.grant = some g) (hc : g.client = .row) (hd : g.dropped = false) (hs : s.re.slots = done ++ y :: rest)
  (hdone : ∀ z ∈ done, z.complete = true) (hy : y.complete = false) (hw : s.re.seg = some w)

include hg hc hd in
theorem burstEnd_row : burstEnd ws s = rowBurst g ws { s with smp.grant := none } := by
  obtain ⟨c, n, d⟩ := g
  dsimp only at hc hd
  unfold burstEnd
  rw [hg, hc]
  exact if_neg (by simp [hd])

include hs hdone hy hw in
/-- The words left of the row being fetched are those of the first slot that is not complete. -/
theorem rowLeft_eq : s.rowLeft = w.width - y.words.length := by
  have hfill : s.re.filling = some y := by
    rw [Raster.filling, hs, List.find?_append, List.find?_eq_none.2 (fun z hz => by simp [hdone z hz]), Option.none_or,
      List.find?_cons_of_pos (by simp [hy])]
  rw [State.rowLeft, hfill, hw]

variable (hleft : y.words.length < w.width) (hlast : w.width ≤ y.words.length + min ws.length g.words)

include hg hc hd hs hdone hy hw hleft hlast

/-- The burst that brings a row's last words completes the row. -/
theorem finishing_row : s.finishing ws = some .row := by
  have hrow : s.rowLeft = w.width - y.words.length := rowLeft_eq hs hdone hy hw
  obtain ⟨c, n, d⟩ := g
  dsimp only at hc hd hlast
  unfold State.finishing
  rw [hg, hc]
  dsimp only
  rw [if_neg (by simp [hd]), if_pos (by omega)]

/-- Its slot is complete, and a band start is tested (02 R33, R36). -/
theorem burstEnd_row_last : burstEnd ws s = tryBandStart { s with
    smp.grant := none, re.slots := done ++ { y with words := y.words ++ ws.take g.words, complete := true } :: rest } := by
  obtain ⟨ht, hr⟩ := splitSlots (rest := rest) hdone hy
  have hrow : ({ s with smp.grant := none } : State).rowLeft = w.width - y.words.length := rowLeft_eq hs hdone hy hw
  have hgot : (ws.take g.words).length = min ws.length g.words := by rw [List.length_take, Nat.min_comm]
  rw [burstEnd_row hg hc hd]
  unfold rowBurst rowComplete
  dsimp only
  rw [hrow, hgot, if_neg (by omega), if_pos (by omega), hs, ht, hr]

end

/-- Where a segment's band cannot start, the test ends a track-full wait and does nothing else (02 R36). -/
theorem tryBandStart_waits {g : Segment} {s : State} (hg : s.re.seg = some g) (hm : ¬s.mayStart g = true) :
    tryBandStart s = { s with re.fullWait := false } := by
  unfold tryBandStart
  rw [hg]
  exact if_neg hm

/-- No band starts while the line is not RUNNING. -/
theorem not_mayStart_of_line {s : State} (g : Segment) (hl : s.dc.line ≠ .running) : ¬s.mayStart g = true := fun h => by
  obtain ⟨-, -, -, hrun, -⟩ := (mayStart_iff s g).1 h
  exact hl hrun

end Sys2Proof.Machine
end

section
namespace Sys2Proof.Proofs

open Sys2Proof.Machine

/-- Settles O27: `burstEnd_row_last`, with a band start that is tested and refused. -/
theorem rowArrived : Obligations.RowArrived := by
  intro ws g x done rest n l s hp hg hseg hs hdone hx hleft hlast hline u
  let v : State := { u with out := [] }
  have hrun : exec (.rowArrived ws l) s = .next (kick (rowDone ws v)) := congrArg _ (commandAt_eq hp l _)
  have hdone' : rowDone ws v = { v with
      smp.grant := none, re.fullWait := false,
      re.slots := done ++ { x with words := x.words ++ ws.take n, complete := true } :: rest } := by
    unfold rowDone
    rw [if_pos (finishing_row (s := v) hg rfl rfl hs hdone hx hseg hleft hlast),
      burstEnd_row_last (s := v) hg rfl rfl hs hdone hx hseg hleft hlast]
    exact tryBandStart_waits hseg (not_mayStart_of_line g hline)
  rw [hdone'] at hrun
  exact ⟨_, hrun, (becomes_setGrant { v with re.fullWait := false, re.slots := done ++
    { x with words := x.words ++ ws.take n, complete := true } :: rest } none).trans (kick_becomes _)⟩

end Sys2Proof.Proofs
end

section
/-! END_SEGMENT (02 R46, R47): the fetcher's bounds, the hand-off of a ticket as its TAKEN write ends, and each end of a segment. -/

namespace Sys2Proof.Machine

/-! ## Which rows the fetcher asks for (02 R33) -/

theorem le_skipVoids (voids : List Nat) (n : Nat) : ∀ k, k ≤ skipVoids voids n k := by
  induction n with
  | zero => exact fun k => le_refl k
  | succ n ih =>
    intro k
    unfold skipVoids
    split
    · exact (Nat.le_succ k).trans (ih (k + 1))
    · exact le_refl k

theorem le_nextBand (r : Raster) (g : Segment) : r.fetchBand ≤ r.nextBand g := by
  unfold Raster.nextBand
  split
  · exact le_skipVoids ..
  · exact le_refl _

/-- A row the fetcher may start to fetch: none of it is there, its band is not before the fetcher's place, and with an end pending not
after the current band. -/
def Raster.fetchable (r : Raster) (x : RowSlot) : Prop :=
  x.complete = false ∧ r.fetchBand ≤ x.band ∧ (r.ending ≠ .none → ∃ c ∈ r.band, x.band ≤ c.index)

theorem fetchOne_fetchable (s : State) : ∃ more k i, s.re.fetchBand ≤ k ∧ (∀ x ∈ more, s.re.fetchable x) ∧
    fetchOne s = { s with re := s.re.fetched more k i } := by
  have hnone : s = { s with re := s.re.fetched [] s.re.fetchBand s.re.fetchRow } := by simp [Raster.fetched]
  unfold fetchOne
  split
  · exact ⟨[], _, _, le_refl _, by simp, hnone⟩
  · next g _ =>
    dsimp only
    split
    · next hmay =>
      have hle := le_nextBand s.re g
      refine ⟨[_], _, _, ?_, ?_, rfl⟩
      · split <;> omega
      · rintro x hx
        rw [List.mem_singleton.1 hx]
        refine ⟨rfl, hle, fun hend => ?_⟩
        have hband : (s.re.band.map (fun c => decide (s.re.nextBand g ≤ c.index))).getD false = true := by
          simp only [Bool.and_eq_true, Raster.mayFetchBand, Bool.or_eq_true, beq_iff_eq] at hmay
          exact hmay.2.2.resolve_left hend
        cases hb : s.re.band with
        | none => simp [hb] at hband
        | some c => exact ⟨c, rfl, by simpa [hb] using hband⟩
    · exact ⟨[], _, _, le_refl _, by simp, hnone⟩

/-- The fetcher appends such rows, and changes nothing but its place. -/
theorem fetchRun_fetchable (s : State) : ∃ more k i, (∀ x ∈ more, s.re.fetchable x) ∧
    fetchRun s = { s with re := s.re.fetched more k i } := by
  have htimes : ∀ (n : Nat) (s : State), ∃ more k i, (∀ x ∈ more, s.re.fetchable x) ∧
      times n fetchOne s = { s with re := s.re.fetched more k i } := fun n => by
    induction n with
    | zero => exact fun s => ⟨[], s.re.fetchBand, s.re.fetchRow, by simp, by simp [Raster.fetched, times]⟩
    | succ n ih =>
      intro s
      obtain ⟨m1, k1, i1, hk, h1, e1⟩ := fetchOne_fetchable s
      obtain ⟨m2, k2, i2, h2, e2⟩ := ih (fetchOne s)
      rw [e1] at h2
      refine ⟨m1 ++ m2, k2, i2, fun x hx => ?_, ?_⟩
      · rcases List.mem_append.1 hx with h | h
        · exact h1 x h
        · obtain ⟨hc, hle, hend⟩ := h2 x h
          exact ⟨hc, hk.trans hle, hend⟩
      · rw [times, e2, e1]
        simp [Raster.fetched]
  exact htimes _ s

/-! ## The hand-off of a ticket (09 R172, step 5) -/

/-- A ticket at TR that its block has. -/
def Ticket.handedOver (t : Ticket) : Ticket := { t with phase := .handed }

/-- The word of a ticket's TAKEN write. -/
def Ticket.takenWord (t : Ticket) : Word :=
  headerWord { state := .taken, status := .ok, detail := 0, notify := t.notify, role := .take t.kind, repeating := false }

/-- The state in which a ticket's block takes it: its TAKEN write is on the bus and off the queue. -/
def State.handedTo (t : Ticket) (rest : List Transfer) (s : State) : State :=
  { s with out := [.busWrite (t.addr + 8) t.takenWord], smp.writes := rest, tr.ticket := some t.handedOver }

/-- What the hand-off of a ticket leads to: its block's part, and TR going on where that leaves it free. -/
theorem ticketStep_handing {t : Ticket} {rest : List Transfer} {s : State} (h : Handing t rest s) :
    ∃ x, Becomes (s.handedTo t rest) [] x ∧
      ticketStep t.kind [] { s with out := [] } = softWritten (trContinue (execute t.kind t.body x)) := by
  obtain ⟨⟨-, hsoft⟩, hphase, ht, -, hg, hw⟩ := h
  let x : Transfer := headerTransfer t.addr
    { state := .taken, status := .ok, detail := 0, notify := t.notify, role := .take t.kind, repeating := false }
  let v : State := { s with out := [.busWrite (t.addr + 8) t.takenWord], smp.grant := none, smp.writes := rest }
  have hq : ({ s with out := [] } : State).smp.queue .write = x :: rest := hw
  have hdue : ({ s with out := [] } : State).ticketDue [] t.kind = true := by
    unfold State.ticketDue
    rw [finishes_last (s := { s with out := [] }) hg rfl hq (le_refl 1)]
    exact beq_self_eq_true t.kind
  have hburst : burstEnd [] { s with out := [] } = softWritten (trContinue (handOff (requestProgress v))) := by
    rw [burstEnd_transfer (s := { s with out := [] }) hg rfl hq, transferBurst_last (le_refl 1)]
    rfl
  have hv := ((becomes_setGrant { s with out := [.busWrite (t.addr + 8) t.takenWord], smp.writes := rest } none).trans
    (requestProgress_becomes v))
  have hhand : handOff (requestProgress v) =
      execute t.kind t.body { requestProgress v with tr := { (requestProgress v).tr with ticket := some t.handedOver } } := by
    unfold handOff
    rw [show (requestProgress v).tr.ticket = some t from (congrArg Reader.ticket hv.tr).trans ht]
    exact if_pos ⟨hphase, softBlocks_of_off (hv.soft.trans hsoft)⟩
  refine ⟨_, hv.setTr (fun r => { r with ticket := some t.handedOver }), ?_⟩
  unfold ticketStep
  rw [if_pos hdue, hburst, hhand]

/-- TR goes on only once its ticket is gone. -/
theorem trContinue_ticket {s : State} (h : s.tr.ticket ≠ none) : trContinue s = s := by
  have hno : s.mayRead = false := by
    have : s.tr.ticket.isNone = false := Option.isNone_eq_false_iff.2 (Option.isSome_iff_ne_none.2 h)
    simp [State.mayRead, this]
  exact if_neg (by simp [hno])

theorem softWritten_off {s : State} (h : s.smp.soft = .off) : softWritten s = s := by
  unfold softWritten
  rw [h]
  exact ite_self _

/-- The state in which the block takes the ticket; where the block leaves the ticket at TR, the command brings what the block does. -/
theorem handing_run {t : Ticket} {rest : List Transfer} {s : State} (h : Handing t rest s) : ∃ x, Becomes (s.handedTo t rest) [] x ∧
    ∀ (u : State) (ns : List Notice), Becomes u ns (execute t.kind t.body x) → u.tr.ticket ≠ none → u.smp.soft = .off →
      Becomes u ns (command (ticketStep t.kind []) s) := by
  obtain ⟨x, hx, hstep⟩ := ticketStep_handing h
  obtain ⟨⟨hp, -⟩, -⟩ := h
  refine ⟨x, hx, fun u ns hb ht hs => command_becomes hp ?_⟩
  rw [hstep, trContinue_ticket (by rw [hb.tr]; exact ht), softWritten_off (by rw [hb.soft]; exact hs)]
  exact hb

/-- The state once a ticket's block has ended it at once, with RE and BT as the block leaves them. -/
def State.ended (t : Ticket) (rest : List Transfer) (w : Transfer) (re : Raster) (bt : Tracker) (s : State) : State :=
  { s with
    out := [.busWrite (t.addr + 8) t.takenWord], smp.writes := rest ++ [w], tr.ticket := some { t with phase := .final },
    re := re, bt := bt }

/-- A block that ends the ticket it has, having changed RE and BT at most. -/
theorem finishTicket_handed {t : Ticket} {rest : List Transfer} {s y : State} {re : Raster} {bt : Tracker} (st : TicketState)
    (status : Status) (d : Nat) (h : Handing t rest s) (hy : Becomes { s.handedTo t rest with re := re, bt := bt } [] y) :
    Becomes (s.ended t rest (finalWrite t st status d) re bt) [] (finishTicket st status d y) := by
  obtain ⟨-, -, -, hrep, -⟩ := h
  have hrep' : ∀ w ∈ rest, w.isRepeatedTaken t.addr = false := by simpa using hrep
  have hf := hy.finishTicket st status d
  rwa [finishTicket_eq (k := t.handedOver) (s := { s.handedTo t rest with re := re, bt := bt }) rfl hrep'] at hf

/-- The statements' words for it. -/
theorem finishes_of_ended {t : Ticket} {rest : List Transfer} {s u : State} {re : Raster} {bt : Tracker} {st : TicketState}
    {status : Status} {d : Nat} (h : Becomes (s.ended t rest (finalWrite t st status d) re bt) [] u) :
    Finishes t rest st status d s u := ⟨congrArg Reader.ticket h.tr, h.writes, h.copies, h.ticketReads, h.out⟩

/-! ## The ends of a segment (02 R46, R47) -/

theorem takeEnd_taken {now : Bool} {s : State} (h : s.re.raster ≠ .idle) :
    takeEnd now s = finishTicket .done .ok 0 (applyEnd now s) := if_pos (by simp [State.segTaken, h])

theorem takeEnd_idle {now : Bool} {s : State} (h : s.re.raster = .idle) :
    takeEnd now s = finishTicket .skipped .noSegment 0 s := if_neg (by simp [State.segTaken, h])

section
variable {c : BandContext} {u s : State} {ns : List Notice} (h : Becomes u ns s) (hr : u.re.raster = .printing)
  (hb : u.re.band = some c)

include h hr hb

/-- NOW in PRINTING, no NOW pending: the band is truncated and blanked and every row discarded (02 R47). -/
theorem applyEnd_now (he : u.re.ending ≠ .now) : Becomes { u with
    re := { u.re with ending := .now, fetchOn := false, slots := [], band := some { c with blank := true } },
    bt := { u.bt with track := u.bt.track.map (fun b => if b.number = c.number then b.flag .truncated else b) } } ns
      (applyEnd true s) := by
  have hend : applyEnd true s = endNow s := by
    unfold applyEnd
    rw [h.re, hr]
    cases hs : u.re.ending with
    | now => exact absurd hs he
    | none | atBoundary | drain => rfl
  have hd := ((h.setRe (fun r => { r with slots := r.slots.filter (fun _ => !true) })).setBt (fun x =>
    { x with track := x.track.map (fun b => if b.number = c.number then b.flag .truncated else b) })).trans
      (discardSlots_becomes (fun _ => true) (modBand c.number (Band.flag .truncated) s))
  have hslots : u.re.slots.filter (fun _ => !true) = [] := by simp
  rw [hslots, List.append_nil] at hd
  unfold endNow at hend
  rw [h.re, hb] at hend
  rw [hend]
  exact hd.setRe (fun r => { r with ending := .now, fetchOn := false, band := some { c with blank := true } })

/-- AT_BOUNDARY in PRINTING, no such end pending: rows of later bands leave the buffer, and fetching stays within the band (02 R47). -/
theorem applyEnd_boundary (he : u.re.ending = .none ∨ u.re.ending = .drain) :
    ∃ more k i, (∀ x ∈ more, x.complete = false ∧ x.band ≤ c.index) ∧ Becomes { u with
      re := { u.re with ending := .atBoundary, slots := u.re.slots.filter (fun y => y.band ≤ c.index) }.fetched more k i } ns
        (applyEnd false s) := by
  have hend : applyEnd false s = endAtBoundary s := by
    unfold applyEnd
    rw [h.re, hr]
    rcases he with he | he <;> · rw [he]; rfl
  have hd := ((h.setRe (fun r => { r with slots := r.slots.filter (fun x => !decide (c.index < x.band)) })).trans
    (discardSlots_becomes (fun x => c.index < x.band) s)).setRe (fun r => { r with ending := .atBoundary })
  have hslots : u.re.slots.filter (fun x : RowSlot => !decide (c.index < x.band)) = u.re.slots.filter (fun y => y.band ≤ c.index) :=
    List.filter_congr fun x _ => by rw [← decide_not]; exact decide_eq_decide.2 not_lt
  rw [hslots, List.append_nil] at hd
  obtain ⟨more, k, i, hm, hf⟩ := fetchRun_fetchable { discardSlots (fun x => c.index < x.band) s with re.ending := .atBoundary }
  refine ⟨more, k, i, fun x hx => ?_, ?_⟩
  · obtain ⟨hc, -, hle⟩ := hm x hx
    obtain ⟨c', hc', hle⟩ := hle (by simp)
    rw [hd.re] at hc'
    obtain rfl : c = c' := by simpa [hb] using hc'
    exact ⟨hc, hle⟩
  · unfold endAtBoundary at hend
    rw [h.re, hb] at hend
    rw [hend]
    dsimp only
    rw [hf]
    exact hd.setRe (fun r => r.fetched more k i)

end

/-- An end that is pending stands against another that asks for no more (02 R46). -/
theorem applyEnd_stands {now : Bool} {s : State} (hr : s.re.raster = .printing)
    (he : s.re.ending = .now ∨ (s.re.ending = .atBoundary ∧ now = false)) : applyEnd now s = s := by
  unfold applyEnd
  rw [hr]
  rcases he with h | ⟨h, rfl⟩ <;> rw [h] <;> rfl

/-! ## The PRINTED report of a segment with no band in the track (02 R50, 01 R21, R22) -/

theorem tallyOf_modTally {id : Nat} {f : Tally → Tally} (hf : ∀ y, (f y).id = y.id) {e : Tally} {s : State}
    (h : s.tallyOf id = some e) : (modTally id f s).tallyOf id = some (f e) := by
  have hid : e.id = id := by simpa using List.find?_some h
  have hp : (fun y : Tally => decide ((if y.id = id then f y else y).id = id)) = fun y => decide (y.id = id) := by
    funext y
    by_cases hy : y.id = id <;> simp [hy, hf]
  unfold State.tallyOf at h ⊢
  rw [modTally_tallies, List.find?_map, show ((fun t : Tally => decide (t.id = id)) ∘ fun t => if t.id = id then f t else t) =
    fun t => decide (t.id = id) from hp, h, Option.map_some, if_pos hid]

/-- A tally entry that is PRINTED with a cause. -/
def Tally.reported (cause : EndCause) (e : Tally) : Tally := { e with printed := true, cause := cause }

/-- TR leaves HOLDING with an END_SEGMENT at it: that ticket goes on as one that is executed (09 R174b). -/
theorem leaveHolding_past {addr : Nat} {k : Ticket} {s : State} (hr : s.tr.reader = .holding) (hk : s.tr.ticket = some k)
    (hp : k.past = true) : leaveHolding addr s = { s with tr := { s.tr with reader := .executing, awaitSeg := some addr } } := by
  unfold leaveHolding
  rw [hr]
  dsimp only
  rw [if_pos (by simp [hk, hp])]

/-- A tally entry whose finalisation has begun with its counts write. -/
def Tally.shut (e : Tally) : Tally := { e with closing := true, stale := false }

/-- The segment is RE's no more, its entry PRINTED and closing, and the counts write of its finalisation is asked for. -/
def State.finalising (g : Segment) (e : Tally) (cause : EndCause) (s : State) : State :=
  queueWrite (writeOf (.countsWrite (.finalise g.tally)) (e.addr + 132) (countsWords e))
    (modTally g.tally (fun y => (y.reported cause).shut)
      { s with re := s.re.cleared, tr := { s.tr with reader := .executing, awaitSeg := some g.addr } })

theorem Becomes.finalising {ns : List Notice} {u x : State} (h : Becomes u ns x) (g : Segment) (e : Tally) (cause : EndCause) :
    Becomes (u.finalising g e cause) ns (x.finalising g e cause) :=
  (((h.setRe Raster.cleared).setTr (fun r => { r with reader := .executing, awaitSeg := some g.addr })).modTally _ _).queueWrite _

/-- The counts write of an entry whose counts have changed begins its finalisation. -/
theorem finalise_of_find {id : Nat} {e : Tally} {s : State} (he : s.tallyOf id = some e) (hc : e.closing = false)
    (hs : e.stale = true) : finalise id s = queueWrite (writeOf (.countsWrite (.finalise id)) (e.addr + 132) (countsWords e))
      (modTally id Tally.shut s) := by
  have hid : e.id = id := by simpa using List.find?_some he
  unfold finalise
  rw [he]
  dsimp only
  rw [if_neg (by simp [hc]), if_pos hs, queueCounts, hid, resultBody_eq]
  exact congrArg (queueWrite _) (modTally_modTally id (fun y => { y with closing := true }) (fun y => { y with stale := false })
    (fun _ => rfl) s)

theorem printedReport_finalises {g : Segment} {k : Ticket} {e : Tally} {cause : EndCause} {s : State} (hg : s.re.seg = some g)
    (hp : s.re.raster ≠ .printing) (hr : s.tr.reader = .holding) (hk : s.tr.ticket = some k) (hpast : k.past = true)
    (he : s.tallyOf g.tally = some e) (hin : e.inTrack = 0) (hc : e.closing = false) (hs : e.stale = true) :
    Becomes (s.finalising g e cause) [] (printedReport cause s) := by
  let m := modTally g.tally (Tally.reported cause) (clearSegment s)
  have hm : Becomes (modTally g.tally (Tally.reported cause) { s with re := s.re.cleared }) [] m := (clearSegment_becomes hp).modTally _ _
  have hl := hm.setTr (fun r => { r with reader := .executing, awaitSeg := some g.addr })
  have hleave : leaveHolding g.addr m = { m with tr := { m.tr with reader := .executing, awaitSeg := some g.addr } } :=
    leaveHolding_past (by rw [hm.tr]; exact hr) (by rw [hm.tr]; exact hk) hpast
  have htally : (leaveHolding g.addr m).tallyOf g.tally = some (e.reported cause) := by
    rw [hleave, hl.tallyOf]
    exact tallyOf_modTally (f := Tally.reported cause) (fun _ => rfl) he
  have hreport : printedReport cause s = finalise g.tally (leaveHolding g.addr m) := by
    unfold printedReport
    rw [hg]
    dsimp only
    rw [show leaveHolding g.addr (modTally g.tally (fun t => { t with printed := true, cause := cause }) (clearSegment s)) =
      leaveHolding g.addr m from rfl, htally]
    exact if_pos hin
  let w := writeOf (.countsWrite (.finalise g.tally)) (e.addr + 132) (countsWords e)
  have hone : queueWrite w (modTally g.tally Tally.shut (modTally g.tally (Tally.reported cause)
      { s with re := s.re.cleared, tr := { s.tr with reader := .executing, awaitSeg := some g.addr } })) = s.finalising g e cause :=
    congrArg (queueWrite w) (modTally_modTally g.tally (Tally.reported cause) Tally.shut (fun _ => rfl) _)
  rw [hreport, finalise_of_find htally hc hs, hleave, ← hone]
  exact (hl.modTally g.tally Tally.shut).queueWrite w

/-- An END_SEGMENT in PRIMING or BETWEEN reports the segment PRINTED at once (02 R46). -/
theorem applyEnd_reports {now : Bool} {g : Segment} {s : State} (hg : s.re.seg = some g)
    (hr : s.re.raster = .priming ∨ s.re.raster = .between) : applyEnd now s = printedReport g.endCause s := by
  unfold applyEnd
  rw [hg]
  rcases hr with h | h <;> · rw [h]; rfl

end Sys2Proof.Machine
end

section
namespace Sys2Proof.Proofs

open Sys2Proof.Machine

/-- Settles O19: the hand-off of the ticket is `handing_run`, and each raster state and mode is one lemma on `applyEnd`. -/
theorem endSegmentTicket : Obligations.EndSegmentTicket := by
  intro t rest s h hk
  obtain ⟨x, hx, hrun⟩ := handing_run h
  have hexec : exec (.endSegment []) s = .next (command (ticketStep t.kind []) s) := by
    rw [hk]
    rfl
  have hblock : execute t.kind t.body x = takeEnd (natAt t.body 0 == 1) x := by
    rw [hk]
    rfl
  have htaken : s.re.raster ≠ .idle → execute t.kind t.body x = finishTicket .done .ok 0 (applyEnd (natAt t.body 0 == 1) x) :=
    fun hr => hblock.trans (takeEnd_taken (by rw [hx.re]; exact hr))
  have hsoft := h.1.2
  -- a segment in PRINTING: the ticket is done with whatever the end changes of RE and BT
  have hdone : ∀ re bt, s.re.raster = .printing →
      Becomes { s.handedTo t rest with re := re, bt := bt } [] (applyEnd (natAt t.body 0 == 1) x) →
      Becomes (s.ended t rest (finalWrite t .done .ok 0) re bt) [] (command (ticketStep t.kind []) s) := fun re bt hr hy =>
    hrun _ _ (by
      rw [htaken (by rw [hr]; decide)]
      exact finishTicket_handed .done .ok 0 h hy) (Option.some_ne_none _) hsoft
  refine ⟨fun hidle => ?_, fun c hr hb hmode he => ?_, fun c hr hb hmode he => ?_, fun hr he => ?_, fun g e hr hrd hg hf hin hc hs => ?_⟩
  · have hu : Becomes (s.ended t rest (finalWrite t .skipped .noSegment 0) s.re s.bt) [] (command (ticketStep t.kind []) s) :=
      hrun _ _ (by
        rw [hblock, takeEnd_idle (by rw [hx.re]; exact hidle)]
        exact finishTicket_handed .skipped .noSegment 0 h hx) (Option.some_ne_none _) hsoft
    exact ⟨_, hexec, finishes_of_ended hu, hu.after (frame_of_blocks (htr := .inl (by decide)))⟩
  · have hu := hdone _ _ hr (by rw [hmode]; exact applyEnd_now hx hr hb he)
    exact ⟨_, hexec, finishes_of_ended hu,
      hu.after (frame_of_blocks (htr := .inl (by decide)) (hre := .inl (by decide)) (hbt := .inl (by decide))), hu.re, hu.bt⟩
  · obtain ⟨more, k, i, hm, hend⟩ := applyEnd_boundary hx hr hb he
    have hu := hdone _ s.bt hr (by rw [hmode]; exact hend)
    have hslots := congrArg Raster.slots hu.re
    refine ⟨_, hexec, finishes_of_ended hu, hu.after (frame_of_blocks (htr := .inl (by decide)) (hre := .inl (by decide))),
      congrArg Raster.ending hu.re, (congrArg Raster.raster hu.re).trans hr, (congrArg Raster.band hu.re).trans rfl,
      (congrArg Raster.seg hu.re).trans rfl, ?_, fun y hy => ?_⟩
    · have hmore : more.filter RowSlot.complete = [] := List.filter_eq_nil_iff.2 fun y hy => by simp [(hm y hy).1]
      rw [hslots]
      exact (List.filter_append ..).trans (by rw [hmore, List.append_nil, List.filter_filter]; rfl)
    · rw [hslots] at hy
      rcases List.mem_append.1 hy with hy | hy
      · simpa using (List.mem_filter.1 hy).2
      · exact (hm y hy).2
  · have hu := hdone s.re s.bt hr (by
      rw [applyEnd_stands (by rw [hx.re]; exact hr) (by rw [hx.re]; exact he.imp_right (fun ⟨h1, h2⟩ => ⟨h1, by rw [h2]; rfl⟩))]
      exact hx)
    exact ⟨_, hexec, finishes_of_ended hu, hu.after (frame_of_blocks (htr := .inl (by decide)))⟩
  · have hnot : s.re.raster ≠ .idle ∧ s.re.raster ≠ .printing := by rcases hr with hr | hr <;> simp [hr]
    have hreport := (hx.finalising g e g.endCause).trans (printedReport_finalises (k := t.handedOver) (by rw [hx.re]; exact hg)
      (by rw [hx.re]; exact hnot.2) (by rw [hx.tr]; exact hrd) (by rw [hx.tr]; rfl) rfl (by rw [hx.tallyOf]; exact hf) hin hc hs)
    rw [← applyEnd_reports (now := natAt t.body 0 == 1) (by rw [hx.re]; exact hg) (by rw [hx.re]; exact hr)] at hreport
    have hrep : ∀ w ∈ ((s.handedTo t rest).finalising g e g.endCause).smp.writes, w.isRepeatedTaken t.addr = false := fun w hw => by
      obtain ⟨-, -, -, hrep, -⟩ := h
      rcases List.mem_append.1 hw with hw | hw
      · simpa using List.any_eq_false.1 hrep w hw
      · rw [List.mem_singleton.1 hw]
        rfl
    have hfin := hreport.finishTicket .done .ok 0
    rw [finishTicket_eq (k := t.handedOver) rfl hrep, ← htaken hnot.1] at hfin
    have hu := hrun _ _ hfin (Option.some_ne_none _) hsoft
    have hmem : e ∈ s.bt.tallies := List.mem_of_find?_eq_some hf
    have hid : e.id = g.tally := by simpa using List.find?_some hf
    refine ⟨_, hexec, hu.after (frame_of_blocks (htr := .inl (by decide)) (hre := .inl (by decide)) (hbt := .inl (by decide))),
      congrArg Raster.raster hu.re, congrArg Raster.seg hu.re, congrArg Raster.slots hu.re, congrArg Raster.ending hu.re,
      congrArg Reader.reader hu.tr, congrArg Reader.ticket hu.tr, ⟨(e.reported g.endCause).shut, ?_, hid, rfl, rfl, rfl⟩, ?_⟩
    · rw [hu.bt]
      exact List.mem_map.2 ⟨e, hmem, if_pos hid⟩
    · rw [hu.writes]
      exact List.append_assoc ..

end Sys2Proof.Proofs
end

section
/-! Row events of the band in PRINTING (02 R39 to R44): what one event does to the band, the buffer, the counters and the heads. -/

namespace Sys2Proof.Machine

/-! ## What a row event does, by kind, blanking and depth -/

/-- At least one head link is present, and every one present is ready (02 R40). -/
@[reducible] def State.linksReady (s : State) : Prop := s.pins.head.present ≠ 0 ∧ s.pins.head.present &&& ~~~s.pins.head.ready = 0

/-- The row event of a PRINTED band that finds no row, blanking not set: an underrun (02 R41). -/
@[reducible] def State.rowUnder (c : BandContext) (s : State) : Prop := c.kind = .printed ∧ c.blank = false ∧ s.re.depth = 0

/-- The row event of a PRINTED band that consumes a row (02 R40). -/
@[reducible] def State.rowUsed (c : BandContext) (s : State) : Prop := c.kind = .printed ∧ c.blank = false ∧ s.re.depth ≠ 0

/-- The slot at the head of the row buffer. -/
def State.headSlot (s : State) : RowSlot := s.re.slots.headD { band := 0, row := 0, repeatRow := 0, words := [], complete := false }

/-- The band after its row event. -/
def State.rowBand (g : Segment) (c : BandContext) (b : Band) (s : State) : Band :=
  if c.kind = .void then b
  else if c.blank = true then { b with lost := b.lost + 1 }
  else if s.re.depth = 0 then { b with lost := b.lost + 1, flags := b.flags ||| 0x001#12 }
  else if s.linksReady then
    { b with fired := b.fired + 1, clip := min 65535 (b.clip + rowClips (s.ps.slots.get g.slot).prof s.headSlot.words) }
  else { b with lost := b.lost + 1, flags := b.flags ||| 0x002#12 }

/-- A row on the heads, blank or converted. -/
def blankRowOut (g : Segment) (c : BandContext) : Output := .headRow (List.replicate g.width ⟨0, 0, 0, 0⟩) (markPart g c)

def State.fullRowOut (g : Segment) (c : BandContext) (b : Band) (x : RowSlot) (s : State) : Output :=
  .headRow (rowLevels (s.ps.slots.get g.slot).prof b.g x.repeatRow 0 x.words) (markPart g c)

/-- What the row event sends. -/
def State.rowSent (g : Segment) (c : BandContext) (b : Band) (s : State) : List Output :=
  if ¬s.linksReady ∨ s.rowUnder c then []
  else if s.rowUsed c then [s.fullRowOut g c b s.headSlot] else [blankRowOut g c]

/-- The causes it raises. -/
def State.rowNotices (c : BandContext) (s : State) : List Notice := if s.rowUnder c then [.underrun] else []

/-- RE after the row event: its counters, the band's next row and blanking, and the buffer. -/
def State.RowRaster (c : BandContext) (s : State) (r : Raster) : Prop :=
  r = { s.re with
    slots := r.slots, fetchBand := r.fetchBand, fetchRow := r.fetchRow,
    lowWater := if s.rowUsed c ∧ s.re.depth ≤ 2 then min 4294967295 (s.re.lowWater + 1) else s.re.lowWater,
    underruns := if s.rowUnder c then min 4294967295 (s.re.underruns + 1) else s.re.underruns,
    band := some { c with next := c.next + 1, blank := c.blank || decide (s.rowUnder c) } } ∧
  (c.kind = .void ∨ c.blank = true → r.slots = s.re.slots ∧ r.fetchBand = s.re.fetchBand ∧ r.fetchRow = s.re.fetchRow) ∧
  (s.rowUsed c → ∃ more, r.slots = s.re.slots.tail ++ more ∧ ∀ x ∈ more, x.complete = false) ∧
  (s.rowUnder c → ∃ more, r.slots = s.re.slots.filter (fun x => x.band ≠ c.index) ++ more ∧
    ∀ x ∈ more, x.complete = false ∧ c.index < x.band)

/-- RE with an underrun counted, the band blanked, and its rows out of the buffer (02 R41). -/
def Raster.underrunOf (c : BandContext) (r : Raster) : Raster :=
  { r with
    underruns := min 4294967295 (r.underruns + 1), band := some { c with blank := true },
    slots := r.slots.filter (fun x => x.band ≠ c.index) }

/-- RE with the row at the head of the buffer consumed and low water counted (02 R32, R40). -/
def Raster.rowConsumed (r : Raster) : Raster :=
  { r with slots := r.slots.tail, lowWater := if r.depth ≤ 2 then min 4294967295 (r.lowWater + 1) else r.lowWater }

/-- The state with one band in the track, more on the outputs, and another raster. -/
def State.rowEffect (b : Band) (o : List Output) (r : Raster) (s : State) : State :=
  { s with bt.track := [b], out := s.out ++ o, re := r }

theorem Becomes.rowEffect {u t : State} {ns : List Notice} (h : Becomes u ns t) (b : Band) (o : List Output) (r : Raster) :
    Becomes (u.rowEffect b o r) ns (t.rowEffect b o r) := by
  rw [becomes_iff] at *
  exact ⟨by rw [h.1]; rfl, h.2⟩

theorem rowEffect_nil (b : Band) (r : Raster) (s : State) : s.rowEffect b [] r = { s.withBand b with re := r } := by
  simp [State.rowEffect, State.withBand]

/-- The band's next row, noted after its row event. -/
theorem Becomes.nextRow {s t : State} {b : Band} {o : List Output} {r : Raster} {c : BandContext} {ns : List Notice}
    (h : Becomes (s.rowEffect b o r) ns t) (hc : r.band = some c) (n : Nat) :
    Becomes (s.rowEffect b o { r with band := some { c with next := n } }) ns
      { t with re.band := t.re.band.map (fun x => { x with next := n }) } := by
  have hset : Becomes (s.rowEffect b o { r with band := r.band.map (fun x => { x with next := n }) }) ns
      { t with re.band := t.re.band.map (fun x => { x with next := n }) } :=
    h.setRe (fun r => { r with band := r.band.map (fun x => { x with next := n }) })
  rwa [hc] at hset

/-! ## The four outcomes (02 R40, R41, R44) -/

theorem blankRow_eq (n : Nat) : blankRow n = List.replicate n ⟨0, 0, 0, 0⟩ := rfl

section
variable {g : Segment} {c : BandContext} {b : Band} {s : State}

theorem rowOutcome_underrun (hk : c.kind = .printed) (hb : c.blank = false) (hd : s.re.depth = 0) :
    rowOutcome g c s = underrun c s := by
  rw [rowOutcome, hk]
  dsimp only
  rw [if_neg (by simp [hb])]
  cases hs : s.re.slots with
  | nil => rfl
  | cons x rest =>
    refine if_neg fun hx => ?_
    simp [Raster.depth, hs, hx] at hd

theorem fireRow_lowWater (x : RowSlot) : (fireRow g c x s).re.lowWater =
    if s.re.depth ≤ 2 then min 4294967295 (s.re.lowWater + 1) else s.re.lowWater := by
  have hlow : (fireRow g c x s).re.lowWater = (countLowWater s).re.lowWater := by
    unfold fireRow consumeRow
    dsimp only
    split <;> simp
  rw [hlow]
  unfold countLowWater
  split <;> rfl

variable (ht : s.bt.track = [b]) (hn : b.number = c.number)

include ht hn

theorem modBand_context (f : Band → Band) : modBand c.number f s = s.withBand (f b) := by
  rw [← hn, modBand_single ht]

omit hn in
theorem rowOutcome_void (hk : c.kind = .void) : rowOutcome g c s =
    s.rowEffect b (if headReady s.pins.head = true then [blankRowOut g c] else []) s.re := by
  rw [rowOutcome, hk, State.rowEffect, ← ht]
  exact sendRow_eq ..

theorem rowOutcome_blank (hk : c.kind = .printed) (hb : c.blank = true) : rowOutcome g c s =
    s.rowEffect { b with lost := b.lost + 1 } (if headReady s.pins.head = true then [blankRowOut g c] else []) s.re := by
  rw [rowOutcome, hk]
  dsimp only
  rw [if_pos hb, modBand_context ht hn]
  exact sendRow_eq ..

theorem underrun_becomes : ∃ more k i, (∀ x ∈ more, x.complete = false ∧ c.index < x.band) ∧
    Becomes (s.rowEffect { b with lost := b.lost + 1, flags := b.flags ||| 0x001#12 } [] ((s.re.underrunOf c).fetched more k i))
      [.underrun] (underrun c s) := by
  let p : RowSlot → Bool := fun x => x.band == c.index
  let s2 := raise .underrun { s.withBand { b with lost := b.lost + 1, flags := b.flags ||| 0x001#12 } with
    re.underruns := min 4294967295 (s.re.underruns + 1), re.band := some { c with blank := true } }
  have hstep : underrun c s = fetchRun (if (discardSlots p s2).re.fetchBand ≤ c.index
      then { discardSlots p s2 with re.fetchBand := c.index + 1, re.fetchRow := 0 } else discardSlots p s2) := by
    unfold underrun
    dsimp only
    rw [modBand_context ht hn]
    rfl
  have hslots : s.re.slots.filter (fun x => !p x) = s.re.slots.filter (fun x => x.band ≠ c.index) :=
    List.filter_congr fun x _ => by by_cases hx : x.band = c.index <;> simp [p, hx]
  have hd := ((raise_becomes .underrun { s.withBand { b with lost := b.lost + 1, flags := b.flags ||| 0x001#12 } with
    re.underruns := min 4294967295 (s.re.underruns + 1), re.band := some { c with blank := true } }).setRe
      (fun r => { r with slots := r.slots.filter (fun x => !p x) })).trans (discardSlots_becomes p s2)
  -- the fetcher's place is behind the band, whose rows are gone
  obtain ⟨k, i, hk, hplace⟩ : ∃ k i, c.index < k ∧ (if (discardSlots p s2).re.fetchBand ≤ c.index
      then { discardSlots p s2 with re.fetchBand := c.index + 1, re.fetchRow := 0 } else discardSlots p s2) =
      { discardSlots p s2 with re := { (discardSlots p s2).re with fetchBand := k, fetchRow := i } } := by
    split
    · exact ⟨c.index + 1, 0, Nat.lt_succ_self _, rfl⟩
    · next h => exact ⟨_, _, not_le.1 h, rfl⟩
  obtain ⟨more, k', i', hm, hf⟩ := fetchRun_fetchable
    { discardSlots p s2 with re := { (discardSlots p s2).re with fetchBand := k, fetchRow := i } }
  refine ⟨more, k', i', fun x hx => ?_, ?_⟩
  · obtain ⟨hc, hle, -⟩ := hm x hx
    exact ⟨hc, hk.trans_le hle⟩
  · rw [hstep, hplace, hf, rowEffect_nil, Raster.underrunOf, ← hslots]
    exact hd.setRe (fun r => r.fetched more k' i')

theorem rowOutcome_fires {x : RowSlot} {rest : List RowSlot} (hk : c.kind = .printed) (hb : c.blank = false)
    (hs : s.re.slots = x :: rest) (hx : x.complete = true) : ∃ more k i, (∀ y ∈ more, y.complete = false) ∧ rowOutcome g c s =
    s.rowEffect (b.rowTaken (headReady s.pins.head) (rowClips (s.ps.slots.get g.slot).prof x.words))
      (if headReady s.pins.head = true then [s.fullRowOut g c b x] else []) (s.re.rowConsumed.fetched more k i) := by
  have hout : rowOutcome g c s = fireRow g c x s := by
    rw [rowOutcome, hk]
    dsimp only
    rw [if_neg (by simp [hb]), hs]
    exact if_pos hx
  have hcomp : ((s.bandOf c.number).map Band.g).getD 1024 = b.g := by simp [State.bandOf, ht, hn]
  obtain ⟨more, k, i, low, hm, hf⟩ := fireRow_eq g c x s
  have hlow : low = if s.re.depth ≤ 2 then min 4294967295 (s.re.lowWater + 1) else s.re.lowWater := by
    rw [← fireRow_lowWater (g := g) (c := c) x, hf]
    rfl
  refine ⟨more, k, i, hm, ?_⟩
  rw [hout, hf, hcomp, hlow, ht]
  simp [hn, State.rowEffect, State.fullRowOut, Raster.rowConsumed]

end

/-! ## The outcomes as one update -/

section
variable {g : Segment} {c : BandContext} {b : Band} {s : State}

/-- A VOID or blanked row event neither finds the buffer empty nor takes a row from it. -/
theorem rowEvent_dark (h : c.kind = .void ∨ c.blank = true) (p : Prop) : ¬(c.kind = .printed ∧ c.blank = false ∧ p) := by
  rintro ⟨hk, hb, -⟩
  rcases h with h | h
  · cases h.symm.trans hk
  · cases h.symm.trans hb

theorem not_rowUsed_of_rowUnder (hu : s.rowUnder c) : ¬s.rowUsed c := fun h => h.2.2 hu.2.2

theorem not_rowUnder_of_rowUsed (hu : s.rowUsed c) : ¬s.rowUnder c := fun h => hu.2.2 h.2.2

theorem rowBand_void (hk : c.kind = .void) : s.rowBand g c b = b := if_pos hk

theorem rowBand_blank (hk : c.kind = .printed) (hb : c.blank = true) : s.rowBand g c b = { b with lost := b.lost + 1 } :=
  (if_neg (by simp [hk])).trans (if_pos hb)

theorem rowBand_under (hu : s.rowUnder c) :
    s.rowBand g c b = { b with lost := b.lost + 1, flags := b.flags ||| 0x001#12 } := by
  obtain ⟨hk, hb, hd⟩ := hu
  exact (if_neg (by simp [hk])).trans ((if_neg (by simp [hb])).trans (if_pos hd))

theorem rowBand_full (hu : s.rowUsed c) : s.rowBand g c b = if s.linksReady then
      { b with fired := b.fired + 1, clip := min 65535 (b.clip + rowClips (s.ps.slots.get g.slot).prof s.headSlot.words) }
    else { b with lost := b.lost + 1, flags := b.flags ||| 0x002#12 } := by
  obtain ⟨hk, hb, hd⟩ := hu
  exact (if_neg (by simp [hk])).trans ((if_neg (by simp [hb])).trans (if_neg hd))

theorem rowSent_blank (h : c.kind = .void ∨ c.blank = true) :
    s.rowSent g c b = if s.linksReady then [blankRowOut g c] else [] := by
  unfold State.rowSent
  rw [if_neg (rowEvent_dark h _), if_congr (or_iff_left (rowEvent_dark h _)) rfl rfl, ite_not]

theorem rowSent_under (hu : s.rowUnder c) : s.rowSent g c b = [] := if_pos (.inr hu)

theorem rowSent_full (hu : s.rowUsed c) :
    s.rowSent g c b = if s.linksReady then [s.fullRowOut g c b s.headSlot] else [] := by
  unfold State.rowSent
  rw [if_pos hu, if_congr (or_iff_left (not_rowUnder_of_rowUsed hu)) rfl rfl, ite_not]

theorem rowNotices_under (hu : s.rowUnder c) : s.rowNotices c = [.underrun] := if_pos hu

theorem rowNotices_nil (hu : ¬s.rowUnder c) : s.rowNotices c = [] := if_neg hu

theorem linksReady_iff : headReady s.pins.head = true ↔ s.linksReady := headReady_iff _

variable (ht : s.bt.track = [b]) (hn : b.number = c.number)

include ht hn

/-- A row event of the one band of the track, short of the band's end: the four outcomes as one update. -/
theorem rowStep_becomes (hc : s.re.band = some c) : ∃ r, s.RowRaster c r ∧ Becomes (s.rowEffect (s.rowBand g c b) (s.rowSent g c b) r)
    (s.rowNotices c) { rowOutcome g c s with
      re.band := (rowOutcome g c s).re.band.map (fun x => { x with next := c.next + 1 }) } := by
  by_cases hdark : c.kind = .void ∨ c.blank = true
  · have hno := rowEvent_dark hdark
    have hout : rowOutcome g c s = s.rowEffect (s.rowBand g c b) (s.rowSent g c b) s.re := by
      rw [rowSent_blank hdark, ← if_congr linksReady_iff rfl rfl]
      cases hk : c.kind with
      | void => rw [rowOutcome_void ht hk, rowBand_void hk]
      | printed =>
        have hb : c.blank = true := hdark.resolve_left (by simp [hk])
        rw [rowOutcome_blank ht hn hk hb, rowBand_blank hk hb]
    refine ⟨{ s.re with band := some { c with next := c.next + 1 } }, ⟨?_, fun _ => ⟨rfl, rfl, rfl⟩, fun h => absurd h (hno _),
      fun h => absurd h (hno _)⟩, ?_⟩
    · rw [if_neg (fun h => hno _ h.1), if_neg (hno _), decide_eq_false (hno _), Bool.or_false]
    · rw [hout, rowNotices_nil (hno _)]
      exact (Becomes.refl (s.rowEffect _ _ s.re)).nextRow hc _
  · obtain ⟨hk, hb⟩ : c.kind = .printed ∧ c.blank = false := by
      rw [not_or] at hdark
      exact ⟨(kind_ne_void_iff _).1 hdark.1, by simpa using hdark.2⟩
    by_cases hd : s.re.depth = 0
    · have hu : s.rowUnder c := ⟨hk, hb, hd⟩
      have hno := not_rowUsed_of_rowUnder hu
      obtain ⟨more, k, i, hm, hbec⟩ := underrun_becomes ht hn
      refine ⟨{ (s.re.underrunOf c).fetched more k i with band := some { c with next := c.next + 1, blank := true } },
        ⟨?_, fun h => absurd h hdark, fun h => absurd h hno, fun _ => ⟨more, rfl, hm⟩⟩, ?_⟩
      · rw [if_neg (fun h => hno h.1), if_pos hu, decide_eq_true hu, Bool.or_true]
        rfl
      · rw [rowBand_under hu, rowSent_under hu, rowNotices_under hu, rowOutcome_underrun hk hb hd]
        exact hbec.nextRow rfl _
    · have hu : s.rowUsed c := ⟨hk, hb, hd⟩
      have hno := not_rowUnder_of_rowUsed hu
      obtain ⟨x, rest, hs, hx⟩ := head_complete_of_depth (Nat.one_le_iff_ne_zero.2 hd)
      obtain ⟨more, k, i, hm, hfire⟩ := rowOutcome_fires (g := g) ht hn hk hb hs hx
      have hhead : s.headSlot = x := by rw [State.headSlot, hs]; rfl
      have htaken : s.rowBand g c b = b.rowTaken (headReady s.pins.head) (rowClips (s.ps.slots.get g.slot).prof x.words) := by
        rw [rowBand_full hu, hhead, Band.rowTaken, if_congr linksReady_iff rfl rfl]
        rfl
      refine ⟨{ s.re.rowConsumed.fetched more k i with band := some { c with next := c.next + 1 } },
        ⟨?_, fun h => absurd h hdark, fun _ => ⟨more, rfl, hm⟩, fun h => absurd h hno⟩, ?_⟩
      · rw [if_congr (and_iff_right hu) rfl rfl, if_neg hno, decide_eq_false hno, Bool.or_false]
        rfl
      · rw [htaken, rowSent_full hu, ← if_congr linksReady_iff rfl rfl, hhead, rowNotices_nil hno, hfire]
        exact (Becomes.refl (s.rowEffect _ _ (s.re.rowConsumed.fetched more k i))).nextRow hc _

end

end Sys2Proof.Machine
end

section
/-! The paper pulse with a row event (02 R39, R42): how many events are due, what follows them, and the end of the band. -/

namespace Sys2Proof.Machine

/-! ## The events that are due (02 R39) -/

section
variable {g : Segment} {c : BandContext} {s : State} (hg : s.re.seg = some g) (hc : s.re.band = some c)

include hg hc

theorem rowsDue_reached (hl : s.dc.line = .running ∨ s.dc.line = .draining) (hx : c.l0 + c.next * c.p ≤ s.bt.pos.paper.nm) :
    s.rowsDue = min (g.bandRows - c.next) ((s.bt.pos.paper.nm - (c.l0 + c.next * c.p)) / c.p + 1) := by
  have hfires : s.dc.line.fires = true := by rcases hl with h | h <;> rw [h] <;> rfl
  unfold State.rowsDue
  rw [hg, hc]
  exact if_pos (by rw [hfires, Bool.true_and]; exact decide_eq_true hx)

/-- P has passed `n` rows after the next one, and not the row after them. -/
theorem rowsDue_eq (hl : s.dc.line = .running ∨ s.dc.line = .draining) {n : Nat} (hn : c.next + n < g.bandRows)
    (hx : c.l0 + (c.next + n) * c.p ≤ s.bt.pos.paper.nm) (hy : s.bt.pos.paper.nm < c.l0 + (c.next + (n + 1)) * c.p) :
    s.rowsDue = n + 1 := by
  rw [Nat.add_mul] at hx hy
  have hdiv : (s.bt.pos.paper.nm - (c.l0 + c.next * c.p)) / c.p = n := Nat.div_eq_of_lt_le (by omega) (by omega)
  rw [rowsDue_reached hg hc hl (by omega), hdiv]
  omega

/-- Of the last row's event, one at most is due. -/
theorem rowsDue_last (hl : s.dc.line = .running ∨ s.dc.line = .draining) (hn : c.next + 1 = g.bandRows)
    (hx : c.l0 + c.next * c.p ≤ s.bt.pos.paper.nm) : s.rowsDue = 1 := by
  rw [rowsDue_reached hg hc hl hx, ← hn, Nat.add_sub_cancel_left]
  exact Nat.min_eq_left (Nat.le_add_left 1 _)

theorem rowEvent_more (hn : c.next + 1 < g.bandRows) : rowEvent s = { rowOutcome g c s with
    re.band := (rowOutcome g c s).re.band.map (fun x => { x with next := c.next + 1 }) } := by
  unfold rowEvent
  rw [hg, hc]
  exact if_neg (not_le.2 hn)

theorem rowEvent_last (hn : c.next + 1 = g.bandRows) : rowEvent s = bandEnd g c { rowOutcome g c s with
    re.band := (rowOutcome g c s).re.band.map (fun x => { x with next := c.next + 1 }) } := by
  unfold rowEvent
  rw [hg, hc]
  exact if_pos hn.ge

end

theorem rowEvents_of_one {s : State} (h : s.rowsDue = 1) : rowEvents s = rowEvent s := by
  rw [rowEvents, h]
  rfl

theorem rowEvents_of_two {s : State} (h : s.rowsDue = 2) : rowEvents s = rowEvent (rowEvent s) := by
  rw [rowEvents, h]
  rfl

/-! ## What follows the row events of a pulse -/

/-- A band whose mark is not resolved has no position event (01 R7). -/
theorem trackEvents_unresolved {b : Band} {s : State} (ht : s.bt.track = [b]) (hc : b.c = none) : trackEvents s = s := by
  have hnip : nipEvent b.number s = s := by rw [nipEvent, modBand_single ht, hc, withBand_self ht]
  have hexit : exitEvent b.number s = s := by rw [exitEvent, modBand_single ht, hc, withBand_self ht]
  have htrail : trailEvent b.number s = s := by rw [trailEvent, modBand_single ht, hc, withBand_self ht]
  have hpatch : patchEvent b.number s = s := by
    have hb : s.bandOf b.number = some b := by simp [State.bandOf, ht]
    rw [patchEvent, hb]
    dsimp only
    rw [hc]
  rw [trackEvents_single ht, hnip, hexit, hpatch, htrail]

/-- The expected window is not behind P (07 R143). -/
theorem closeWindows_open {b : Band} {s : State} (ht : s.bt.track = [b]) (hc : b.c = none)
    (hw : s.bt.pos.paper.nm ≤ b.markAt s.cfg + s.halfWindow) : closeWindows s = s := by
  have hexp : s.expected = some b := by simp [State.expected, ht, hc]
  rw [closeWindows, ht, List.length_singleton, closeWindowsN, hexp]
  exact if_neg (not_lt.2 hw)

/-- The row events of a pulse that leave one band, its mark not resolved and its window open: a band start is all that is tested. -/
theorem paperMoved_open {b : Band} {s w : State} {ns : List Notice} (h : Becomes w ns (rowEvents s)) (ht : w.bt.track = [b])
    (hc : b.c = none) (hb : b.state ≠ .finished) (hs : w.bt.splices = []) (hw : w.bt.pos.paper.nm ≤ b.markAt w.cfg + w.halfWindow) :
    paperMoved s = tryBandStart (rowEvents s) := by
  have htrack : (rowEvents s).bt.track = [b] := by rw [h.bt]; exact ht
  have hopen : closeWindows (rowEvents s) = rowEvents s :=
    closeWindows_open htrack hc (by rw [State.halfWindow, h.bt, h.cfg, h.mr]; exact hw)
  have hpos : positionEvents (rowEvents s) = rowEvents s := by
    rw [positionEvents, h.bt, hs]
    exact trackEvents_unresolved htrack hc
  rw [paperMoved, hopen, hpos, startRetirement_eq_self (.inr (by rw [htrack]; simpa using hb))]

theorem Becomes.mayStart {u t : State} {ns : List Notice} (h : Becomes u ns t) (g : Segment) : t.mayStart g = u.mayStart g := by
  rw [h.eq_setPort]
  rfl

/-- Where the conditions of R36 do not hold, no band starts. -/
theorem tryBandStart_becomes {g : Segment} {u t : State} {ns : List Notice} (h : Becomes u ns t) (hg : u.re.seg = some g)
    (hm : ¬u.mayStart g = true) : Becomes { u with re.fullWait := false } ns (tryBandStart t) := by
  rw [tryBandStart_waits (g := g) (by rw [h.re]; exact hg) (by rw [h.mayStart]; exact hm)]
  exact h.setRe (fun r => { r with fullWait := false })

end Sys2Proof.Machine
end

section
/-! One and two row events in a pulse, short of the band's end (02 R39 to R41, R44). -/

namespace Sys2Proof.Machine

/-- P has reached a row of the band in PRINTING, which is alone in the track with its mark window open; no splice is stored. -/
structure State.RowDue (g : Segment) (c : BandContext) (b : Band) (s : State) : Prop where
  raster : s.re.raster = .printing
  seg : s.re.seg = some g
  band : s.re.band = some c
  track : s.bt.track = [b]
  number : b.number = c.number
  mark : b.c = none
  state : b.state = .printing
  splices : s.bt.splices = []
  line : s.dc.line = .running ∨ s.dc.line = .draining
  reached : c.l0 + c.next * c.p ≤ s.bt.pos.paper.nm
  window : s.bt.pos.paper.nm ≤ b.markAt s.cfg + s.halfWindow

/-- A row event changes the band's counts, clip and flags alone. -/
theorem rowBand_keeps (g : Segment) (c : BandContext) (b : Band) (s : State) :
    ∃ flags fired lost clip, s.rowBand g c b = { b with flags := flags, fired := fired, lost := lost, clip := clip } := by
  unfold State.rowBand
  (repeat' split) <;> exact ⟨_, _, _, _, rfl⟩

/-- The state after the row event, but for the port. -/
def State.rowDone (g : Segment) (c : BandContext) (b : Band) (r : Raster) (s : State) : State :=
  s.rowEffect (s.rowBand g c b) (s.rowSent g c b) r

section
variable {c : BandContext} {s : State} {r : Raster} (h : s.RowRaster c r)
include h

theorem State.RowRaster.raster : r.raster = s.re.raster := (congrArg Raster.raster h.1).trans rfl
theorem State.RowRaster.seg : r.seg = s.re.seg := (congrArg Raster.seg h.1).trans rfl
theorem State.RowRaster.ending : r.ending = s.re.ending := (congrArg Raster.ending h.1).trans rfl
theorem State.RowRaster.printEnd : r.printEnd = s.re.printEnd := (congrArg Raster.printEnd h.1).trans rfl
theorem State.RowRaster.band : r.band = some { c with next := c.next + 1, blank := c.blank || decide (s.rowUnder c) } :=
  (congrArg Raster.band h.1).trans rfl
theorem State.RowRaster.lowWater : r.lowWater =
    if s.rowUsed c ∧ s.re.depth ≤ 2 then min 4294967295 (s.re.lowWater + 1) else s.re.lowWater :=
  (congrArg Raster.lowWater h.1).trans rfl
theorem State.RowRaster.underruns : r.underruns = if s.rowUnder c then min 4294967295 (s.re.underruns + 1) else s.re.underruns :=
  (congrArg Raster.underruns h.1).trans rfl

end

section
variable {g : Segment} {c : BandContext} {b : Band} {s : State} (h : s.RowDue g c b)
include h

theorem State.RowDue.step : ∃ r, s.RowRaster c r ∧ Becomes (s.rowDone g c b r) (s.rowNotices c) { rowOutcome g c s with
    re.band := (rowOutcome g c s).re.band.map (fun x => { x with next := c.next + 1 }) } :=
  rowStep_becomes h.track h.number h.band

/-- What the pulse goes on to after its row events, the band still in PRINTING. -/
theorem State.RowDue.paperMoved_printing {b' : Band} {o : List Output} {r : Raster} {ns : List Notice}
    (hr : Becomes (s.rowEffect b' o r) ns (rowEvents s)) (hb : ∃ flags fired lost clip, b' = { b with
      flags := flags, fired := fired, lost := lost, clip := clip }) (hseg : r.seg = some g) (hp : r.raster = .printing) :
    Becomes (s.rowEffect b' o { r with fullWait := false }) ns (paperMoved s) := by
  obtain ⟨flags, fired, lost, clip, rfl⟩ := hb
  rw [paperMoved_open hr rfl h.mark (by rw [show (_ : Band).state = b.state from rfl, h.state]; decide) h.splices h.window]
  refine tryBandStart_becomes hr hseg fun hm => ?_
  obtain ⟨hraster, -⟩ := (mayStart_iff _ g).1 hm
  have hp' : (s.rowEffect { b with flags := flags, fired := fired, lost := lost, clip := clip } o r).re.raster = .printing := hp
  rw [hp'] at hraster
  simp at hraster

/-- One row event, not the band's last. -/
theorem State.RowDue.one (hn : c.next + 1 < g.bandRows) (hx : s.bt.pos.paper.nm < c.l0 + (c.next + 1) * c.p) :
    ∃ r, s.RowRaster c r ∧ Becomes (s.rowDone g c b { r with fullWait := false }) (s.rowNotices c) (paperMoved s) := by
  obtain ⟨r, hr, hstep⟩ := h.step
  rw [← rowEvent_more h.seg h.band hn, ← rowEvents_of_one (rowsDue_eq (n := 0) h.seg h.band h.line (by omega) h.reached hx)] at hstep
  exact ⟨r, hr, h.paperMoved_printing hstep (rowBand_keeps ..) (hr.seg.trans h.seg) (hr.raster.trans h.raster)⟩

end

end Sys2Proof.Machine
end

section
namespace Sys2Proof.Machine

/-! ## Two row events in one pulse (02 R39) -/

/-- The band's context once its next row has been taken. -/
def BandContext.passed (dark : Bool) (c : BandContext) : BandContext := { c with next := c.next + 1, blank := dark }

/-- `rowStep_becomes` behind something that moved the port alone. -/
theorem Becomes.rowStep {g : Segment} {c : BandContext} {b : Band} {w v : State} {ns : List Notice} (hv : Becomes w ns v)
    (ht : w.bt.track = [b]) (hn : b.number = c.number) (hc : w.re.band = some c) : ∃ r, w.RowRaster c r ∧
      Becomes (w.rowDone g c b r) (ns ++ w.rowNotices c) { rowOutcome g c v with
        re.band := (rowOutcome g c v).re.band.map (fun x => { x with next := c.next + 1 }) } := by
  obtain ⟨r, hr, hstep⟩ := rowStep_becomes (g := g) (s := v) (by rw [hv.bt]; exact ht) hn (by rw [hv.re]; exact hc)
  obtain ⟨p, hp⟩ : ∃ p, v = { w with smp := p } := ⟨_, hv.eq_setPort⟩
  have hr' : w.RowRaster c r := by
    rw [hp] at hr
    exact hr
  have hdone : Becomes (w.rowDone g c b r) ns (v.rowEffect (v.rowBand g c b) (v.rowSent g c b) r) := by
    have hb : v.rowBand g c b = w.rowBand g c b := by
      rw [hp]
      rfl
    have ho : v.rowSent g c b = w.rowSent g c b := by
      rw [hp]
      rfl
    rw [hb, ho]
    exact hv.rowEffect _ _ _
  have hns : v.rowNotices c = w.rowNotices c := by
    rw [hp]
    rfl
  exact ⟨r, hr', hns ▸ hdone.trans hstep⟩

theorem rowEffect_rowEffect (b b' : Band) (o o' : List Output) (r r' : Raster) (s : State) :
    (s.rowEffect b o r).rowEffect b' o' r' = s.rowEffect b' (o ++ o') r' := by
  simp [State.rowEffect, List.append_assoc]

section
variable {g : Segment} {c : BandContext} {b : Band} {s : State} (h : s.RowDue g c b)
include h

/-- Two row events, neither the band's last: the second finds what the first has left. -/
theorem State.RowDue.two (hn : c.next + 2 < g.bandRows) (hx : c.l0 + (c.next + 1) * c.p ≤ s.bt.pos.paper.nm)
    (hy : s.bt.pos.paper.nm < c.l0 + (c.next + 2) * c.p) :
    ∃ r1, s.RowRaster c r1 ∧
      let w := s.rowDone g c b r1
      let c' := c.passed (c.blank || decide (s.rowUnder c))
      let b' := s.rowBand g c b
      ∃ r, w.RowRaster c' r ∧
        Becomes (s.rowEffect (w.rowBand g c' b') (s.rowSent g c b ++ w.rowSent g c' b') { r with fullWait := false })
          (s.rowNotices c ++ w.rowNotices c') (paperMoved s) := by
  obtain ⟨r1, hr1, hstep1⟩ := h.step
  rw [← rowEvent_more h.seg h.band (by omega)] at hstep1
  obtain ⟨f1, n1, l1, k1, hb1⟩ := rowBand_keeps g c b s
  have hband : r1.band = some (c.passed (c.blank || decide (s.rowUnder c))) := hr1.band
  have hseg : r1.seg = some g := hr1.seg.trans h.seg
  obtain ⟨r, hr, hstep⟩ := hstep1.rowStep (g := g) (c := c.passed (c.blank || decide (s.rowUnder c))) (b := s.rowBand g c b) rfl
    (by rw [hb1]; exact h.number) hband
  refine ⟨r1, hr1, r, hr, ?_⟩
  have htwo : rowEvents s = rowEvent (rowEvent s) := rowEvents_of_two (rowsDue_eq (n := 1) h.seg h.band h.line (by omega) hx hy)
  rw [← rowEvent_more (by rw [hstep1.re]; exact hseg) (by rw [hstep1.re]; exact hband) hn, ← htwo, State.rowDone, State.rowDone,
    rowEffect_rowEffect] at hstep
  refine h.paperMoved_printing hstep ?_ (hr.seg.trans hseg) (hr.raster.trans (hr1.raster.trans h.raster))
  obtain ⟨f2, n2, l2, k2, hb2⟩ := rowBand_keeps g (c.passed (c.blank || decide (s.rowUnder c))) (s.rowBand g c b) (s.rowDone g c b r1)
  exact ⟨f2, n2, l2, k2, hb2.trans (by rw [hb1])⟩

end

/-- One row event by its outcome: the band, the outputs, the causes, whether the band is blanked then, and whether it counts for low
water. -/
structure State.RowTaken (g : Segment) (c : BandContext) (b b' : Band) (o : List Output) (ns : List Notice) (dark low : Bool)
    (s : State) : Prop where
  band : s.rowBand g c b = b'
  sent : s.rowSent g c b = o
  notices : s.rowNotices c = ns
  dark : (c.blank || decide (s.rowUnder c)) = dark
  low : decide (s.rowUsed c ∧ s.re.depth ≤ 2) = low

section
variable {g : Segment} {c : BandContext} {b : Band} {s : State} (hk : c.kind = .printed)
include hk

theorem rowTaken_blank (hb : c.blank = true) : s.RowTaken g c b { b with lost := b.lost + 1 }
    (if s.linksReady then [blankRowOut g c] else []) [] true false :=
  have hdark := rowEvent_dark (c := c) (.inr hb)
  { band := rowBand_blank hk hb, sent := rowSent_blank (.inr hb), notices := rowNotices_nil (hdark _)
    dark := Bool.or_eq_true_iff.2 (.inl hb), low := decide_eq_false (fun h => hdark _ h.1) }

theorem rowTaken_under (hb : c.blank = false) (hd : s.re.depth = 0) :
    s.RowTaken g c b { b with lost := b.lost + 1, flags := b.flags ||| 0x001#12 } [] [.underrun] true false :=
  have hu : s.rowUnder c := ⟨hk, hb, hd⟩
  { band := rowBand_under hu, sent := rowSent_under hu, notices := rowNotices_under hu
    dark := Bool.or_eq_true_iff.2 (.inr (decide_eq_true hu)), low := decide_eq_false (fun h => not_rowUsed_of_rowUnder hu h.1) }

theorem rowTaken_full (hb : c.blank = false) (hd : s.re.depth ≠ 0) : s.RowTaken g c b
    (if s.linksReady then
      { b with fired := b.fired + 1, clip := min 65535 (b.clip + rowClips (s.ps.slots.get g.slot).prof s.headSlot.words) }
      else { b with lost := b.lost + 1, flags := b.flags ||| 0x002#12 })
    (if s.linksReady then [s.fullRowOut g c b s.headSlot] else []) [] false (decide (s.re.depth ≤ 2)) :=
  have hu : s.rowUsed c := ⟨hk, hb, hd⟩
  have hno := not_rowUnder_of_rowUsed hu
  { band := rowBand_full hu, sent := rowSent_full hu, notices := rowNotices_nil hno
    dark := Bool.or_eq_false_iff.2 ⟨hb, decide_eq_false hno⟩, low := decide_eq_decide.2 (and_iff_right hu) }

end

/-- What two row events leave of RE, the buffer apart. -/
def State.TwoRowsRaster (g : Segment) (c : BandContext) (ns : List Notice) (dark : Bool) (low : Nat) (s : State) (r : Raster) : Prop :=
  r.raster = .printing ∧ r.seg = some g ∧ r.ending = s.re.ending ∧ r.band = some { c with next := c.next + 2, blank := dark } ∧
  r.lowWater = (if low = 0 then s.re.lowWater else min 4294967295 (s.re.lowWater + low)) ∧
  r.underruns = if ns = [] then s.re.underruns else min 4294967295 (s.re.underruns + 1)

/-- The pulse takes two rows with this outcome. -/
def State.TwoRows (g : Segment) (c : BandContext) (b : Band) (o : List Output) (ns : List Notice) (dark : Bool) (low : Nat)
    (s : State) : Prop :=
  ∃ r, s.TwoRowsRaster g c ns dark low r ∧ Becomes (s.rowEffect b o r) ns (paperMoved s)

section
variable {g : Segment} {c : BandContext} {b b' : Band} {o : List Output} {ns : List Notice} {dark low : Bool} {s : State}

theorem State.RowTaken.lowWater (h : s.RowTaken g c b b' o ns dark low) {r : Raster} (hr : s.RowRaster c r) :
    r.lowWater = if low then min 4294967295 (s.re.lowWater + 1) else s.re.lowWater := by
  rw [hr.lowWater, ← h.low]
  exact if_congr decide_eq_true_iff.symm rfl rfl

theorem State.RowTaken.underruns (h : s.RowTaken g c b b' o ns dark low) {r : Raster} (hr : s.RowRaster c r) :
    r.underruns = if ns = [] then s.re.underruns else min 4294967295 (s.re.underruns + 1) := by
  rw [hr.underruns, ← h.notices]
  by_cases hu : s.rowUnder c
  · rw [rowNotices_under hu, if_pos hu]
    rfl
  · rw [rowNotices_nil hu, if_neg hu]
    rfl

/-- A band that is blanked does not underrun (02 R41). -/
theorem State.RowTaken.notices_nil (h : s.RowTaken g c b b' o ns dark low) (hb : c.blank = true) : ns = [] :=
  h.notices.symm.trans (rowNotices_nil (rowEvent_dark (.inr hb) _))

/-- A row that underruns blanks its band (02 R41). -/
theorem State.RowTaken.dark_of_notices (h : s.RowTaken g c b b' o ns dark low) (hns : ns ≠ []) : dark = true := by
  have hu : s.rowUnder c := by_contra fun hu => hns (h.notices.symm.trans (rowNotices_nil hu))
  rw [← h.dark, decide_eq_true hu, Bool.or_true]

/-- Two row events of a pulse, one by one. -/
theorem State.RowDue.twoRows (h : s.RowDue g c b) (hn : c.next + 2 < g.bandRows)
    (hx : c.l0 + (c.next + 1) * c.p ≤ s.bt.pos.paper.nm) (hy : s.bt.pos.paper.nm < c.l0 + (c.next + 2) * c.p)
    (h1 : s.RowTaken g c b b' o ns dark low) : ∃ r1, s.RowRaster c r1 ∧ ∀ (b2 : Band) (o2 : List Output) (ns2 : List Notice)
      (dark2 low2 : Bool), (s.rowEffect b' o r1).RowTaken g (c.passed dark) b' b2 o2 ns2 dark2 low2 →
      s.TwoRows g c b2 (o ++ o2) (ns ++ ns2) dark2 (low.toNat + low2.toNat) := by
  obtain ⟨r1, hr1, r, hr, hmoved⟩ := h.two hn hx hy
  rw [State.rowDone, h1.band, h1.sent, h1.notices, h1.dark] at hmoved
  rw [State.rowDone, h1.band, h1.sent, h1.dark] at hr
  refine ⟨r1, hr1, fun b2 o2 ns2 dark2 low2 h2 => ?_⟩
  rw [h2.band, h2.sent, h2.notices] at hmoved
  refine ⟨{ r with fullWait := false }, ⟨hr.raster.trans (hr1.raster.trans h.raster), hr.seg.trans (hr1.seg.trans h.seg),
    hr.ending.trans hr1.ending, ?_, ?_, ?_⟩, hmoved⟩
  · rw [← h2.dark]
    exact hr.band
  · have hlow1 : (s.rowEffect b' o r1).re.lowWater = _ := h1.lowWater hr1
    refine (h2.lowWater hr).trans ?_
    rw [hlow1]
    cases low <;> cases low2 <;> simp only [Bool.toNat_true, Bool.toNat_false, if_true, if_false, Nat.add_zero, Nat.zero_add,
      Bool.false_eq_true, one_ne_zero]
    simp only [Nat.reduceAdd, OfNat.ofNat_ne_zero, if_false]
    omega
  · have hunder1 : (s.rowEffect b' o r1).re.underruns = _ := h1.underruns hr1
    refine (h2.underruns hr).trans ?_
    rw [hunder1]
    by_cases hns : ns = []
    · rw [if_pos hns, hns, List.nil_append]
    · rw [if_neg hns, h2.notices_nil (h1.dark_of_notices hns), List.append_nil, if_pos rfl, if_neg hns]

end

end Sys2Proof.Machine
end

section
namespace Sys2Proof.Machine

/-! ### The two rows by blanking and depth -/

/-- Rows that are not complete add nothing to the depth. -/
theorem depth_append {r : Raster} {l more : List RowSlot} (hs : r.slots = l ++ more) (hm : ∀ x ∈ more, x.complete = false) :
    r.depth = (l.takeWhile RowSlot.complete).length := by
  have hnil : more.takeWhile RowSlot.complete = [] := by
    cases more with
    | nil => rfl
    | cons x rest => rw [List.takeWhile_cons, hm x List.mem_cons_self]; rfl
  rw [Raster.depth, hs, List.takeWhile_append, hnil, List.append_nil]
  split <;> rename_i h
  · rw [h]
  · rfl

/-- Consuming a row takes 1 from the depth. -/
theorem depth_rowUsed {c : BandContext} {s : State} {r : Raster} (h : s.RowRaster c r) (hu : s.rowUsed c) : r.depth + 1 = s.re.depth := by
  obtain ⟨x, rest, hs, hx⟩ := head_complete_of_depth (Nat.one_le_iff_ne_zero.2 hu.2.2)
  obtain ⟨-, -, hused, -⟩ := h
  obtain ⟨more, hslots, hm⟩ := hused hu
  rw [depth_append hslots hm, Raster.depth, hs, List.takeWhile_cons, if_pos hx]
  rfl

section
variable {g : Segment} {c : BandContext} {b : Band} {s : State} (h : s.RowDue g c b) (hk : c.kind = .printed)
  (hn : c.next + 2 < g.bandRows) (hx : c.l0 + (c.next + 1) * c.p ≤ s.bt.pos.paper.nm)
  (hy : s.bt.pos.paper.nm < c.l0 + (c.next + 2) * c.p)

include h hk hn hx hy

theorem State.RowDue.two_blank (hb : c.blank = true) : s.TwoRows g c { b with lost := b.lost + 2 }
    (if s.linksReady then [blankRowOut g c, blankRowOut g { c with next := c.next + 1 }] else []) [] true 0 := by
  obtain ⟨r1, -, htwo⟩ := h.twoRows hn hx hy (rowTaken_blank hk hb)
  have hres := htwo _ _ _ _ _ (rowTaken_blank (c := c.passed true) hk rfl)
  have hsent : (if s.linksReady then [blankRowOut g c] else []) ++ (if s.linksReady then [blankRowOut g (c.passed true)] else []) =
      if s.linksReady then [blankRowOut g c, blankRowOut g { c with next := c.next + 1 }] else [] := by
    split <;> rfl
  rw [← hsent]
  exact hres

/-- An underrun blanks the band for the second row. -/
theorem State.RowDue.two_underrun (hb : c.blank = false) (hd : s.re.depth = 0) :
    s.TwoRows g c { b with lost := b.lost + 2, flags := b.flags ||| 0x001#12 }
      (if s.linksReady then [blankRowOut g { c with next := c.next + 1 }] else []) [.underrun] true 0 := by
  obtain ⟨r1, -, htwo⟩ := h.twoRows hn hx hy (rowTaken_under hk hb hd)
  exact htwo _ _ _ _ _ (rowTaken_blank (c := c.passed true) hk rfl)

/-- The second row finds the buffer empty. -/
theorem State.RowDue.two_lastRow (hb : c.blank = false) (hd : s.re.depth = 1) :
    (s.linksReady → s.TwoRows g c { b with
      fired := b.fired + 1, clip := min 65535 (b.clip + rowClips (s.ps.slots.get g.slot).prof s.headSlot.words),
      lost := b.lost + 1, flags := b.flags ||| 0x001#12 } [s.fullRowOut g c b s.headSlot] [.underrun] true 1) ∧
    (¬s.linksReady → s.TwoRows g c { b with lost := b.lost + 2, flags := b.flags ||| 0x003#12 } [] [.underrun] true 1) := by
  obtain ⟨r1, hr1, htwo⟩ := h.twoRows hn hx hy (rowTaken_full hk hb (by omega))
  have hleft := depth_rowUsed hr1 ⟨hk, hb, by omega⟩
  have hres := htwo _ _ _ _ _ (rowTaken_under (c := c.passed false) hk rfl (show r1.depth = 0 by omega))
  rw [hd] at hres
  refine ⟨fun hready => ?_, fun hno => ?_⟩
  · rw [if_pos hready, if_pos hready] at hres
    exact hres
  · rw [if_neg hno, if_neg hno] at hres
    have hflags : b.flags ||| 0x003#12 = b.flags ||| 0x002#12 ||| 0x001#12 := by rw [BitVec.or_assoc]; rfl
    rw [hflags]
    exact hres

/-- Both rows are there. -/
theorem State.RowDue.two_used {x y : RowSlot} {more : List RowSlot} (hb : c.blank = false) (hs : s.re.slots = x :: y :: more)
    (hcx : x.complete = true) (hcy : y.complete = true) :
    let clip : Nat → RowSlot → Nat := fun n x => min 65535 (n + rowClips (s.ps.slots.get g.slot).prof x.words)
    (s.linksReady → s.TwoRows g c { b with fired := b.fired + 2, clip := clip (clip b.clip x) y }
      [s.fullRowOut g c b x, s.fullRowOut g { c with next := c.next + 1 } b y] [] false (4 - s.re.depth)) ∧
    (¬s.linksReady →
      s.TwoRows g c { b with lost := b.lost + 2, flags := b.flags ||| 0x002#12 } [] [] false (4 - s.re.depth)) := by
  have hdepth : 2 ≤ s.re.depth := by
    rw [Raster.depth, hs, List.takeWhile_cons, if_pos hcx, List.takeWhile_cons, if_pos hcy]
    simp
  have hhead : s.headSlot = x := by rw [State.headSlot, hs]; rfl
  obtain ⟨r1, hr1, htwo⟩ := h.twoRows hn hx hy (rowTaken_full hk hb (by omega))
  have hu : s.rowUsed c := ⟨hk, hb, by omega⟩
  have hleft := depth_rowUsed hr1 hu
  have hhead' : ∀ b' o, (s.rowEffect b' o r1).headSlot = y := fun b' o => by
    obtain ⟨-, -, hused, -⟩ := hr1
    obtain ⟨rest, hslots, -⟩ := hused hu
    rw [State.headSlot, State.rowEffect, hslots, hs]
    rfl
  have hlow : (decide (s.re.depth ≤ 2)).toNat + (decide (r1.depth ≤ 2)).toNat = 4 - s.re.depth := by
    by_cases h1 : s.re.depth ≤ 2 <;> by_cases h2 : r1.depth ≤ 2 <;> simp [h1, h2] <;> omega
  have hres := htwo _ _ _ _ _ (rowTaken_full (c := c.passed false) hk rfl (show r1.depth ≠ 0 by omega))
  rw [hhead', hhead] at hres
  refine ⟨fun hready => ?_, fun hno => ?_⟩
  · have hready' : ∀ b' o, (s.rowEffect b' o r1).linksReady := fun _ _ => hready
    simp only [if_pos hready, if_pos (hready' _ _)] at hres
    rw [← hlow]
    exact hres
  · have hno' : ∀ b' o, ¬(s.rowEffect b' o r1).linksReady := fun _ _ => hno
    simp only [if_neg hno, if_neg (hno' _ _)] at hres
    have hflags : b.flags ||| 0x002#12 = b.flags ||| 0x002#12 ||| 0x002#12 := by rw [BitVec.or_assoc]; rfl
    rw [← hlow, hflags]
    exact hres

end

end Sys2Proof.Machine
end

section
/-! The end of the band in PRINTING (02 R42, R45, R46, R50). -/

namespace Sys2Proof.Machine

/-! ## What the end of a band asks of the other blocks -/

theorem Becomes.setReads {ns : List Notice} {u t : State} (h : Becomes u ns t) (rs : List Transfer) :
    Becomes { u with smp.reads := rs } ns { t with smp.reads := rs } := by
  rw [becomes_iff] at *
  obtain ⟨he, h1, h2, h3, h4, h5, h6, h7, h8, h9, -⟩ := h
  exact ⟨by rw [he], h1, h2, h3, h4, h5, h6, h7, h8, h9, rfl⟩

/-- A boundary outside PRIMING: TR may read, and nothing else comes of it (09 R174). -/
theorem bandBoundary_eq {s : State} (hr : s.re.raster ≠ .priming) : ∃ rs, bandBoundary s = { s with smp.reads := rs } := by
  have hlook : ∃ rs, readerLook s = { s with smp.reads := rs } := by
    unfold readerLook issueRead
    (repeat' split) <;> exact ⟨_, rfl⟩
  obtain ⟨rs, hlook⟩ := hlook
  unfold bandBoundary chainLook
  dsimp only
  rw [hlook]
  (repeat' split)
  · exact ⟨rs, if_neg (fun h => hr h.1)⟩
  · exact ⟨rs, rfl⟩
  · exact ⟨s.smp.reads, rfl⟩

/-- TR with the poll timer running. -/
def Reader.polling (period : Nat) (r : Reader) : Reader :=
  if r.pollRunning then r else { r with pollRunning := true, pollElapsed := 0, pollInForce := period }

theorem polling_running (n : Nat) (r : Reader) : (r.polling n).pollRunning = true := by
  unfold Reader.polling
  split
  · assumption
  · rfl

/-- The poll timer apart, TR is as it was. -/
theorem polling_eq (n : Nat) (r : Reader) :
    ∃ k m, r.polling n = { r with pollRunning := true, pollElapsed := k, pollInForce := m } := by
  unfold Reader.polling
  split
  · next h => exact ⟨r.pollElapsed, r.pollInForce, by rw [← h]⟩
  · exact ⟨_, _, rfl⟩

theorem pollStart_eq (s : State) : pollStart s = { s with tr := s.tr.polling s.smp.pollPeriod } := by
  unfold pollStart Reader.polling
  split <;> rfl

theorem endPrinting_single {b : Band} {s : State} (ht : s.bt.track = [b]) (hs : b.state = .printing) :
    endPrinting b.number s = s.withBand { b with state := .travelling } :=
  (modBand_single ht _).trans (by rw [if_pos hs])

theorem bandEnd_eq (g : Segment) (c : BandContext) (s : State) : bandEnd g c s =
    if (s.re.ending != .none || g.allCreated) = true
    then printedReport (s.re.bandEndCause g) (bandBoundary (endPrinting c.number { s with re.band := none }))
    else pollStart { bandBoundary (endPrinting c.number { s with re.band := none }) with re.raster := .between } := rfl

/-- The band in PRINTING is TRAVELLING, RE has no band, and TR may have read. -/
def State.bandLeft (b : Band) (rs : List Transfer) (s : State) : State :=
  { s with bt.track := [{ b with state := .travelling }], re.band := none, smp.reads := rs }

section
variable {g : Segment} {c : BandContext} {b : Band} {w v : State} {ns : List Notice} (hv : Becomes w ns v) (ht : w.bt.track = [b])
  (hn : b.number = c.number) (hs : b.state = .printing) (hr : w.re.raster = .printing)

include hv ht hn hs hr

theorem bandLeft_becomes : ∃ rs, bandBoundary (endPrinting c.number { v with re.band := none }) = v.bandLeft b rs ∧
    Becomes (w.bandLeft b rs) ns (v.bandLeft b rs) := by
  have hend : endPrinting c.number { v with re.band := none } =
      ({ v with re.band := none } : State).withBand { b with state := .travelling } := by
    rw [← hn]
    exact endPrinting_single (by rw [← ht, ← hv.bt]) hs
  have hraster : v.re.raster ≠ .priming := by
    rw [hv.re, hr]
    decide
  obtain ⟨rs, hrs⟩ := bandBoundary_eq (s := ({ v with re.band := none } : State).withBand { b with state := .travelling }) hraster
  rw [hend, hrs]
  exact ⟨rs, rfl, ((hv.setRe (fun r => { r with band := none })).setBt
    (fun x => { x with track := [{ b with state := .travelling }] })).setReads rs⟩

/-- The segment goes on: RE is BETWEEN, and the poll timer runs (02 R42, 09 R174). -/
theorem bandEnd_between (he : w.re.ending = .none) (ha : ¬g.allCreated = true) : ∃ rs k,
    Becomes { w.bandLeft b rs with re.raster := .between, tr := w.tr.polling k } ns (bandEnd g c v) := by
  obtain ⟨rs, hleft, hbec⟩ := bandLeft_becomes hv ht hn hs hr
  refine ⟨rs, v.smp.pollPeriod, ?_⟩
  have hgo : bandEnd g c v = pollStart { v.bandLeft b rs with re.raster := .between } := by
    rw [bandEnd_eq, hleft, if_neg (by rw [hv.re, he]; simpa using ha)]
  rw [hgo, pollStart_eq]
  exact (hbec.setRe (fun r => { r with raster := .between })).setTr (fun r => r.polling v.smp.pollPeriod)

/-- An end is pending, or every band has been created: the segment is reported (02 R42, R45, R46). -/
theorem bandEnd_reports (he : w.re.ending ≠ .none ∨ g.allCreated = true) : ∃ rs, Becomes (w.bandLeft b rs) ns (v.bandLeft b rs) ∧
    bandEnd g c v = printedReport (w.re.bandEndCause g) (v.bandLeft b rs) := by
  obtain ⟨rs, hleft, hbec⟩ := bandLeft_becomes hv ht hn hs hr
  refine ⟨rs, hbec, ?_⟩
  rw [bandEnd_eq, hleft, if_pos (by rw [hv.re]; simpa using he), hv.re]

end

/-! ## The PRINTED report of a segment with bands in the track (02 R50) -/

/-- A segment's PRINTED write that TR waits for. -/
def printedWrite (addr : Nat) (status : Status) : Transfer := headerTransfer addr
  { state := .printed, notify := false, detail := 0, role := .segment true, repeating := false, status := status }

/-- The segment is RE's no more, its entry PRINTED, and TR, out of HOLDING, waits for its PRINTED write. -/
def State.reported (g : Segment) (cause : EndCause) (r : Reader) (s : State) : State :=
  { s with
    re := s.re.cleared, bt.tallies := s.bt.tallies.map (fun y => if y.id = g.tally then y.reported cause else y),
    tr := { r with reader := .reading, awaitSeg := none },
    smp := { s.smp.readsCut with writes := s.smp.writes ++ [printedWrite g.addr cause.status] } }

/-- The end of a segment is RE's, and from PRINTING it starts the poll timer (02 R50, 09 R174). -/
theorem clearSegment_printing {s : State} (h : s.re.raster = .printing) :
    ∃ k, Becomes { s with re := s.re.cleared, tr := s.tr.polling k } [] (clearSegment s) := by
  have hd := (discardSlots_becomes (fun _ => true) s).setRe (fun r =>
    { r with raster := .idle, seg := none, ending := .none, band := none, fetchOn := false, fullWait := false, autoRetry := false })
  have hslots : s.re.slots.filter (fun _ => !true) = [] := by simp
  rw [hslots] at hd
  unfold clearSegment
  dsimp only
  rw [if_pos h, pollStart_eq]
  exact ⟨_, hd.setTr (fun r => r.polling _)⟩

/-- Where TR waits for a segment's write, its PRINTED write is one it waits for. -/
theorem queueSegmentHeader_printed {addr : Nat} {status : Status} {s : State} (h : s.tr.awaitSeg = some addr) :
    queueSegmentHeader addr false .printed status s = queueWrite (printedWrite addr status) { s with tr.awaitSeg := none } := by
  unfold queueSegmentHeader
  rw [h]
  dsimp only
  rw [beq_self_eq_true, if_pos rfl]
  rfl

theorem printedReport_becomes {g : Segment} {e : Tally} {cause : EndCause} {s : State} (hp : s.re.raster = .printing)
    (hs : SegmentHeld g e s) : ∃ k, Becomes (s.reported g cause (s.tr.polling k)) [] (printedReport cause s) := by
  obtain ⟨hg, he, hin, hr, ht, hh⟩ := hs
  obtain ⟨k, hclear⟩ := clearSegment_printing hp
  obtain ⟨n, p, hpoll⟩ := polling_eq k s.tr
  let m := modTally g.tally (Tally.reported cause) (clearSegment s)
  have hm : Becomes (modTally g.tally (Tally.reported cause) { s with re := s.re.cleared, tr := s.tr.polling k }) [] m :=
    hclear.modTally _ _
  have hleave := (hm.readsCut.setTr (fun r => { r with reader := .reading, awaitSeg := some g.addr })).trans
    (leaveHolding_becomes (addr := g.addr) (s := m) (by rw [hm.tr]; exact (congrArg Reader.reader hpoll).trans hr)
      (by rw [hm.tr]; exact (congrArg Reader.ticket hpoll).trans ht) (by rw [hm.tr]; exact (congrArg Reader.haltReq hpoll).trans hh))
  have htally : (leaveHolding g.addr m).tallyOf g.tally = some (e.reported cause) := by
    rw [hleave.tallyOf]
    exact tallyOf_modTally (f := Tally.reported cause) (fun _ => rfl) he
  have hreport : printedReport cause s = queueSegmentHeader g.addr false .printed cause.status (leaveHolding g.addr m) := by
    unfold printedReport
    rw [hg]
    dsimp only
    rw [show leaveHolding g.addr (modTally g.tally (fun t => { t with printed := true, cause := cause }) (clearSegment s)) =
      leaveHolding g.addr m from rfl, htally]
    exact if_neg (Nat.ne_of_gt hin)
  have hq := hleave.queueSegmentHeader g.addr false .printed cause.status
  rw [queueSegmentHeader_printed rfl, ← hreport] at hq
  exact ⟨k, hq⟩

end Sys2Proof.Machine
end

section
/-! The last row event of a band in a pulse, and the pulse as a command (02 R39 to R50). -/

namespace Sys2Proof.Machine

/-! ## The last row event of a pulse -/

theorem Becomes.reported {ns : List Notice} {u t : State} (h : Becomes u ns t) (g : Segment) (cause : EndCause) (r : Reader) :
    Becomes (u.reported g cause r) ns (t.reported g cause r) :=
  ((((h.readsCut.setRe Raster.cleared).modTally g.tally (Tally.reported cause)).setTr
    (fun _ => { r with reader := .reading, awaitSeg := none })).queueWrite (printedWrite g.addr cause.status))

theorem allCreated_iff (g : Segment) : g.allCreated = true ↔ g.count ≠ 0 ∧ g.created = g.count := by
  simp [Segment.allCreated]

/-- The cause of the segment's end (02 R45, R46). -/
theorem bandEndCause_eq {r : Raster} {g : Segment} (h : r.ending ≠ .none ∨ (g.count ≠ 0 ∧ g.created = g.count)) :
    r.bandEndCause g = if g.count ≠ 0 ∧ g.created = g.count then .ok else if r.ending = .drain then .short
      else if g.count = 0 then .ok else .short := by
  unfold Raster.bandEndCause
  rw [if_congr (allCreated_iff g) rfl rfl]
  refine ite_congr rfl (fun _ => rfl) fun hno => ?_
  have hcause : g.endCause = if g.count = 0 then .ok else .short :=
    if_congr (or_iff_left_of_imp fun hall => by_contra fun hz => hno ⟨hz, hall⟩) rfl rfl
  have hend : r.ending ≠ .none := h.resolve_right hno
  cases hr : r.ending with
  | none => exact absurd hr hend
  | drain => rfl
  | atBoundary | now => exact hcause

section
variable {g : Segment} {c : BandContext} {b : Band} {s : State} (h : s.RowDue g c b) (hn : c.next + 1 = g.bandRows)

include h hn

/-- The last row event is the outcome of any row event, then the end of the band. -/
theorem State.RowDue.last :
    ∃ r v, s.RowRaster c r ∧ Becomes (s.rowDone g c b r) (s.rowNotices c) v ∧ rowEvents s = bandEnd g c v := by
  obtain ⟨r, hr, hstep⟩ := h.step
  exact ⟨r, _, hr, hstep, (rowEvents_of_one (rowsDue_last h.seg h.band h.line hn h.reached)).trans (rowEvent_last h.seg h.band hn)⟩

theorem State.RowDue.last_between (he : s.re.ending = .none) (ha : g.count = 0 ∨ g.created < g.count)
    (hp : s.bt.pos.paper.nm < s.re.printEnd) : ∃ r rs k, s.RowRaster c r ∧
      Becomes { (s.rowDone g c b r).bandLeft (s.rowBand g c b) rs with
        re.raster := .between, re.fullWait := false, tr := s.tr.polling k } (s.rowNotices c) (paperMoved s) := by
  obtain ⟨r, v, hr, hv, hlast⟩ := h.last hn
  obtain ⟨flags, fired, lost, clip, hb⟩ := rowBand_keeps g c b s
  have hnot : ¬g.allCreated = true := fun hall => by
    obtain ⟨hz, heq⟩ := (allCreated_iff g).1 hall
    omega
  obtain ⟨rs, k, hend⟩ := bandEnd_between hv (b := s.rowBand g c b) rfl (by rw [hb]; exact h.number) (by rw [hb]; exact h.state)
    (hr.raster.trans h.raster) (hr.ending.trans he) hnot
  rw [← hlast] at hend
  refine ⟨r, rs, k, hr, ?_⟩
  rw [paperMoved_open hend rfl (by rw [hb]; exact h.mark) (by simp) h.splices (by rw [hb]; exact h.window)]
  refine tryBandStart_becomes hend (hr.seg.trans h.seg) fun hm => ?_
  obtain ⟨-, -, -, -, hreach, -⟩ := (mayStart_iff _ g).1 hm
  have hle : r.printEnd ≤ s.bt.pos.paper.nm := hreach
  rw [hr.printEnd] at hle
  omega

theorem State.RowDue.last_reports {e : Tally} {cause : EndCause} (he : s.re.ending ≠ .none ∨ (g.count ≠ 0 ∧ g.created = g.count))
    (hs : SegmentHeld g e s) (hcause : s.re.bandEndCause g = cause) : ∃ r rs k, s.RowRaster c r ∧
      Becomes (((s.rowDone g c b r).bandLeft (s.rowBand g c b) rs).reported g cause (s.tr.polling k)) (s.rowNotices c) (paperMoved s) := by
  obtain ⟨r, v, hr, hv, hlast⟩ := h.last hn
  obtain ⟨flags, fired, lost, clip, hb⟩ := rowBand_keeps g c b s
  obtain ⟨rs, hleft, hend⟩ := bandEnd_reports hv (b := s.rowBand g c b) rfl (by rw [hb]; exact h.number) (by rw [hb]; exact h.state)
    (hr.raster.trans h.raster) (he.imp (by rw [← hr.ending]; exact id) (allCreated_iff g).2)
  have hheld : SegmentHeld g e (v.bandLeft (s.rowBand g c b) rs) := by
    obtain ⟨hg, hf, hin, hrd, ht, hh⟩ := hs
    refine ⟨(congrArg Raster.seg hleft.re).trans (hr.seg.trans hg), ?_, hin, ?_, ?_, ?_⟩
    · rw [hleft.bt]
      exact hf
    · rw [hleft.tr]
      exact hrd
    · rw [hleft.tr]
      exact ht
    · rw [hleft.tr]
      exact hh
  obtain ⟨k, hrep⟩ := printedReport_becomes (cause := cause)
    ((congrArg Raster.raster hleft.re).trans (hr.raster.trans h.raster)) hheld
  have hrow : (s.rowDone g c b r).re.bandEndCause g = cause := by
    rw [← hcause, Raster.bandEndCause, Raster.bandEndCause, show (s.rowDone g c b r).re.ending = s.re.ending from hr.ending]
  rw [hrow, ← hlast] at hend
  rw [← hend, hleft.tr] at hrep
  have hall := (hleft.reported g cause (s.tr.polling k)).trans hrep
  rw [List.append_nil] at hall
  refine ⟨r, rs, k, hr, ?_⟩
  rw [paperMoved_open hall rfl (by rw [hb]; exact h.mark) (by simp) h.splices (by rw [hb]; exact h.window),
    tryBandStart_idle (congrArg Raster.seg hall.re)]
  exact hall

end

/-! ## RE after the pulse, in the statement's words -/

/-- RE's counters after one row event, with the buffer and the fetcher's place of `r`. -/
def State.rowCounts (c : BandContext) (r : Raster) (s : State) : Raster :=
  { s.re with
    fullWait := false, slots := r.slots, fetchBand := r.fetchBand, fetchRow := r.fetchRow,
    lowWater := if s.rowUsed c ∧ s.re.depth ≤ 2 then min 4294967295 (s.re.lowWater + 1) else s.re.lowWater,
    underruns := if s.rowUnder c then min 4294967295 (s.re.underruns + 1) else s.re.underruns }

section
variable {c : BandContext} {s : State} {r r' : Raster} (h : s.RowRaster c r) (hs : r'.slots = r.slots)
  (hb : r'.fetchBand = r.fetchBand) (hr : r'.fetchRow = r.fetchRow)
include h

include hb hr in
theorem State.RowRaster.place (hd : c.kind = .void ∨ c.blank = true) : r'.fetchBand = s.re.fetchBand ∧ r'.fetchRow = s.re.fetchRow := by
  obtain ⟨-, hdark, -⟩ := h
  obtain ⟨-, hband, hrow⟩ := hdark hd
  exact ⟨hb.trans hband, hr.trans hrow⟩

include hs in
theorem State.RowRaster.buffer : (c.kind = .void ∨ c.blank = true → r'.slots = s.re.slots) ∧
    (s.rowUsed c → ∃ more, r'.slots = s.re.slots.tail ++ more ∧ ∀ x ∈ more, x.complete = false) ∧
    (s.rowUnder c → ∃ more, r'.slots = s.re.slots.filter (fun x => x.band ≠ c.index) ++ more ∧
      ∀ x ∈ more, x.complete = false ∧ c.index < x.band) := by
  obtain ⟨-, hdark, hused, hunder⟩ := h
  rw [hs]
  exact ⟨fun hd => (hdark hd).1, hused, hunder⟩

include hs hb hr in
theorem State.RowRaster.printing_eq : { r with fullWait := false } =
    { s.rowCounts c r' with band := some { c with next := c.next + 1, blank := c.blank || decide (s.rowUnder c) } } := by
  rw [State.rowCounts, hs, hb, hr]
  exact congrArg (fun x : Raster => { x with fullWait := false }) h.1

include hs hb hr in
theorem State.RowRaster.between_eq : { r with raster := .between, band := none, fullWait := false } =
    { s.rowCounts c r' with raster := .between, band := none } := by
  rw [State.rowCounts, hs, hb, hr]
  exact congrArg (fun x : Raster => { x with raster := .between, band := none, fullWait := false }) h.1

include hb hr in
theorem State.RowRaster.cleared_eq : r.cleared = (s.rowCounts c r').cleared := by
  rw [State.rowCounts, hb, hr]
  exact (congrArg Raster.cleared h.1).trans rfl

end

/-- The report of the segment at its last row event, as `PrintedReport` says it. -/
theorem printedReport_of_becomes {g : Segment} {c : BandContext} {b : Band} {cause : EndCause} {o : List Output} {rs : List Transfer}
    {k : Nat} {e : Tally} {r : Raster} {ns : List Notice} {s t : State} (hs : SegmentHeld g e s) (hr : s.RowRaster c r)
    (h : Becomes (((s.rowEffect b o r).bandLeft b rs).reported g cause (s.tr.polling k)) ns t) :
    PrintedReport g cause [{ b with state := .travelling }] { s with re := s.rowCounts c t.re } t := by
  obtain ⟨m, n, hpoll⟩ := polling_eq k s.tr
  obtain ⟨-, -, -, -, hticket, hhalt⟩ := hs
  have hre := hr.cleared_eq (r' := t.re) ((congrArg Raster.fetchBand h.re).trans rfl) ((congrArg Raster.fetchRow h.re).trans rfl)
  have htr : t.tr = { s.tr.polling k with reader := .reading, awaitSeg := none } := h.tr
  rw [hpoll] at htr
  refine ⟨h.re.trans hre, h.bt, ?_, ?_, ?_, ?_, ?_, ?_, ?_, h.copies, ?_⟩
  any_goals rw [htr]
  · exact hticket
  · exact hhalt
  · rw [h.ticketReads]
    simp [State.ticketReads, State.reported, Port.readsCut]
  · rw [h.writes]
    cases cause <;> rfl

/-! ## The pulse -/

/-- The state in which a forward pulse of the paper encoder finds what P has reached. -/
@[reducible] def State.pulsed (l : Lines) (s : State) : State :=
  { sampleLines l s with
    dc.silence := encPut s.dc.silence .paper 0,
    bt.pos := { s.bt.pos with paper := s.bt.pos.paper.advance s.cfg.scale.paper }, out := [] }

theorem exec_paperPulse {s : State} (hp : s.pins.powerGood = true) (l : Lines) :
    exec (.encoderPulse .paper true l) s = .next (kick (paperMoved (s.pulsed l))) := congrArg _ (commandAt_eq hp l _)

/-- A pulse whose movement brings this state, and the arbiter's part. -/
theorem paperPulse_becomes {l : Lines} {s w : State} {ns : List Notice} (hp : s.pins.powerGood = true)
    (h : Becomes w ns (paperMoved (s.pulsed l))) : ∃ t, exec (.encoderPulse .paper true l) s = .next t ∧ Becomes w ns t := by
  refine ⟨_, exec_paperPulse hp l, ?_⟩
  have hk := h.trans (kick_becomes _)
  rwa [List.append_nil] at hk

end Sys2Proof.Machine
end

section
namespace Sys2Proof.Proofs

open Sys2Proof.Machine

/-- Settles O22: the row events of the pulse are `RowDue.one`, `RowDue.two_…`, `RowDue.last_between` and `RowDue.last_reports`. -/
theorem rowEvents : Obligations.RowEvents := by
  intro l g c b s hp hr hg hc ht hn hm hst hs hl pos ready u prof blank full clip row c1 under used after sent ns counts buffer still hx hw
  have h : (s.pulsed l).RowDue g c b :=
    { raster := hr, seg := hg, band := hc, track := ht, number := hn, mark := hm, state := hst, splices := hs, line := hl
      reached := hx, window := hw }
  refine ⟨?_, ?_, ?_, ?_⟩
  · intro hmore hy
    obtain ⟨r, hrow, hone⟩ := h.one hmore hy
    obtain ⟨t, hexec, hb⟩ := paperPulse_becomes hp hone
    have hslots : t.re.slots = r.slots := (congrArg Raster.slots hb.re).trans rfl
    have hband : t.re.fetchBand = r.fetchBand := (congrArg Raster.fetchBand hb.re).trans rfl
    have hfrow : t.re.fetchRow = r.fetchRow := (congrArg Raster.fetchRow hb.re).trans rfl
    exact ⟨t, hexec, hb.after (frame_of_blocks (hre := .inl (by decide)) (hbt := .inl (by decide))),
      ⟨hb.writes, hb.copies, hb.ticketReads⟩, hb.out, hb.bt, hrow.buffer hslots, hrow.place hband hfrow, hb.re.trans (hrow.printing_eq hslots hband hfrow)⟩
  · intro hk hmore hx1 hy two
    have htwo : ∀ {b' o ns dark low}, (s.pulsed l).TwoRows g c b' o ns dark low → two b' o ns dark low :=
        fun ⟨r, hfacts, hmoved⟩ => by
      obtain ⟨t, hexec, hb⟩ := paperPulse_becomes hp hmoved
      have hre : t.re = r := hb.re
      exact ⟨t, hexec, hb.after (frame_of_blocks (hre := .inl (by decide)) (hbt := .inl (by decide))),
        ⟨hb.writes, hb.copies, hb.ticketReads⟩, hb.out, hb.bt, hre ▸ hfacts⟩
    refine ⟨fun hd => htwo (h.two_blank hk hmore hx1 hy hd), fun hd h0 => htwo (h.two_underrun hk hmore hx1 hy hd h0), fun hd h1 => ?_,
      fun x y more hd hxy hcx hcy => ?_⟩
    · exact (h.two_lastRow hk hmore hx1 hy hd h1).imp (fun hrow hready => htwo (hrow hready)) (fun hrow hno => htwo (hrow hno))
    · exact (h.two_used hk hmore hx1 hy hd hxy hcx hcy).imp (fun hrow hready => htwo (hrow hready)) (fun hrow hno => htwo (hrow hno))
  · intro hlast he ha hend
    obtain ⟨r, rs, k, hrow, hmoved⟩ := h.last_between hlast he ha hend
    obtain ⟨t, hexec, hb⟩ := paperPulse_becomes hp hmoved
    have hslots : t.re.slots = r.slots := (congrArg Raster.slots hb.re).trans rfl
    have hband : t.re.fetchBand = r.fetchBand := (congrArg Raster.fetchBand hb.re).trans rfl
    have hfrow : t.re.fetchRow = r.fetchRow := (congrArg Raster.fetchRow hb.re).trans rfl
    exact ⟨t, hexec, hb.after (frame_of_blocks (htr := .inl (by decide)) (hre := .inl (by decide)) (hbt := .inl (by decide))),
      hb.out, hb.bt, hrow.buffer hslots, hrow.place hband hfrow, hb.re.trans (hrow.between_eq hslots hband hfrow),
      (congrArg Reader.pollRunning hb.tr).trans (polling_running k _)⟩
  · intro e hlast he hheld cause
    obtain ⟨r, rs, k, hrow, hmoved⟩ := h.last_reports (e := e) (cause := cause) hlast he hheld (bandEndCause_eq he)
    obtain ⟨t, hexec, hb⟩ := paperPulse_becomes hp hmoved
    exact ⟨t, hexec, hb.after (frame_of_blocks (htr := .inl (by decide)) (hre := .inl (by decide)) (hbt := .inl (by decide))),
      hb.out, hrow.place ((congrArg Raster.fetchBand hb.re).trans rfl) ((congrArg Raster.fetchRow hb.re).trans rfl),
      printedReport_of_becomes (s := s.pulsed l) hheld hrow hb⟩

end Sys2Proof.Proofs
end

section
/-! The pixel pipeline's last two stages: the ink limit (03 R60) and the drop level (03 R61). -/

namespace Sys2Proof.Machine

/-! ## Stage 4, the ink limit (03 R60) -/

theorem limitInk_of_lt {limit : Nat} {u : Ink Nat} (h : limit < inkSum u) :
    limitInk limit u = u.map (fun x => x * limit / inkSum u) := if_pos h

theorem limitInk_of_le {limit : Nat} {u : Ink Nat} (h : inkSum u ≤ limit) : limitInk limit u = u := if_neg (Nat.not_lt.mpr h)

/-- The floors of the four scaled channels lose, and never gain, against the floor of their sum, which is the limit itself. -/
theorem inkSum_scaled_le {limit : Nat} {u : Ink Nat} (h : limit < inkSum u) :
    inkSum (u.map (fun x => x * limit / inkSum u)) ≤ limit := by
  have hpos : 0 < inkSum u := Nat.zero_lt_of_lt h
  calc u.c * limit / inkSum u + u.m * limit / inkSum u + u.y * limit / inkSum u + u.k * limit / inkSum u
      ≤ (u.c * limit + u.m * limit) / inkSum u + u.y * limit / inkSum u + u.k * limit / inkSum u := by
        gcongr; exact Nat.div_add_div_le_add_div ..
    _ ≤ (u.c * limit + u.m * limit + u.y * limit) / inkSum u + u.k * limit / inkSum u := by
        gcongr; exact Nat.div_add_div_le_add_div ..
    _ ≤ (u.c * limit + u.m * limit + u.y * limit + u.k * limit) / inkSum u := Nat.div_add_div_le_add_div ..
    _ = inkSum u * limit / inkSum u := by simp only [inkSum, Nat.add_mul]
    _ = limit := Nat.mul_div_cancel_left limit hpos

theorem inkSum_limitInk_le (limit : Nat) (u : Ink Nat) : inkSum (limitInk limit u) ≤ limit := by
  rcases Nat.lt_or_ge limit (inkSum u) with h | h
  · rw [limitInk_of_lt h]
    exact inkSum_scaled_le h
  · rwa [limitInk_of_le h]

theorem scaled_le {limit total : Nat} (h : limit < total) (x : Nat) : x * limit / total ≤ x :=
  Nat.div_le_of_le_mul (by rw [Nat.mul_comm total]; exact Nat.mul_le_mul_left x h.le)

theorem limitInk_le (limit : Nat) (u : Ink Nat) :
    (limitInk limit u).c ≤ u.c ∧ (limitInk limit u).m ≤ u.m ∧ (limitInk limit u).y ≤ u.y ∧ (limitInk limit u).k ≤ u.k := by
  rcases Nat.lt_or_ge limit (inkSum u) with h | h
  · rw [limitInk_of_lt h]
    exact ⟨scaled_le h _, scaled_le h _, scaled_le h _, scaled_le h _⟩
  · rw [limitInk_of_le h]
    exact ⟨Nat.le_refl _, Nat.le_refl _, Nat.le_refl _, Nat.le_refl _⟩

theorem inkSum_inkOf_le (p : Profile) (g : Nat) (x : Ink Nat) : inkSum (inkOf p g x) ≤ p.limit := inkSum_limitInk_le _ _

/-! ## Stage 5, the drop level (03 R61) -/

theorem dither_le (row col : Nat) : dither row col ≤ 15 := by
  have hrow : row % 4 < 4 := Nat.mod_lt _ (by decide)
  have hcol : col % 4 < 4 := Nat.mod_lt _ (by decide)
  have hall : ∀ i < 4, ∀ j < 4, (ditherMatrix.getD i []).getD j 0 ≤ 15 := by decide
  exact hall _ hrow _ hcol

/-- The largest threshold t of R61, 3968, is below one step of the level, 4096. -/
theorem dropLevel_zero (row col : Nat) : dropLevel row col 0 = 0 := by
  have hd := dither_le row col
  unfold dropLevel
  omega

/-- The full ink value falls 3 short of three steps of the level, less than the smallest threshold, 128. -/
theorem dropLevel_full (row col : Nat) : dropLevel row col 4095 = 3 := by
  unfold dropLevel
  omega

theorem dropLevel_le (row col u : Nat) : dropLevel row col u ≤ 3 := Nat.min_le_left _ _

theorem dropLevel_mono (row col : Nat) {u w : Nat} (h : u ≤ w) : dropLevel row col u ≤ dropLevel row col w := by
  unfold dropLevel
  gcongr

end Sys2Proof.Machine
end

section
namespace Sys2Proof.Proofs

open Sys2Proof.Machine

/-- Settles O55: the sum bound is `inkSum_limitInk_le`, the ends of the level's range are `dropLevel_zero` and `dropLevel_full`. -/
theorem inkLimitLaw : Obligations.InkLimitLaw := by
  refine ⟨fun limit u => ?_, fun row col u => rfl,
    fun row col u w => ⟨dropLevel_le row col u, dropLevel_zero row col, dropLevel_full row col, dropLevel_mono row col⟩,
    fun p g row col x => ⟨rfl, inkSum_inkOf_le p g x⟩⟩
  obtain ⟨hc, hm, hy, hk⟩ := limitInk_le limit u
  refine ⟨limitInk_of_lt, limitInk_of_le, inkSum_limitInk_le limit u, hc, hm, hy, hk, fun uc um uy uk => ?_⟩
  have hsum : inkSum u ≤ 16380 := by
    unfold inkSum
    omega
  exact ⟨hsum, fun hlimit => limitInk_of_le (hlimit ▸ hsum)⟩

end Sys2Proof.Proofs
end

section
/-! The band-start computation: dwell, mean target, predicted dose and compensation factor (03 R63 to R66). -/

namespace Sys2Proof.Machine

/-! ## The floored quotients: dwell and mean target (03 R63, R64) -/

theorem floor_bounds (n : Nat) {d : Nat} (h : 0 < d) : n / d * d ≤ n ∧ n < (n / d + 1) * d :=
  ⟨Nat.div_mul_le_self n d, Nat.lt_mul_of_div_lt (Nat.lt_succ_self _) h⟩

theorem dwell_range {w v : Nat} (hw : 800 ≤ w) (hw' : w ≤ 3000) (hv : 50 ≤ v) (hv' : v ≤ 1000) : 80 ≤ dwell w v ∧ dwell w v ≤ 6000 := by
  have hpos : 0 < v := by omega
  constructor
  · exact (Nat.le_div_iff_mul_le hpos).mpr (by omega)
  · exact Nat.div_le_of_le_mul (by omega)

/-- The zones whose targets enter the mean (05 R86). -/
@[reducible] def enabledZones (zones : Oct Zone) : List Zone := zones.toList.filter Zone.enabled

theorem meanTarget_of_nil {zones : Oct Zone} (h : enabledZones zones = []) : meanTarget zones = none := by
  simp [meanTarget, h]

theorem meanTarget_of_ne_nil {zones : Oct Zone} (h : enabledZones zones ≠ []) :
    meanTarget zones = some (((enabledZones zones).map Zone.target).sum / (enabledZones zones).length) := by
  simp [meanTarget, h]

theorem mean_le_of_target_le {on : List Zone} {top : Nat} (h : ∀ z ∈ on, z.target ≤ top) :
    (on.map Zone.target).sum / on.length ≤ top := by
  have hsum : (on.map Zone.target).sum ≤ (on.map Zone.target).length • top :=
    List.sum_le_card_nsmul _ _ (List.forall_mem_map.mpr h)
  rw [List.length_map, smul_eq_mul] at hsum
  exact Nat.div_le_of_le_mul hsum

/-! ## The predicted dose (03 R64, R65) -/

theorem predictedDose_of_none {zones : Oct Zone} (h : meanTarget zones = none) (ton w v : Nat) : predictedDose zones ton w v = 0 := by
  rw [predictedDose, h]

theorem predictedDose_of_some {zones : Oct Zone} {tm : Nat} (h : meanTarget zones = some tm) (ton w v : Nat) :
    predictedDose zones ton w v = (tm - ton) * dwell w v := by
  rw [predictedDose, h]

/-- The onset excess, a natural subtraction in the model, is max(0, Tm − Ton). -/
theorem predictedDose_of_some_int {zones : Oct Zone} {tm : Nat} (h : meanTarget zones = some tm) (ton w v : Nat) :
    (predictedDose zones ton w v : Int) = max 0 ((tm : Int) - ton) * dwell w v := by
  have hexcess : ((tm - ton : Nat) : Int) = max 0 ((tm : Int) - ton) := by omega
  rw [predictedDose_of_some h, Nat.cast_mul, hexcess]

/-- The largest dose: 2300 − 1200 over the longest dwell. -/
theorem predictedDose_le {zones : Oct Zone} {ton w v : Nat} (hz : ∀ z ∈ zones.toList, z.target ≤ 2300) (ht : 1200 ≤ ton)
    (hd : dwell w v ≤ 6000) : predictedDose zones ton w v ≤ 6600000 := by
  by_cases hon : enabledZones zones = []
  · rw [predictedDose_of_none (meanTarget_of_nil hon)]
    omega
  · have hmean := mean_le_of_target_le (on := enabledZones zones) fun z h => hz z (List.mem_of_mem_filter h)
    rw [predictedDose_of_some (meanTarget_of_ne_nil hon)]
    calc (_ - ton) * dwell w v ≤ 1100 * 6000 := Nat.mul_le_mul (by omega) hd
      _ = 6600000 := rfl

/-! ## The compensation factor (03 R66) -/

theorem coe_toNat_clampZ {lo : Int} (h : 0 ≤ lo) (x hi : Int) : ((clampZ x lo hi).toNat : Int) = max lo (min x hi) :=
  Int.toNat_of_nonneg (le_max_of_le_left h)

theorem clampZ_mono {x y : Int} (h : x ≤ y) (lo hi : Int) : clampZ x lo hi ≤ clampZ y lo hi :=
  max_le_max_left lo (min_le_min_right hi h)

theorem correction_eq_fdiv (yield dref dpred : Nat) : correction yield dref dpred = Int.fdiv (yield * ((dref : Int) - dpred)) dref :=
  (Int.fdiv_eq_ediv_of_nonneg _ (Int.natCast_nonneg dref)).symm

theorem correction_antitone (yield : Nat) {dref d d' : Nat} (hpos : 0 < dref) (h : d ≤ d') :
    correction yield dref d' ≤ correction yield dref d :=
  Int.ediv_le_ediv (by omega) (Int.mul_le_mul_of_nonneg_left (by omega) (Int.natCast_nonneg yield))

theorem compensation_eq (yield dref dpred : Nat) (tau : Int) : (compensation yield dref dpred tau : Int) =
    max 768 (min (1024 + Int.fdiv (yield * ((dref : Int) - dpred)) dref + tau) 1280) := by
  rw [compensation, coe_toNat_clampZ (by decide), correction_eq_fdiv]

theorem compensation_antitone (yield : Nat) {dref d d' : Nat} (tau : Int) (hpos : 0 < dref) (h : d ≤ d') :
    compensation yield dref d' tau ≤ compensation yield dref d tau := by
  have hc := correction_antitone yield hpos h
  exact Int.toNat_le_toNat (clampZ_mono (by omega) 768 1280)

/-! ## The band's products of the computation (02 R37, 03 R68) -/

theorem Oct.get_map {α β : Type} (f : α → β) (o : Oct α) (i : Fin 8) : (o.map f).get i = f (o.get i) := by
  fin_cases i <;> rfl

theorem formBand_zones_get (s : State) (g : Segment) (i : Fin 8) : (s.formBand g).zones.get i = (s.hc.zones.get i).enabled :=
  Oct.get_map Zone.enabled s.hc.zones i

end Sys2Proof.Machine
end

section
namespace Sys2Proof.Proofs

open Sys2Proof.Machine

/-- Settles O56: the mean by whether a zone is enabled, the factor by `compensation_eq` and `compensation_antitone`. -/
theorem compensation : Obligations.Compensation := by
  refine ⟨fun w v hv => floor_bounds (w * 100) hv, fun w v hw hw' hv hv' => dwell_range hw hw' hv hv', fun zones ton w v => ?_,
    fun s g => ⟨formBand_zones_get s g, rfl, rfl, rfl, fun _ => compensation_eq ..⟩,
    fun y dref d d' tau hpos h => compensation_antitone y tau hpos h⟩
  refine ⟨fun hoff => ?_, fun hon => ?_, fun hz ht hw hw' hv hv' => predictedDose_le hz ht (dwell_range hw hw' hv hv').2⟩
  · have hmean : meanTarget zones = none := meanTarget_of_nil hoff
    exact ⟨hmean, predictedDose_of_none hmean ton w v⟩
  · have hmean := meanTarget_of_ne_nil hon
    obtain ⟨hle, hlt⟩ := floor_bounds ((enabledZones zones).map Zone.target).sum (List.length_pos_iff.mpr hon)
    exact ⟨_, hmean, hle, hlt, predictedDose_of_some_int hmean ton w v⟩

end Sys2Proof.Proofs
end

section
/-! What every operation of the part keeps of the laws on values (04 R81, 03 R66, 00) and of the port law's progress block part (10 R187,
log entry 35): the relation, and the operations every block uses. -/

namespace Sys2Proof.Machine

/-! ## The relation -/

/-- The part of the port law that looks at client 3's queue (10 R187, log entry 35). -/
def ProgressLaw (s : State) : Prop := s.smp.progUsable = false → ∀ x ∈ s.smp.reads, x.isPendingProgress = false

/-- The part of the port law that looks at the bus (10 R185). -/
def BusLaw (s : State) : Prop := s.smp.grant = none → ∀ c, s.leftOf c = 0

theorem progUsable_eq_false_iff (p : Port) : p.progUsable = false ↔ p.progBase = 0 ∨ 4294967295 < p.progBase.toNat + 127 := by
  rw [Port.progUsable, Bool.and_eq_false_iff, bne_eq_false_iff_eq, decide_eq_false_iff_not, not_le]
  rfl

theorem isPendingProgress_eq_false_iff (x : Transfer) : x.isPendingProgress = false ↔ (x.kind = .progress → x.words ≠ []) := by
  rw [Transfer.isPendingProgress, Bool.and_eq_false_iff, Transfer.isProgress, beq_eq_false_iff_ne, List.isEmpty_eq_false_iff,
    imp_iff_not_or]

theorem portLaw_iff (s : State) : PortLaw s ↔ BusLaw s ∧ ProgressLaw s := by
  simp only [PortLaw, BusLaw, ProgressLaw, progUsable_eq_false_iff, isPendingProgress_eq_false_iff]

/-- From `s` to `t` each law on values and the progress block part of the port law is kept. What the arbiter owes, `BusLaw`, holds only
once a command has closed. -/
structure LawsKept (s t : State) : Prop where
  trim : TrimLaw s → TrimLaw t
  comp : CompensationLaw s → CompensationLaw t
  cap : CapacityLaw s → CapacityLaw t
  progress : ProgressLaw s → ProgressLaw t

theorem LawsKept.refl (s : State) : LawsKept s s := ⟨id, id, id, id⟩

theorem LawsKept.trans {s u t : State} (h : LawsKept s u) (k : LawsKept u t) : LawsKept s t :=
  ⟨k.trim ∘ h.trim, k.comp ∘ h.comp, k.cap ∘ h.cap, k.progress ∘ h.progress⟩

section
variable {s u t : State} (h : LawsKept s u)

include h

/-- What the laws speak of is the same. -/
theorem LawsKept.same (he : (t.ps.slots, t.bt.track, t.bt.splices, t.re.slots, t.cv.list, t.smp.progBase, t.smp.reads) =
    (u.ps.slots, u.bt.track, u.bt.splices, u.re.slots, u.cv.list, u.smp.progBase, u.smp.reads)) : LawsKept s t := by
  simp only [Prod.mk.injEq] at he
  obtain ⟨h1, h2, h3, h4, h5, h6, h7⟩ := he
  refine h.trans ⟨?_, ?_, ?_, ?_⟩
  · rw [TrimLaw, TrimLaw, h1]
    exact id
  · rw [CompensationLaw, CompensationLaw, h2]
    exact id
  · rw [CapacityLaw, CapacityLaw, h2, h3, h4, h5]
    exact id
  · rw [ProgressLaw, ProgressLaw, Port.progUsable, Port.progUsable, h6, h7]
    exact id

/-- A shorter track, with compensation factors that were in it. -/
theorem LawsKept.setTrack {l : List Band} (hl : l.length ≤ u.bt.track.length) (hg : ∀ b ∈ l, ∃ c ∈ u.bt.track, b.g = c.g) :
    LawsKept s { u with bt.track := l } := by
  refine h.trans ⟨id, fun hlaw b hb => ?_, fun ⟨h1, h2⟩ => ⟨hl.trans h1, h2⟩, id⟩
  obtain ⟨c, hc, he⟩ := hg b hb
  rw [he]
  exact hlaw c hc

theorem LawsKept.setSplices {l : List Nat} (hl : l.length ≤ u.bt.splices.length) : LawsKept s { u with bt.splices := l } :=
  h.trans ⟨id, id, fun ⟨h1, h2, h3⟩ => ⟨h1, hl.trans h2, h3⟩, id⟩

theorem LawsKept.setRows {l : List RowSlot} (hl : l.length ≤ u.re.slots.length) : LawsKept s { u with re.slots := l } :=
  h.trans ⟨id, id, fun ⟨h1, h2, h3, h4⟩ => ⟨h1, h2, hl.trans h3, h4⟩, id⟩

theorem LawsKept.setTriggers {l : List Trigger} (hl : l.length ≤ u.cv.list.length) : LawsKept s { u with cv.list := l } :=
  h.trans ⟨id, id, fun ⟨h1, h2, h3, h4⟩ => ⟨h1, h2, h3, hl.trans h4⟩, id⟩

/-- Client 3's queue has a pending progress block write only where it had one. -/
theorem LawsKept.setReads {l : List Transfer}
    (hl : ∀ x ∈ l, x.isPendingProgress = true → ∃ y ∈ u.smp.reads, y.isPendingProgress = true) :
    LawsKept s { u with smp.reads := l } := by
  refine h.trans ⟨id, id, id, fun hlaw hbad x hx => Bool.eq_false_iff.2 fun hp => ?_⟩
  obtain ⟨y, hy, hpy⟩ := hl x hx hp
  exact Bool.false_ne_true ((hlaw hbad y hy).symm.trans hpy)

/-- A map over the track that keeps every compensation factor. -/
theorem LawsKept.modTrack {f : Band → Band} (hf : ∀ b, (f b).g = b.g) : LawsKept s (modTrack f u) :=
  h.setTrack (List.length_map _).le fun b hb => by
    obtain ⟨c, hc, rfl⟩ := List.mem_map.1 hb
    exact ⟨c, hc, hf c⟩

theorem LawsKept.modBand {n : Nat} {f : Band → Band} (hf : ∀ b, (f b).g = b.g) : LawsKept s (modBand n f u) :=
  h.modTrack (f := fun b => if b.number = n then f b else b) fun b => by
    split
    · exact hf b
    · rfl

theorem LawsKept.modTally (id : Nat) (f : Tally → Tally) : LawsKept s (modTally id f u) := (h.same (by rfl))

theorem LawsKept.ite {c : Prop} {_ : Decidable c} (k : LawsKept s t) : LawsKept s (if c then u else t) := by
  split
  · exact h
  · exact k

theorem LawsKept.times {f : State → State} (hf : ∀ {u}, LawsKept s u → LawsKept s (f u)) (n : Nat) : LawsKept s (times n f u) := by
  induction n generalizing u with
  | zero => exact h
  | succ n ih => exact ih (hf h)

theorem LawsKept.foldl {β : Type} {f : State → β → State} (hf : ∀ {u} b, LawsKept s u → LawsKept s (f u b)) (l : List β) :
    LawsKept s (l.foldl f u) := by
  induction l generalizing u with
  | nil => exact h
  | cons b l ih => exact ih (hf b h)

/-! ## Notices, outputs, queues -/

theorem LawsKept.raise (n : Notice) : LawsKept s (raise n u) := (h.same (by rfl))
theorem LawsKept.raiseIf (c : Bool) (n : Notice) : LawsKept s (raiseIf c n u) := (h.raise n).ite h
theorem LawsKept.emit (o : Output) : LawsKept s (emit o u) := (h.same (by rfl))
theorem LawsKept.sampleLines (l : Lines) : LawsKept s (sampleLines l u) := (h.same (by rfl))
theorem LawsKept.queueWrite (x : Transfer) : LawsKept s (queueWrite x u) := (h.same (by rfl))
theorem LawsKept.queueCopy (x : Transfer) : LawsKept s (queueCopy x u) := (h.same (by rfl))
theorem LawsKept.idleCounts : LawsKept s (idleCounts u) := (h.same (by rfl))

theorem LawsKept.queueRead {x : Transfer} (hx : x.isPendingProgress = false) : LawsKept s (queueRead x u) :=
  h.setReads fun y hy hp => by
    rcases List.mem_append.1 hy with hy | hy
    · exact ⟨y, hy, hp⟩
    · rw [List.mem_singleton.1 hy, hx] at hp
      exact absurd hp Bool.false_ne_true

/-- A request is dropped while PROGBASE names no block, so that none is pending then (10 R187). -/
theorem LawsKept.requestProgress : LawsKept s (requestProgress u) := by
  unfold Machine.requestProgress
  split
  · exact (h.same (by rfl))
  · next husable =>
    split
    · exact h
    · exact h.trans ⟨id, id, id, fun _ hbad => absurd (congrArg not hbad) husable⟩

theorem LawsKept.queueHeader (addr : Nat) (w : HeaderWrite) : LawsKept s (queueHeader addr w u) := (h.same (by rfl)).ite (h.queueWrite _)

end

end Sys2Proof.Machine
end

section
/-! The laws on values over the Ticket Reader's and the Band Tracker's operations. -/

namespace Sys2Proof.Machine

@[simp] theorem flagIf_g (c : Bool) (f : Flag) (b : Band) : (b.flagIf c f).g = b.g := by cases c <;> rfl

@[simp] theorem doseCheck_g (b : Band) : (doseCheck b).g = b.g := by
  unfold doseCheck
  split <;> simp

section
variable {s u : State} (h : LawsKept s u)

include h

/-! ## Reader (09) -/

theorem LawsKept.setReader (r : ReaderState) : LawsKept s (setReader r u) := (h.same (by rfl))
theorem LawsKept.enterIdle : LawsKept s (enterIdle u) := (h.same (by rfl))
theorem LawsKept.pollStop : LawsKept s (pollStop u) := (h.same (by rfl))
theorem LawsKept.pollStart : LawsKept s (pollStart u) := h.ite (h.same (by rfl))

theorem LawsKept.issueRead : LawsKept s (issueRead u) := by
  unfold Machine.issueRead
  cases u.tr.step with
  | header | link => exact h.queueRead rfl

theorem LawsKept.trContinue : LawsKept s (trContinue u) := (h.enterIdle.ite h.issueRead).ite h

theorem LawsKept.readerLook : LawsKept s (readerLook u) := by
  unfold Machine.readerLook
  cases u.tr.reader with
  | waiting | holding => exact h.issueRead.ite h
  | idle | reading | executing | paused | stalled => exact h

theorem LawsKept.dropGrant (c : Client) (t : Bool) : LawsKept s (dropGrant c t u) := by
  unfold Machine.dropGrant
  cases u.smp.grant with
  | none => exact h
  | some g => exact (h.same (by rfl)).ite h

theorem LawsKept.abandonTicketRead : LawsKept s (abandonTicketRead u) :=
  ((h.dropGrant _ _).setReads fun x hx hp => ⟨x, List.mem_of_mem_filter hx, hp⟩).idleCounts

theorem LawsKept.leaveHolding (addr : Nat) : LawsKept s (leaveHolding addr u) := by
  unfold Machine.leaveHolding
  cases u.tr.reader with
  | holding =>
    have h1 : LawsKept s (Machine.abandonTicketRead { u with tr.ticket := none }) := (h.same (by rfl)).abandonTicketRead
    exact (h.same (by rfl)).ite (h1.enterIdle.ite (h1.same (by rfl)))
  | stalled => exact h.enterIdle.ite h
  | idle | reading | waiting | executing | paused => exact h

theorem LawsKept.queueSegmentHeader (addr : Nat) (notify : Bool) (st : TicketState) (status : Status) :
    LawsKept s (queueSegmentHeader addr notify st status u) := LawsKept.queueHeader ((h.same (by rfl)).ite h) _ _

theorem LawsKept.finishTicket (st : TicketState) (status : Status) (d : Nat) : LawsKept s (finishTicket st status d u) := by
  unfold Machine.finishTicket
  cases u.tr.ticket with
  | none => exact h
  | some t => exact (h.same (by rfl)).queueHeader _ _

theorem LawsKept.refuseTicket (notify : Bool) (status : Status) (d : Nat) : LawsKept s (refuseTicket notify status d u) :=
  (h.same (by rfl)).queueHeader _ _

/-! ## Finalisation and retirement (01 R17 to R22) -/

theorem LawsKept.autoCount : LawsKept s (autoCount u) := by
  rw [autoCount_eq]
  exact (h.same (by rfl))

theorem LawsKept.signalFinal (e : Tally) : LawsKept s (signalFinal e u) := (h.same (by rfl)).autoCount.queueSegmentHeader _ _ _ _

theorem LawsKept.queueCounts (why : CountsFor) (e : Tally) : LawsKept s (queueCounts why e u) := (h.queueWrite _).modTally _ _

theorem LawsKept.finalise (id : Nat) : LawsKept s (finalise id u) := by
  unfold Machine.finalise
  cases u.tallyOf id with
  | none => exact h
  | some e => exact h.ite (((h.modTally _ _).queueCounts _ _).ite (h.signalFinal e))

theorem LawsKept.finaliseIfDone (id : Nat) : LawsKept s (finaliseIfDone id u) := by
  unfold Machine.finaliseIfDone
  cases u.tallyOf id with
  | none => exact h
  | some e => exact (h.finalise id).ite h

theorem LawsKept.startCounts (id : Nat) : LawsKept s (startCounts id u) := by
  unfold Machine.startCounts
  cases u.tallyOf id with
  | none => exact (h.same (by rfl))
  | some e => exact ((h.queueCounts _ e).same (by rfl))

theorem LawsKept.startRecord (b : Band) : LawsKept s (startRecord b u) := by
  unfold Machine.startRecord
  cases u.tallyOf b.tally with
  | none => exact h.startCounts _
  | some e => exact ((h.queueWrite _).same (by rfl)).ite ((h.modTally _ _).startCounts _)

theorem LawsKept.startRetirement : LawsKept s (startRetirement u) := by
  unfold Machine.startRetirement
  cases ht : u.bt.track with
  | nil => exact h
  | cons b rest =>
    refine LawsKept.ite (LawsKept.startRecord (LawsKept.modTally (h.setTrack (by simp [ht]) fun c hc => ?_) _ _) _) h
    rw [ht]
    rcases List.mem_cons.1 hc with rfl | hc
    · exact ⟨b, List.mem_cons_self, rfl⟩
    · exact ⟨c, List.mem_cons_of_mem b hc, rfl⟩

theorem LawsKept.recordEnded (ok : Bool) : LawsKept s (recordEnded ok u) := by
  unfold Machine.recordEnded
  cases u.bt.track with
  | nil => exact h
  | cons b rest => exact (h.modTally _ _).startCounts _

theorem LawsKept.removeHead : LawsKept s (removeHead u) := by
  unfold Machine.removeHead
  cases ht : u.bt.track with
  | nil => exact (h.same (by rfl))
  | cons b rest =>
    have h1 : LawsKept s { u with bt.track := rest } :=
      h.setTrack (by simp [ht]) fun c hc => ⟨c, by rw [ht]; exact List.mem_cons_of_mem b hc, rfl⟩
    exact (((h1.same (by rfl))).modTally _ _).requestProgress

theorem LawsKept.exposeDrum : LawsKept s (exposeDrum u) := h.modTrack fun b => flagIf_g _ _ b

/-! ## Splices and position events (01 R7 to R16) -/

/-- A fifth splice is lost (01 R14). -/
theorem LawsKept.splicePulse : LawsKept s (splicePulse u) := by
  refine LawsKept.modTrack (h.trans ?_) fun b => flagIf_g _ _ b
  split
  · next hroom =>
    exact ⟨id, id, fun ⟨h1, _, h3, h4⟩ => ⟨h1, (List.length_append ..).trans_le hroom, h3, h4⟩, id⟩
  · exact ((LawsKept.refl u).same (by rfl))

theorem LawsKept.removeSplices : LawsKept s (removeSplices u) :=
  have hle : (u.bt.splices.dropWhile u.spliceDue).length ≤ u.bt.splices.length := List.length_dropWhile_le _ _
  ((h.setSplices hle).same (by rfl)).ite (h.setSplices hle)

theorem LawsKept.endPrinting (n : Nat) : LawsKept s (endPrinting n u) := h.modBand fun b => by split <;> rfl

theorem LawsKept.nipEvent (n : Nat) : LawsKept s (nipEvent n u) := h.modBand fun b => by
  split
  · split <;> simp
  · rfl

theorem LawsKept.exitEvent (n : Nat) : LawsKept s (exitEvent n u) := h.modBand fun b => by
  split
  · split <;> simp
  · rfl

theorem LawsKept.trailEvent (n : Nat) : LawsKept s (trailEvent n u) := h.modBand fun b => by
  split
  · split
    · split <;> rfl
    · rfl
  · rfl

end

end Sys2Proof.Machine
end

section
/-! The laws on values over the Profile Store's, the Colour Verifier's, the Mark Reader's and the Heat Controller's operations. -/

namespace Sys2Proof.Machine

theorem clampZ_mem {lo hi : Int} (h : lo ≤ hi) (x : Int) : lo ≤ clampZ x lo hi ∧ clampZ x lo hi ≤ hi :=
  ⟨le_max_left .., max_le h (min_le_right ..)⟩

theorem Oct.mem_toList_set {α : Type} {o : Oct α} {i : Fin 8} {a x : α} (h : x ∈ (o.set i a).toList) : x = a ∨ x ∈ o.toList := by
  fin_cases i <;> simp only [Oct.set, Oct.toList, List.mem_cons, List.not_mem_nil, or_false] at h ⊢ <;> tauto

theorem measure_g (l a b : Int) (r : Band) : (r.measure l a b).g = r.g := flagIf_g ..

/-- An image that passes its checks has an initial trim in −256..255 (04 R72). -/
theorem tauInit_mem_of_pass {ws : List Word} (h : firstFail (imageChecks ws) = none) :
    -256 ≤ (imageProfile ws).tauInit ∧ (imageProfile ws).tauInit ≤ 255 := by
  have hc := (firstFail_eq_none_iff _).1 h (99, inZ (imageZ ws 97) (-256) 255) (by simp [imageChecks])
  rw [inZ, Bool.and_eq_true, decide_eq_true_eq, decide_eq_true_eq] at hc
  exact hc

section
variable {s u : State} (h : LawsKept s u)

include h

/-! ## Profile Store (04 R75 to R81) -/

/-- A slot given a trim within the range. -/
theorem LawsKept.modSlot {i : Fin 8} {f : ProfileSlot → ProfileSlot}
    (hf : -256 ≤ (f (u.ps.slots.get i)).tau ∧ (f (u.ps.slots.get i)).tau ≤ 255) : LawsKept s (modSlot i f u) :=
  h.trans ⟨fun hl p hp => (Oct.mem_toList_set hp).elim (fun he => he ▸ hf) (hl p), id, id, id⟩

theorem LawsKept.copyEnded (ws : List Word) : LawsKept s (copyEnded ws u) := by
  unfold Machine.copyEnded
  cases u.ps.staging with
  | none => exact h
  | some c =>
    cases hf : firstFail (imageChecks ws) with
    | some i => exact (h.same (by rfl)).finishTicket _ _ _
    | none => exact LawsKept.finishTicket ((h.same (by rfl)).modSlot (tauInit_mem_of_pass hf)) _ _ _

theorem LawsKept.copyFailed : LawsKept s (copyFailed u) := (h.same (by rfl)).finishTicket _ _ _

theorem LawsKept.trimRequest (n : Nat) : LawsKept s (trimRequest n u) := by
  unfold Machine.trimRequest
  cases u.bandOf n with
  | none => exact h
  | some b =>
    dsimp only
    cases b.meas with
    | none => exact h
    | some m =>
      have hmem : ∀ x y : Int, -256 ≤ trimNext x y ∧ trimNext x y ≤ 255 := fun x y => clampZ_mem (by decide) _
      exact (h.modSlot (hmem _ _)).ite h

/-! ## Colour Verifier (08) -/

/-- A trigger is sent only while the list has room (08 R157). -/
theorem LawsKept.offerPatch (n : Nat) : LawsKept s (offerPatch n u) := by
  unfold Machine.offerPatch
  split
  · next hcan =>
    have hroom : u.cv.list.length < 4 := by
      rw [State.canTrigger, Bool.and_eq_true, decide_eq_true_eq] at hcan
      exact hcan.2
    let e : Trigger := { seq := u.cv.seq, band := n, deadline := u.now + u.cfg.triggerTimeout }
    have h1 : LawsKept s { u with cv.list := u.cv.list ++ [e], cv.seq := nextSeq u.cv.seq } :=
      h.trans ⟨id, id, fun ⟨h1, h2, h3, _⟩ => ⟨h1, h2, h3, (List.length_append ..).trans_le hroom⟩, id⟩
    exact (((h1.same (by rfl)).emit _).ite (h1.same (by rfl))).modBand (by intro; rfl)
  · exact (h.modBand (by intro; rfl))

theorem LawsKept.patchEvent (n : Nat) : LawsKept s (patchEvent n u) := by
  unfold Machine.patchEvent
  cases u.bandOf n with
  | none => exact h
  | some b =>
    dsimp only
    cases b.c with
    | none => exact h
    | some c =>
      refine LawsKept.ite ?_ h
      cases b.kind with
      | void => exact (h.modBand (by intro; rfl))
      | printed => exact h.offerPatch n

theorem LawsKept.bandEvents (n : Nat) : LawsKept s (bandEvents u n) := (((h.nipEvent n).exitEvent n).patchEvent n).trailEvent n

theorem LawsKept.trackEvents : LawsKept s (trackEvents u) := h.foldl (fun n k => k.bandEvents n) _

theorem LawsKept.positionEvents : LawsKept s (positionEvents u) :=
  ((h.same (by rfl)).removeSplices.trackEvents.ite (h.same (by rfl)).trackEvents.removeSplices).ite h.trackEvents

theorem LawsKept.driftSetTest : LawsKept s (driftSetTest u) := ((h.same (by rfl)).raise _).ite h
theorem LawsKept.driftClearTest : LawsKept s (driftClearTest u) := ((h.same (by rfl)).raiseIf _ _).ite h
theorem LawsKept.countDrift (fail : Bool) : LawsKept s (countDrift fail u) := (h.same (by rfl)).driftClearTest.ite (h.same (by rfl)).driftSetTest

theorem LawsKept.resolve (n : Nat) : LawsKept s (resolve n u) := (h.modBand fun b => by split <;> rfl).startRetirement

theorem LawsKept.takeReply (n : Nat) (ok : Bool) (l a b : Int) : LawsKept s (takeReply n ok l a b u) :=
  ((((h.modBand fun r => measure_g l a b r).countDrift _).trimRequest n).resolve n).ite
    ((h.modBand (by intro; rfl)).resolve n)

theorem LawsKept.replyArrival (seq : Nat) (ok : Bool) (l a b : Int) : LawsKept s (replyArrival seq ok l a b u) := by
  unfold Machine.replyArrival
  cases u.cv.list.find? (fun e => e.seq = seq) with
  | none => exact (h.same (by rfl))
  | some e => exact (h.setTriggers (List.length_filter_le ..)).takeReply _ _ _ _ _

theorem LawsKept.timeoutHead : LawsKept s (timeoutHead u) := by
  unfold Machine.timeoutHead
  cases hl : u.cv.list with
  | nil => exact h
  | cons e rest =>
    have h1 : LawsKept s { u with cv.list := rest } := h.setTriggers (by simp [hl])
    exact ((h1.modBand (by intro; rfl)).resolve _).ite h

theorem LawsKept.badFrame : LawsKept s (badFrame u) := (h.same (by rfl))
theorem LawsKept.restartSilence : LawsKept s (restartSilence u) := (h.same (by rfl))
theorem LawsKept.gapTest : LawsKept s (gapTest u) := h.badFrame.ite h

theorem LawsKept.takeByte (b : Byte) (framing : Bool) : LawsKept s (takeByte b framing u) := by
  have h1 : LawsKept s { Machine.gapTest u with cv.rxGap := 0 } := (h.gapTest.same (by rfl))
  unfold Machine.takeByte
  dsimp only
  cases receive (Machine.gapTest u).cv.rx b framing with
  | advance rx => exact (h1.same (by rfl))
  | bad => exact h1.badFrame
  | status v => exact (h1.same (by rfl)).restartSilence
  | reply seq ok l a m => exact LawsKept.replyArrival (h1.same (by rfl)).restartSilence _ _ _ _ _

theorem LawsKept.measureSent : LawsKept s (measureSent u) := by
  unfold Machine.measureSent
  dsimp only
  split
  · exact (h.same (by rfl))
  · exact (h.same (by rfl)).emit _

/-! ## Mark Reader (07) -/

theorem LawsKept.resolveMark (n : Nat) (c : Int) (flag : Option Flag) : LawsKept s (resolveMark n c flag u) :=
  h.modBand fun b => by
    split
    · rfl
    · split <;> rfl

theorem LawsKept.setLock (l : LockState) : LawsKept s (setLock l u) := (h.same (by rfl)).requestProgress.raiseIf _ _
theorem LawsKept.lockAcquireTest : LawsKept s (lockAcquireTest u) := (h.setLock _).ite h
theorem LawsKept.lockLoseTest : LawsKept s (lockLoseTest u) := (h.setLock _).ite h
theorem LawsKept.countFound : LawsKept s (countFound u) := (h.same (by rfl)).lockAcquireTest
theorem LawsKept.countMiss : LawsKept s (countMiss u) := (h.same (by rfl)).lockLoseTest
theorem LawsKept.addError : LawsKept s (addError u) := ((h.same (by rfl)).raiseIf _ _).ite h
theorem LawsKept.addErrorIf (t : Bool) : LawsKept s (addErrorIf t u) := h.addError.ite h
theorem LawsKept.markMissed (b : Band) : LawsKept s (markMissed b u) := (h.resolveMark _ _ _).countMiss.addErrorIf _
theorem LawsKept.markStray : LawsKept s (markStray u) := (h.same (by rfl)).addErrorIf _
theorem LawsKept.takeCorrection (e : Int) : LawsKept s (takeCorrection e u) := (h.same (by rfl)).ite h

theorem LawsKept.closeWindowsN (n : Nat) : LawsKept s (closeWindowsN n u) := by
  induction n generalizing u with
  | zero => exact h
  | succ n ih =>
    unfold Machine.closeWindowsN
    cases u.expected with
    | none => exact h
    | some b => exact (ih (h.markMissed b)).ite h

theorem LawsKept.closeWindows : LawsKept s (closeWindows u) := h.closeWindowsN _

theorem LawsKept.markFound (b : Band) (position : Nat) : LawsKept s (markFound b position u) :=
  have h1 := h.resolveMark b.number (markError u.cfg (b.markAt u.cfg) position) none
  (LawsKept.countFound (h1.same (by rfl))).takeCorrection _ |>.closeWindows

theorem LawsKept.markMismatch (b : Band) : LawsKept s (markMismatch b u) :=
  have h1 := h.resolveMark b.number u.mr.ccur (some .markMismatch)
  (LawsKept.countMiss (h1.same (by rfl))).addErrorIf _

theorem LawsKept.settleRead (code : Byte) (ok : Bool) (position n : Nat) : LawsKept s (settleRead code ok position n u) := by
  induction n generalizing u with
  | zero => exact h.markStray
  | succ n ih =>
    unfold Machine.settleRead
    cases u.expected with
    | none => exact h.markStray
    | some b =>
      exact (ih (h.markMissed b)).ite (h.markStray.ite (h.markStray.ite ((h.markFound b _).ite (h.markMismatch b))))

theorem LawsKept.takeMark (code : Byte) (ok : Bool) (position : Nat) : LawsKept s (takeMark code ok position u) :=
  h.settleRead _ _ _ _

theorem LawsKept.lockAcquired : LawsKept s (lockAcquired u) := h.lockAcquireTest.closeWindows.ite h

theorem LawsKept.marksSoftReset : LawsKept s (marksSoftReset u) :=
  ((h.requestProgress.ite (h.requestProgress.raiseIf _ _)).same (by rfl))

/-! ## Heat Controller (05) -/

theorem LawsKept.modZones (f : Zone → Zone) : LawsKept s (modZones f u) := (h.same (by rfl))
theorem LawsKept.setDrum (d : DrumState) : LawsKept s (setDrum d u) := h.ite ((h.same (by rfl)).raise _).requestProgress
theorem LawsKept.takeHeat (ws : List Word) : LawsKept s (takeHeat ws u) := (h.same (by rfl)).setDrum _
theorem LawsKept.tripDrum : LawsKept s (tripDrum u) := (h.modZones _).setDrum _
theorem LawsKept.settleTest : LawsKept s (settleTest u) := (h.setDrum _).ite h
theorem LawsKept.takeReadings (ch : Oct Channel) : LawsKept s (takeReadings ch u) := (h.same (by rfl))

theorem LawsKept.judgeDrum : LawsKept s (judgeDrum u) := by
  unfold Machine.judgeDrum
  dsimp only
  cases u.hc.drum with
  | heating | deviation => exact (h.same (by rfl)).settleTest
  | atTemp => exact ((h.same (by rfl)).setDrum _).ite h
  | cold | tripped => exact h

theorem LawsKept.doseStage : LawsKept s (doseStage u) :=
  LawsKept.ite (h.modTrack fun b => by
    unfold accrue
    split
    · exact flagIf_g ..
    · rfl) h

theorem LawsKept.dutyStage : LawsKept s (dutyStage u) := (h.modZones _).ite (h.modZones _)

theorem LawsKept.heatStages (ch : Oct Channel) : LawsKept s (heatStages ch u) :=
  (LawsKept.ite (h.takeReadings ch).tripDrum (h.takeReadings ch)).doseStage.dutyStage.judgeDrum

theorem LawsKept.clearDrum : LawsKept s (clearDrum u) := (((h.modZones Zone.reenter).same (by rfl)).setDrum _).ite h

theorem LawsKept.heatSoftReset : LawsKept s (heatSoftReset u) := h.ite ((h.modZones _).ite ((h.modZones _).setDrum _))

theorem LawsKept.rampStep : LawsKept s (rampStep u) := h.ite (h.modZones _)

end

end Sys2Proof.Machine
end

section
/-! The laws on values over the ends of a segment, the states of the line and the nip, and the Raster Engine's operations. -/

namespace Sys2Proof.Machine

theorem Tracker.length_lt_of_accepts {b : Tracker} (h : b.accepts = true) : b.track.length < 96 := by
  rw [Tracker.accepts, Bool.and_eq_true, Bool.not_eq_true', Tracker.full, decide_eq_false_iff_not] at h
  exact Nat.lt_of_not_le h.1

/-- A band is formed with a compensation factor within its range (03 R66). -/
theorem formBand_g_mem (s : State) (g : Segment) : 768 ≤ (s.formBand g).g ∧ (s.formBand g).g ≤ 1280 := by
  show 768 ≤ compensation _ _ _ _ ∧ compensation _ _ _ _ ≤ 1280
  unfold compensation
  have := clampZ_mem (lo := 768) (hi := 1280) (by decide)
    (1024 + correction (s.ps.slots.get g.slot).prof.yield (s.ps.slots.get g.slot).prof.dref
      (predictedDose s.hc.zones s.hc.ton s.cfg.w s.dc.setpoint) + (s.ps.slots.get g.slot).tau)
  omega

/-- A list whose part from the first element that fails a test on is replaced by one as long. -/
theorem length_takeWhile_append {α : Type} {p : α → Bool} {l m : List α} (h : m.length = (l.dropWhile p).length) :
    (l.takeWhile p ++ m).length = l.length := by
  rw [List.length_append, h, ← List.length_append, List.takeWhile_append_dropWhile]

section
variable {s u : State} (h : LawsKept s u)

include h

/-! ## Ends of a segment (02 R50) -/

theorem LawsKept.discardSlots (p : RowSlot → Bool) : LawsKept s (discardSlots p u) :=
  ((h.dropGrant _ _).setRows (List.length_filter_le ..)).idleCounts

theorem LawsKept.clearSegment : LawsKept s (clearSegment u) :=
  have h1 := h.discardSlots (fun _ => true)
  (h1.same (by rfl)).pollStart.ite (h1.same (by rfl))

theorem LawsKept.printedReport (cause : EndCause) : LawsKept s (printedReport cause u) := by
  unfold Machine.printedReport
  cases u.re.seg with
  | none => exact h
  | some g =>
    have h1 := (h.clearSegment.modTally g.tally (fun t => { t with printed := true, cause := cause })).leaveHolding g.addr
    dsimp only
    split
    · exact (h1.finalise _).ite (h1.queueSegmentHeader _ _ _ _)
    · exact h1

theorem LawsKept.refuseSegment : LawsKept s (refuseSegment u) := by
  unfold Machine.refuseSegment
  cases u.re.seg with
  | none => exact h
  | some g => exact ((h.clearSegment.modTally _ _).leaveHolding _).finalise _

theorem LawsKept.abortSegment : LawsKept s (abortSegment u) := by
  unfold Machine.abortSegment
  cases u.re.band with
  | none => exact h.printedReport _
  | some c => exact ((h.modBand (by intro; rfl)).endPrinting _).printedReport _

/-! ## The line and the nip (06) -/

theorem LawsKept.setLine (l : LineState) : LawsKept s (setLine l u) := h.ite ((h.same (by rfl)).raise _).requestProgress

theorem LawsKept.setNip (n : NipState) : LawsKept s (setNip n u) :=
  h.ite ((h.same (by rfl)).requestProgress.exposeDrum.ite (h.same (by rfl)).requestProgress)

theorem LawsKept.nipOpenCommand : LawsKept s (nipOpenCommand u) := by
  unfold Machine.nipOpenCommand
  cases u.dc.nip with
  | closed | closing => exact ((h.setNip .opening).same (by rfl))
  | opened | opening | fault => exact h

theorem LawsKept.nipCloseCommand : LawsKept s (nipCloseCommand u) := by
  unfold Machine.nipCloseCommand
  cases u.dc.nip with
  | opened => exact ((h.setNip .closing).same (by rfl))
  | closing | closed | opening | fault => exact h

theorem LawsKept.zeroLoops : LawsKept s (zeroLoops u) := (h.same (by rfl))

theorem LawsKept.settleStop : LawsKept s (settleStop u) := by
  unfold Machine.settleStop
  cases u.tr.ticket with
  | none => exact h
  | some t =>
    refine LawsKept.ite ?_ h
    cases u.dc.line with
    | stopped | tripped | powerStop | powerHeld => exact h.finishTicket _ _ _
    | starting | running | draining | stopping => exact h

theorem LawsKept.normalStop : LawsKept s (normalStop u) := ((h.same (by rfl)).setLine _).nipOpenCommand

theorem LawsKept.drainEnd : LawsKept s (drainEnd u) := h.normalStop.ite h

theorem LawsKept.drainEntry : LawsKept s (drainEntry u) := by
  unfold Machine.drainEntry
  cases u.re.raster with
  | priming | between => exact h.printedReport _
  | printing => exact (h.same (by rfl)).ite h
  | idle => exact h

theorem LawsKept.stopRequest : LawsKept s (stopRequest u) := by
  unfold Machine.stopRequest
  cases u.dc.line with
  | running => exact (h.setLine _).drainEntry.drainEnd
  | starting => exact h.normalStop
  | draining | stopping | stopped | tripped | powerStop | powerHeld => exact h

theorem LawsKept.fastStop : LawsKept s (fastStop u) :=
  have h1 := h.abortSegment.nipOpenCommand
  ((h1.same (by rfl)).setLine _).ite h

theorem LawsKept.nipFault : LawsKept s (nipFault u) :=
  have h1 := h.setNip .fault
  (h1.same (by rfl)).fastStop

theorem LawsKept.refuseStart (c : StartCause) : LawsKept s (refuseStart c u) := (h.same (by rfl)).raise _

theorem LawsKept.acceptStart : LawsKept s (acceptStart u) := (h.same (by rfl)).setLine _

theorem LawsKept.autoStart : LawsKept s (autoStart u) := by
  unfold Machine.autoStart
  refine LawsKept.ite ?_ h
  cases u.startTest with
  | none => exact (h.acceptStart.same (by rfl))
  | some c => exact ((h.refuseStart c).same (by rfl)).ite (h.refuseStart c).refuseSegment

theorem LawsKept.enterStopped : LawsKept s (enterStopped u) := (h.setLine _).settleStop.autoStart
theorem LawsKept.enterTripped : LawsKept s (enterTripped u) := (h.setLine _).settleStop
theorem LawsKept.chainLook : LawsKept s (chainLook u) := h.readerLook.autoStart.ite h.readerLook
theorem LawsKept.bandBoundary : LawsKept s (bandBoundary u) := h.chainLook.ite h

/-! ## The fetcher and row events (02 R33 to R44) -/

/-- A row is fetched only into an empty slot (02 R33). -/
theorem LawsKept.fetchOne : LawsKept s (fetchOne u) := by
  unfold Machine.fetchOne
  cases u.re.seg with
  | none => exact h
  | some g =>
    dsimp only
    split
    · next hfetch =>
      have hroom : u.re.slots.length < 32 := by
        rw [Bool.and_eq_true, Bool.and_eq_true, decide_eq_true_eq] at hfetch
        exact hfetch.1.2
      exact h.trans ⟨id, id, fun ⟨h1, h2, _, h4⟩ => ⟨h1, h2, (List.length_append ..).trans_le hroom, h4⟩, id⟩
    · exact h

theorem LawsKept.fetchRun : LawsKept s (fetchRun u) := h.times LawsKept.fetchOne _

theorem LawsKept.sendRow (levels : List (Ink Nat)) (mark : Option Nat) : LawsKept s (sendRow levels mark u) := (h.emit _).ite h

theorem LawsKept.consumeRow : LawsKept s (consumeRow u) :=
  (h.setRows (by simp)).fetchRun

theorem LawsKept.underrun (c : BandContext) : LawsKept s (underrun c u) := by
  have h1 : LawsKept s (Machine.modBand c.number (fun b => { b.flag .underrun with lost := b.lost + 1 }) u) := (h.modBand (by intro; rfl))
  have hskip : ∀ {v}, LawsKept s v →
      LawsKept s (if v.re.fetchBand ≤ c.index then { v with re.fetchBand := c.index + 1, re.fetchRow := 0 } else v) :=
    fun hv => (hv.same (by rfl)).ite hv
  exact LawsKept.fetchRun (hskip (((h1.same (by rfl)).raise .underrun).discardSlots (fun x => x.band == c.index)))

theorem LawsKept.countLowWater : LawsKept s (countLowWater u) := (h.same (by rfl)).ite h

theorem LawsKept.fireRow (g : Segment) (c : BandContext) (x : RowSlot) : LawsKept s (fireRow g c x u) :=
  ((h.countLowWater.modBand (by intro; rfl)).emit _).consumeRow.ite (h.countLowWater.modBand (by intro; rfl)).consumeRow

theorem LawsKept.rowOutcome (g : Segment) (c : BandContext) : LawsKept s (rowOutcome g c u) := by
  unfold Machine.rowOutcome
  cases c.kind with
  | void => exact h.sendRow _ _
  | printed =>
    refine LawsKept.ite ((h.modBand (by intro; rfl)).sendRow _ _) ?_
    cases u.re.slots with
    | nil => exact h.underrun c
    | cons x rest => exact (h.fireRow g c x).ite (h.underrun c)

theorem LawsKept.bandEnd (g : Segment) (c : BandContext) : LawsKept s (bandEnd g c u) :=
  have h1 : LawsKept s (Machine.bandBoundary (Machine.endPrinting c.number { u with re.band := none })) :=
    ((h.same (by rfl)).endPrinting _).bandBoundary
  (h1.printedReport _).ite (h1.same (by rfl)).pollStart

theorem LawsKept.rowEvent : LawsKept s (rowEvent u) := by
  unfold Machine.rowEvent
  split
  · next g c _ _ =>
    have h1 := h.rowOutcome g c
    exact ((h1.same (by rfl)).bandEnd g c).ite (h1.same (by rfl))
  · exact h
  · exact h

theorem LawsKept.rowEvents : LawsKept s (rowEvents u) := h.times LawsKept.rowEvent _

/-! ## Band start (02 R36 to R38) -/

/-- A record that BT accepts, with its factor in range, is appended (01 R4). -/
theorem LawsKept.appendBand {b : Band} (hg : 768 ≤ b.g ∧ b.g ≤ 1280) (hroom : u.bt.track.length < 96) :
    LawsKept s (appendBand b u) := by
  have h1 : LawsKept u { u with bt.track := u.bt.track ++ [b], bt.nextNumber := u.bt.nextNumber + 1 } := by
    refine ⟨id, fun hl c hc => ?_, fun ⟨_, h2, h3, h4⟩ => ⟨(List.length_append ..).trans_le hroom, h2, h3, h4⟩, id⟩
    rcases List.mem_append.1 hc with hc | hc
    · exact hl c hc
    · rw [List.mem_singleton.1 hc]
      exact hg
  exact (h.trans h1).modTally _ _

theorem LawsKept.startBand {g : Segment} (hroom : u.bt.track.length < 96) : LawsKept s (startBand g u) :=
  have h1 := h.appendBand (formBand_g_mem u g) hroom
  (h1.same (by rfl)).pollStop.bandBoundary.rowEvent

theorem LawsKept.tryBandStart : LawsKept s (tryBandStart u) := by
  unfold Machine.tryBandStart
  cases u.re.seg with
  | none => exact h
  | some g =>
    refine LawsKept.ite ?_ (h.same (by rfl))
    split
    · next hacc => exact h.startBand (Tracker.length_lt_of_accepts hacc)
    · exact h.ite (h.same (by rfl))

theorem LawsKept.rowComplete (ws : List Word) : LawsKept s (rowComplete ws u) := by
  refine (h.setRows (length_takeWhile_append ?_).le).tryBandStart
  split <;> simp [*]

theorem LawsKept.rowWords (ws : List Word) : LawsKept s (rowWords ws u) := by
  refine h.setRows (length_takeWhile_append ?_).le
  split <;> simp [*]

theorem LawsKept.rowFailed : LawsKept s (rowFailed u) := by
  refine h.setRows (length_takeWhile_append ?_).le
  split <;> simp [*]

theorem LawsKept.clearDrain : LawsKept s (clearDrain u) := by
  unfold Machine.clearDrain
  cases u.re.ending with
  | drain => exact (h.same (by rfl)).fetchRun
  | none | atBoundary | now => exact h

theorem LawsKept.enterRunning : LawsKept s (enterRunning u) := (h.setLine _).clearDrain.tryBandStart

/-! ## END_SEGMENT (02 R46, R47) -/

theorem LawsKept.endAtBoundary : LawsKept s (endAtBoundary u) := by
  unfold Machine.endAtBoundary
  cases u.re.band with
  | none => exact (h.same (by rfl))
  | some c =>
    have h1 := h.discardSlots (fun x => c.index < x.band)
    exact (h1.same (by rfl)).fetchRun

theorem LawsKept.endNow : LawsKept s (endNow u) := by
  unfold Machine.endNow
  cases u.re.band with
  | none => exact ((h.discardSlots (fun _ => true)).same (by rfl))
  | some c =>
    have h1 : LawsKept s (Machine.modBand c.number (Band.flag .truncated) u) := (h.modBand (by intro; rfl))
    exact ((h1.discardSlots (fun _ => true)).same (by rfl))

theorem LawsKept.applyEnd (now : Bool) : LawsKept s (applyEnd now u) := by
  unfold Machine.applyEnd
  cases u.re.raster with
  | idle => exact h
  | priming | between => exact h.printedReport _
  | printing =>
    dsimp only
    cases u.re.ending with
    | none | drain => exact h.endNow.ite h.endAtBoundary
    | atBoundary => exact h.endNow.ite h
    | now => exact h

theorem LawsKept.takeEnd (now : Bool) : LawsKept s (takeEnd now u) :=
  ((h.applyEnd now).finishTicket _ _ _).ite (h.finishTicket _ _ _)

end

end Sys2Proof.Machine
end

section
/-! The laws on values over soft reset (10 R190) and the Drive Controller's operations (06). -/

namespace Sys2Proof.Machine

section
variable {s u : State} (h : LawsKept s u)

include h

/-! ## Soft reset (10 R190) -/

theorem LawsKept.verifierSoftReset : LawsKept s (verifierSoftReset u) :=
  ((h.setTriggers (Nat.zero_le _)).same (by rfl)).raiseIf _ _

theorem LawsKept.storeSoftReset : LawsKept s (storeSoftReset u) :=
  have h1 := h.dropGrant .copy ((u.smp.copies.head?.map Transfer.isCopy).getD false)
  (h1.same (by rfl)).idleCounts

theorem LawsKept.readerSoftReset : LawsKept s (readerSoftReset u) :=
  have h1 := h.abandonTicketRead
  (h1.same (by rfl))

theorem LawsKept.nipFromSwitches : LawsKept s (nipFromSwitches u) :=
  have h1 := h.setNip .opened
  have h2 := h.setNip .opening
  (h1.same (by rfl)).ite (h2.same (by rfl))

theorem LawsKept.driveSoftReset : LawsKept s (driveSoftReset u) :=
  have h1 := h.setLine (if u.pins.mainsOk then .stopped else .powerHeld)
  (h1.same (by rfl)).ite (h1.same (by rfl)).nipFromSwitches

theorem LawsKept.softLast : LawsKept s (softLast u) := (h.same (by rfl)).marksSoftReset.enterIdle.pollStop

theorem LawsKept.softClose : LawsKept s (softClose u) := ((h.finishTicket _ _ _).ite (h.ite h.softLast)).ite h

theorem LawsKept.softSettle : LawsKept s (softSettle u) := ((h.setSplices (Nat.zero_le _)).same (by rfl)).softClose

theorem LawsKept.finaliseNext (n : Nat) : LawsKept s (finaliseNext n u) := by
  induction n generalizing u with
  | zero => exact h
  | succ n ih =>
    unfold Machine.finaliseNext
    cases u.bt.tallies with
    | nil => exact h.softSettle
    | cons e rest => exact (ih (h.finalise e.id)).ite (h.finalise e.id)

theorem LawsKept.softFinalise : LawsKept s (softFinalise u) := h.finaliseNext _

theorem LawsKept.softWritten : LawsKept s (softWritten u) := by
  unfold Machine.softWritten
  refine h.ite ?_
  cases u.smp.soft with
  | writing => exact (h.same (by rfl)).softFinalise
  | closing => exact h.softClose
  | off | stopping | retiring | finalising | settling => exact h

theorem LawsKept.softDiscard : LawsKept s (softDiscard u) :=
  ((h.setTrack (Nat.zero_le _) fun _ hb => absurd hb List.not_mem_nil).same (by rfl)).softWritten

theorem LawsKept.softReach : LawsKept s (softReach u) :=
  have h1 := (h.same (by rfl)).verifierSoftReset.storeSoftReset.readerSoftReset.clearSegment.heatSoftReset.driveSoftReset
  h1.ite h1.softDiscard

theorem LawsKept.softStart : LawsKept s (softStart u) := (h.same (by rfl)).fastStop.ite (h.same (by rfl)).softReach

theorem LawsKept.softComplete : LawsKept s (softComplete u) := ((h.same (by rfl)).raise _).requestProgress.ite h

/-! ## Start, stop and speed 0 (06 R112 to R121) -/

theorem LawsKept.startRequest : LawsKept s (startRequest u) := by
  unfold Machine.startRequest
  cases u.dc.line with
  | stopped =>
    dsimp only
    cases u.startTest with
    | none => exact h.acceptStart
    | some c => exact h.refuseStart c
  | draining => exact h.enterRunning
  | tripped | powerStop | powerHeld => exact h.refuseStart _
  | starting | running | stopping => exact h

theorem LawsKept.speedZero : LawsKept s (speedZero u) := by
  have h1 := h.zeroLoops
  unfold Machine.speedZero
  refine h1.softReach.ite ?_
  cases (Machine.zeroLoops u).dc.line with
  | stopping =>
    dsimp only
    cases (Machine.zeroLoops u).dc.stopKind with
    | normal => exact h1.enterStopped
    | fast => exact h1.enterTripped
  | powerStop => exact h1.enterTripped.ite (h1.setLine _)
  | stopped | starting | running | draining | tripped | powerHeld => exact h1

theorem LawsKept.speedZeroTest : LawsKept s (speedZeroTest u) := h.speedZero.ite h
theorem LawsKept.runningTest : LawsKept s (runningTest u) := h.enterRunning.ite h
theorem LawsKept.nipCloseTest : LawsKept s (nipCloseTest u) := h.nipCloseCommand.ite h

/-! ## The tension sample (06 R126) -/

theorem LawsKept.stepRef : LawsKept s (stepRef u) := (h.same (by rfl)).ite (h.same (by rfl))
theorem LawsKept.refStage : LawsKept s (refStage u) := h.stepRef.nipCloseTest.runningTest.speedZeroTest
theorem LawsKept.readStage (cells : Webs LoadCell) : LawsKept s (readStage cells u) := (h.same (by rfl))
theorem LawsKept.sensorStage : LawsKept s (sensorStage u) := (h.raise _).fastStop.ite h
theorem LawsKept.loopStage : LawsKept s (loopStage u) := (h.same (by rfl)).ite (h.same (by rfl))
theorem LawsKept.countStage : LawsKept s (countStage u) := (h.same (by rfl))
theorem LawsKept.faultStage : LawsKept s (faultStage u) := (h.raise _).fastStop.ite h
theorem LawsKept.driveOut : LawsKept s (driveOut u) := h.emit _

theorem LawsKept.tensionSample (cells : Webs LoadCell) : LawsKept s (tensionSample cells u) :=
  (h.refStage.readStage cells).sensorStage.loopStage.countStage.faultStage.driveOut

theorem LawsKept.webFault (w : WebId) : LawsKept s (webFault w u) := (h.raise _).fastStop.ite h

/-! ## Tickets, mains, nip switches, encoders (06, 01 R6) -/

theorem LawsKept.takeSpeed (ws : List Word) : LawsKept s (takeSpeed ws u) := (h.same (by rfl))
theorem LawsKept.takeTension (ws : List Word) : LawsKept s (takeTension ws u) := (h.same (by rfl))
theorem LawsKept.takeStop : LawsKept s (takeStop u) := h.stopRequest.settleStop

theorem LawsKept.powerStop : LawsKept s (powerStop u) := by
  have h1 := h.abortSegment.nipOpenCommand
  unfold Machine.powerStop
  cases u.dc.line with
  | powerStop | powerHeld => exact h
  | stopped | starting | running | draining | stopping | tripped =>
    exact ((h1.same (by rfl)).setLine _).settleStop.requestProgress.speedZeroTest

theorem LawsKept.mainsLoss : LawsKept s (mainsLoss u) := ((h.same (by rfl)).raise _).tripDrum.powerStop

theorem LawsKept.mainsReturn : LawsKept s (mainsReturn u) := ((h.same (by rfl)).raise _).enterTripped.ite ((h.same (by rfl)).raise _)

theorem LawsKept.nipSwitches : LawsKept s (nipSwitches u) := by
  have h1 := h.setNip .closed
  have h2 := h.setNip .opened
  unfold Machine.nipSwitches
  refine h.ite (h.nipFault.ite ?_)
  cases u.dc.nip with
  | opened | closed => exact h.nipFault.ite h
  | closing => exact (h1.same (by rfl)).runningTest.ite h
  | opening => exact (h2.same (by rfl)).ite h
  | fault => exact h

theorem LawsKept.nipTimeout : LawsKept s (nipTimeout u) := h.nipFault.ite h
theorem LawsKept.nipHoldTest : LawsKept s (nipHoldTest u) := h.stopRequest.ite h
theorem LawsKept.stretchUpdate : LawsKept s (stretchUpdate u) := (h.same (by rfl))
theorem LawsKept.encoderLoss (e : EncoderId) : LawsKept s (encoderLoss e u) := h.fastStop.ite h

theorem LawsKept.paperMoved : LawsKept s (paperMoved u) :=
  h.rowEvents.closeWindows.positionEvents.startRetirement.tryBandStart

theorem LawsKept.encoderPulse (e : EncoderId) (forward : Bool) : LawsKept s (encoderPulse e forward u) := by
  refine LawsKept.ite ?_ (h.same (by rfl))
  cases e with
  | paper => exact (h.same (by rfl)).paperMoved
  | infeed | drum => exact (h.same (by rfl))

theorem LawsKept.heatSample (ch : Oct Channel) : LawsKept s (heatSample ch u) := (h.heatStages ch).fastStop.ite (h.heatStages ch)

/-! ## CLEAR_TRIP (10 R182) -/

theorem LawsKept.clearLine : LawsKept s (clearLine u) := ((h.same (by rfl)).setLine _).settleStop.ite h
theorem LawsKept.clearNip : LawsKept s (clearNip u) := (h.setNip _).ite h

theorem LawsKept.clearPause : LawsKept s (clearPause u) :=
  ((((h.same (by rfl)).setReader _).readerLook.ite ((h.same (by rfl)).setReader _).trContinue).ite (h.same (by rfl))).ite h

theorem LawsKept.clearTrip : LawsKept s (clearTrip u) :=
  h.clearLine.clearDrum.clearNip.clearPause.autoStart.ite h.clearLine.clearDrum.clearNip.clearPause

end

end Sys2Proof.Machine
end

section
/-! The laws on values over the walk of the Ticket Reader (09), the end of a transfer and the arbiter (10). -/

namespace Sys2Proof.Machine

section
variable {s u : State} (h : LawsKept s u)

include h

/-! ## Tickets (09 R172 to R176) -/

theorem LawsKept.takeConfigure (ws : List Word) : LawsKept s (takeConfigure ws u) :=
  ((h.same (by rfl)).finishTicket _ _ _).ite (h.finishTicket _ _ _)

theorem LawsKept.takeLoad (ws : List Word) : LawsKept s (takeLoad ws u) := (h.same (by rfl)).queueCopy _

theorem LawsKept.takeReport (ws : List Word) : LawsKept s (takeReport ws u) := (h.same (by rfl)).queueCopy _

theorem LawsKept.execute (kind : TicketKind) (ws : List Word) : LawsKept s (execute kind ws u) := by
  cases kind with
  | configure => exact h.takeConfigure ws
  | setHeat => exact (h.takeHeat ws).finishTicket _ _ _
  | setTension => exact (h.takeTension ws).finishTicket _ _ _
  | setSpeed => exact (h.takeSpeed ws).finishTicket _ _ _
  | loadProfile => exact h.takeLoad ws
  | segment => exact h
  | endSegment => exact h.takeEnd _
  | stop => exact h.takeStop
  | report => exact h.takeReport ws

theorem LawsKept.handOff : LawsKept s (handOff u) := by
  unfold Machine.handOff
  cases u.tr.ticket with
  | none => exact h
  | some t => exact ((h.same (by rfl)).execute t.kind t.body).ite h

theorem LawsKept.writeTaken (t : Ticket) : LawsKept s (writeTaken t u) := h.queueHeader _ _

theorem LawsKept.takeSegment (t : Ticket) : LawsKept s (takeSegment t u) :=
  ((h.writeTaken t).same (by rfl)).fetchRun.autoStart.tryBandStart

theorem LawsKept.takeOther (t : Ticket) : LawsKept s (takeOther t u) := (h.same (by rfl)).writeTaken t

theorem LawsKept.checkTicket (t : Ticket) : LawsKept s (checkTicket t u) := by
  unfold Machine.checkTicket
  cases Machine.takeCheck t u with
  | some r => exact h.refuseTicket _ _ _
  | none =>
    dsimp only
    cases t.kind with
    | segment => exact h.takeSegment t
    | configure | setHeat | setTension | setSpeed | loadProfile | endSegment | stop | report => exact h.takeOther t

theorem LawsKept.takeTicket (w : Header) : LawsKept s (takeTicket w u) := by
  unfold Machine.takeTicket
  cases kindOfCode w.kindCode with
  | none => exact h.refuseTicket _ _ _
  | some k => exact (h.refuseTicket _ _ _).ite ((h.checkTicket _).ite ((h.same (by rfl)).queueRead rfl))

/-! ## Completed reads and header writes (09 R167 to R174b) -/

theorem LawsKept.pauseReader : LawsKept s (pauseReader u) := h.enterIdle.ite (h.setReader _)

theorem LawsKept.headerRead (ws : List Word) : LawsKept s (headerRead ws u) :=
  h.enterIdle.ite ((h.ite (h.setReader _)).ite (h.ite (h.pauseReader.ite (h.takeTicket _))))

theorem LawsKept.linkRead (ws : List Word) : LawsKept s (linkRead ws u) :=
  h.enterIdle.ite ((h.ite (h.setReader _)).ite (h.same (by rfl)).issueRead)

theorem LawsKept.bodyDone (ws : List Word) : LawsKept s (bodyDone ws u) := by
  unfold Machine.bodyDone
  cases u.tr.ticket with
  | none => exact h
  | some t => exact (h.same (by rfl)).enterIdle.ite (h.checkTicket _)

theorem LawsKept.closeTicket : LawsKept s (closeTicket u) := by
  unfold Machine.closeTicket
  refine (h.same (by rfl)).ite ?_
  dsimp only
  cases u.tr.reader with
  | idle | holding | stalled | paused => exact (h.same (by rfl))
  | reading | executing | waiting => exact (h.same (by rfl)).trContinue

theorem LawsKept.headerRole (r : HeaderRole) : LawsKept s (headerRole r u) := by
  cases r with
  | take k => exact h.handOff.trContinue
  | close => exact h.closeTicket
  | segment own => exact h.trContinue

theorem LawsKept.headerWritten (w : HeaderWrite) : LawsKept s (headerWritten w u) :=
  (((h.raiseIf _ _).requestProgress).headerRole _).softWritten

theorem LawsKept.startWalk : LawsKept s (startWalk u) := by
  have h1 : LawsKept s { u with tr.pos := u.smp.chainHead.toNat, tr.step := .header,
                                smp.writes := u.smp.writes.map Transfer.ofOldWalk } := (h.same (by rfl))
  exact ((h1.ite h1.pollStart).setReader _).readerLook.ite (h1.pollStart.setReader _).trContinue

theorem LawsKept.goChain : LawsKept s (goChain u) := by
  unfold Machine.goChain
  cases u.tr.reader with
  | idle => exact h.ite h.startWalk
  | stalled => exact (h.setReader _).ite (h.setReader _).trContinue
  | reading | waiting | executing | holding | paused => exact h

theorem LawsKept.haltChain : LawsKept s (haltChain u) := by
  unfold Machine.haltChain
  cases u.tr.reader with
  | idle | reading | executing | holding => exact (h.same (by rfl))
  | waiting | paused => exact h.abandonTicketRead.enterIdle
  | stalled => exact (h.same (by rfl)).ite h.enterIdle

theorem LawsKept.chainPoll : LawsKept s (chainPoll u) := (h.same (by rfl)).chainLook.ite h

/-! ## Ends of transfers (10 R185) -/

theorem LawsKept.countsEnded (why : CountsFor) : LawsKept s (countsEnded why u) := by
  cases why with
  | retirement =>
    exact h.removeHead.softDiscard.ite (h.removeHead.startRetirement.finaliseIfDone _).drainEnd.tryBandStart
  | finalise id =>
    unfold Machine.countsEnded
    dsimp only
    cases u.tallyOf id with
    | none => exact h
    | some e =>
      dsimp only
      cases u.smp.soft with
      | writing => exact h.modTally _ _
      | finalising => exact (h.signalFinal e).softFinalise
      | off | stopping | retiring | closing | settling => exact h.signalFinal e

theorem LawsKept.reportEnded (ok : Bool) : LawsKept s (reportEnded ok u) := by
  unfold Machine.reportEnded
  cases u.smp.soft with
  | off | stopping => exact (h.finishTicket _ _ _).ite (h.finishTicket _ _ _)
  | closing => exact h.softClose
  | retiring | writing | finalising | settling => exact h

theorem LawsKept.transferEnded (x : Transfer) : LawsKept s (transferEnded x u) := by
  unfold Machine.transferEnded
  cases x.kind with
  | headerWrite w => exact h.headerWritten w
  | recordWrite => exact h.recordEnded _
  | countsWrite why => exact h.countsEnded why
  | headerRead => exact h.headerRead _
  | linkRead => exact h.linkRead _
  | bodyRead => exact h.bodyDone _
  | progress => exact h
  | profileCopy => exact h.copyEnded _
  | reportWrite => exact h.reportEnded _

theorem LawsKept.ticketReadFailed : LawsKept s (ticketReadFailed u) :=
  LawsKept.ite ((h.same (by rfl)).setReader _).enterIdle ((h.same (by rfl)).setReader _)

/-! ## Queues and bursts (10 R185, R186) -/

theorem LawsKept.emitWrites (addr : Nat) (ws : List Word) : LawsKept s (emitWrites addr ws u) := by
  rw [emitWrites_eq]
  exact (h.same (by rfl))

theorem LawsKept.stageWords (x : Transfer) (ws : List Word) : LawsKept s (stageWords x ws u) := (h.same (by rfl)).ite h

/-- A client's queue is replaced by one with a pending progress block write only where it had one. -/
theorem LawsKept.setQueue {c : Client} {q : List Transfer}
    (hq : ∀ x ∈ q, x.isPendingProgress = true → ∃ y ∈ u.smp.queue c, y.isPendingProgress = true) :
    LawsKept s { u with smp := u.smp.setQueue c q } := by
  cases c with
  | read => exact h.setReads hq
  | row | write | copy => exact (h.same (by rfl))

theorem LawsKept.rowBurst (g : Grant) (ws : List Word) : LawsKept s (rowBurst g ws u) :=
  h.ite ((h.rowComplete _).ite (h.rowWords _))

end

end Sys2Proof.Machine
end

section
/-! The laws on values over bursts, bus errors, the register window and the arbiter (10). -/

namespace Sys2Proof.Machine

theorem burstMoved_smp (s : State) (x : Transfer) (n : Nat) (ws : List Word) : (s.burstMoved x n ws).smp = s.smp := by
  unfold State.burstMoved stageWords
  split
  · rfl
  · split <;> rfl

/-- A burst takes a progress block write no word of its own. -/
theorem after_isPendingProgress (x : Transfer) (n : Nat) (ws : List Word) (h : (x.after n ws).isPendingProgress = true) :
    x.isPendingProgress = true := by
  rw [Transfer.isPendingProgress, Bool.and_eq_true] at h ⊢
  obtain ⟨hk, hw⟩ := h
  have hk' : x.kind = .progress := beq_iff_eq.1 hk
  refine ⟨hk, ?_⟩
  rw [Transfer.after, Transfer.isWrite, hk'] at hw
  exact hw

section
variable {s u : State} (h : LawsKept s u)

include h

/-! ## The end of a burst (10 R185) -/

theorem LawsKept.burstMoved (x : Transfer) (n : Nat) (ws : List Word) : LawsKept s (u.burstMoved x n ws) :=
  (h.same (by rfl)).ite (h.stageWords x _)

theorem LawsKept.transferBurst {c : Client} {x : Transfer} {rest : List Transfer} {g : Grant} {ws : List Word}
    (hq : u.smp.queue c = x :: rest) : LawsKept s (transferBurst c x rest g ws u) := by
  have h1 := h.burstMoved x (x.moves g ws) ws
  have hq1 : (u.burstMoved x (x.moves g ws) ws).smp.queue c = x :: rest := by rw [burstMoved_smp, hq]
  by_cases hl : x.left ≤ x.moves g ws
  · rw [transferBurst_last hl]
    exact (h1.setQueue (fun y hy hp => ⟨y, hq1 ▸ List.mem_cons_of_mem x hy, hp⟩)).transferEnded _
  · rw [transferBurst_more (not_le.1 hl)]
    refine h1.setQueue fun y hy hp => ?_
    rw [hq1]
    rcases List.mem_cons.1 hy with rfl | hy
    · exact ⟨x, List.mem_cons_self, after_isPendingProgress x _ _ hp⟩
    · exact ⟨y, List.mem_cons_of_mem x hy, hp⟩

theorem LawsKept.burstEnd (ws : List Word) : LawsKept s (burstEnd ws u) := by
  have h1 : LawsKept s { u with smp.grant := none } := (h.same (by rfl))
  cases hg : u.smp.grant with
  | none =>
    rw [burstEnd_none ws hg]
    exact h
  | some g =>
    cases hd : g.dropped with
    | true =>
      rw [burstEnd_dropped ws hg hd]
      exact h1
    | false =>
      cases hq : u.smp.queue g.client with
      | cons x rest =>
        rw [burstEnd_transfer hg hd hq ws]
        exact h1.transferBurst (by rw [queue_setGrant, hq])
      | nil =>
        obtain ⟨c, n, d⟩ := g
        unfold Machine.burstEnd
        rw [hg]
        dsimp only at hd hq ⊢
        rw [if_neg (by simp [hd]), queue_setGrant, hq]
        cases c with
        | row => exact h1.rowBurst _ ws
        | write | read | copy => exact h1

theorem LawsKept.transferDone (p : Transfer → Bool) (ws : List Word) : LawsKept s (transferDone p ws u) := (h.burstEnd ws).ite h
theorem LawsKept.ticketStep (k : TicketKind) (ws : List Word) : LawsKept s (ticketStep k ws u) := (h.burstEnd ws).ite h
theorem LawsKept.rowDone (ws : List Word) : LawsKept s (rowDone ws u) := (h.burstEnd ws).ite h

/-! ## Bus errors (10 R186) -/

theorem LawsKept.transferFailed {c : Client} {x : Transfer} {rest : List Transfer} (hq : u.smp.queue c = x :: rest) :
    LawsKept s (transferFailed c x rest u) := by
  have hrest : ∀ y ∈ rest, y.isPendingProgress = true → ∃ z ∈ u.smp.queue c, z.isPendingProgress = true :=
    fun y hy hp => ⟨y, hq ▸ List.mem_cons_of_mem x hy, hp⟩
  have h1 : LawsKept s { u with smp := u.smp.setQueue c rest } := h.setQueue hrest
  unfold Machine.transferFailed
  cases x.kind with
  | headerWrite w =>
    refine h.setQueue fun y hy hp => ?_
    rcases List.mem_cons.1 hy with rfl | hy
    · exact absurd hp Bool.false_ne_true
    · exact hrest y hy hp
  | recordWrite => exact h1.recordEnded _
  | countsWrite why => exact h1.countsEnded why
  | headerRead | linkRead | bodyRead => exact h1.ticketReadFailed
  | progress => exact h1
  | profileCopy => exact h1.copyFailed
  | reportWrite => exact h1.reportEnded _

theorem LawsKept.cutBurst (n : Nat) : LawsKept s (cutBurst n u) := by
  unfold Machine.cutBurst
  cases u.smp.grant with
  | none => exact h
  | some g =>
    dsimp only
    cases u.smp.queue g.client with
    | nil => exact h
    | cons x rest => exact (h.emitWrites _ _).ite h

theorem LawsKept.busError (n : Nat) : LawsKept s (busError n u) := by
  have hcut := h.cutBurst n
  have h1 : LawsKept s (Machine.raise .port { Machine.cutBurst n u with smp.grant := none }) := (hcut.same (by rfl)).raise _
  cases hg : u.smp.grant with
  | none =>
    rw [busError_none n hg]
    exact h
  | some g =>
    cases hd : g.dropped with
    | true =>
      rw [busError_dropped n hg hd]
      exact (h.same (by rfl)).raise _
    | false =>
      unfold Machine.busError
      rw [hg]
      dsimp only
      rw [if_neg (by simp [hd])]
      split
      case h_1 => exact h1.rowFailed
      case h_2 hq | h_3 hq | h_4 hq => exact h1.transferFailed hq
      case h_5 | h_6 | h_7 => exact h1

/-! ## The register window (10 R181 to R187) -/

/-- Where PROGBASE comes to name no block, what is pending is dropped (log entry 35). -/
theorem LawsKept.writeProgBase (v : Word) : LawsKept s (writeProgBase v u) := by
  unfold Machine.writeProgBase
  dsimp only
  split
  · next husable =>
    have h1 : LawsKept u { u with smp.progBase := align16 v } :=
      ⟨id, id, id, fun _ hbad => absurd (husable.symm.trans hbad) Bool.true_eq_false.mp⟩
    exact (h.trans h1).requestProgress
  · refine h.trans ⟨id, id, id, fun _ _ x hx => ?_⟩
    simpa using (List.mem_filter.1 hx).2

theorem LawsKept.writeChainHead (v : Word) : LawsKept s (writeChainHead v u) := by
  unfold Machine.writeChainHead
  cases u.tr.reader with
  | idle => exact (h.same (by rfl))
  | reading | waiting | executing | holding | paused | stalled => exact h

theorem LawsKept.writeNotice (v : Word) : LawsKept s (writeNotice v u) := (h.same (by rfl))
theorem LawsKept.writeNoticeMask (v : Word) : LawsKept s (writeNoticeMask v u) := (h.same (by rfl))
theorem LawsKept.writePortCfg (v : Word) : LawsKept s (writePortCfg v u) := (h.same (by rfl))

theorem LawsKept.lineCtl {f : State → State} (hf : LawsKept s (f u)) : LawsKept s (lineCtl f u) := by
  unfold Machine.lineCtl
  cases u.smp.soft with
  | off => exact hf
  | stopping | retiring | writing | finalising | closing | settling => exact h

theorem LawsKept.writeLineCtl (v : Word) : LawsKept s (writeLineCtl v u) := by
  have hbit : ∀ {t : Bool} {f : State → State}, (∀ {x}, LawsKept s x → LawsKept s (f x)) →
      ∀ {x}, LawsKept s x → LawsKept s (onBit t f x) := fun hf _ hx => (hf hx).ite hx
  exact h.softStart.ite (hbit LawsKept.haltChain (hbit LawsKept.goChain (hbit LawsKept.stopRequest
    (hbit LawsKept.startRequest (hbit LawsKept.clearTrip h)))))

theorem LawsKept.writeRegister (offset bytes : Nat) (v : Word) : LawsKept s (writeRegister offset bytes v u) :=
  h.ite ((h.lineCtl (h.writeLineCtl v)).ite ((h.writeChainHead v).ite ((h.writeProgBase v).ite ((h.writeNotice v).ite
    ((h.writeNoticeMask v).ite ((h.writePortCfg v).ite h))))))

theorem LawsKept.progressTimer : LawsKept s (progressTimer u) := h.requestProgress.ite h

/-! ## The instrument's timers (08) -/

theorem LawsKept.byteWhere (p : ByteResult → Bool) (b : Byte) (framing : Bool) : LawsKept s (byteWhere p b framing u) :=
  (h.takeByte b framing).ite h

theorem LawsKept.instrumentSilence : LawsKept s (instrumentSilence u) := (h.same (by rfl)).ite h

theorem LawsKept.triggerTimeouts : LawsKept s (triggerTimeouts u) := h.times LawsKept.timeoutHead _

/-! ## The arbiter (10 R185, R187) -/

/-- The words of a progress block write are taken as its first burst is granted (10 R188). -/
theorem LawsKept.grantBurst (c : Client) : LawsKept s (grantBurst c u) := by
  unfold Machine.grantBurst
  dsimp only
  split
  · next x rest hreads =>
    refine LawsKept.ite ((h.setReads (l := _ :: rest) fun y hy hp => ?_).same (by rfl)) (h.same (by rfl))
    rcases List.mem_cons.1 hy with rfl | hy
    · exact absurd hp Bool.false_ne_true
    · exact ⟨y, by rw [hreads]; exact List.mem_cons_of_mem x hy, hp⟩
  all_goals exact (h.same (by rfl))

theorem LawsKept.kick : LawsKept s (kick u) := by
  unfold Machine.kick
  refine h.idleCounts.ite ?_
  cases (Machine.idleCounts u).choose with
  | none => exact h.idleCounts
  | some c => exact h.idleCounts.grantBurst c

end

theorem grantBurst_grant (c : Client) (s : State) : (grantBurst c s).smp.grant =
    some { client := c, words := min s.smp.burstLimit (s.leftOf c), dropped := false } := by
  unfold grantBurst
  dsimp only
  split
  · split <;> rfl
  all_goals rfl

/-- The arbiter chooses no client only where none waits. -/
theorem leftOf_of_choose_none {s : State} (h : s.choose = none) (c : Client) : s.leftOf c = 0 := by
  have hnone : clients.find? s.waits = none := by
    unfold State.choose at h
    cases hg : clients.find? s.guarded with
    | none => rwa [hg] at h
    | some d => rw [hg] at h; cases h
  have hc : s.waits c = false := by simpa using List.find?_eq_none.1 hnone c (by cases c <;> decide)
  simpa [State.waits] using hc

/-- The arbiter leaves the bus idle only where no client waits (10 R185). -/
theorem busLaw_kick (s : State) : BusLaw (kick s) := by
  unfold kick
  dsimp only
  split
  · next hg => exact fun hn => absurd hg (by rw [hn]; exact Bool.false_ne_true)
  · cases hc : (idleCounts s).choose with
    | none => exact fun _ => leftOf_of_choose_none hc
    | some c => exact fun hn => absurd ((grantBurst_grant c _).symm.trans hn) (Option.some_ne_none _)

end Sys2Proof.Machine
end

section
/-! The laws on values and the port law over every command, and over a step (04 R81, 03 R66, 00, 10 R185, R187). -/

namespace Sys2Proof.Machine

/-- From `s` to `t` each law of the statement is kept. -/
def StepKeeps (s t : State) : Prop :=
  (TrimLaw s → TrimLaw t) ∧ (CompensationLaw s → CompensationLaw t) ∧ (CapacityLaw s → CapacityLaw t) ∧ (PortLaw s → PortLaw t)

theorem LawsKept.stepKeeps {s t : State} (h : LawsKept s t) (hb : BusLaw s → BusLaw t) : StepKeeps s t :=
  ⟨h.trim, h.comp, h.cap, fun hp => by
    rw [portLaw_iff] at hp ⊢
    exact ⟨hb hp.1, h.progress hp.2⟩⟩

/-- The values after power-up reset meet every law, whatever was before. -/
theorem lawsKept_powerUpState (p : Pins) (s : State) : LawsKept s (powerUpState p s) := by
  refine ⟨fun _ => ?_, fun _ _ hb => absurd hb List.not_mem_nil, fun _ => ⟨?_, ?_, ?_, ?_⟩,
    fun _ _ _ hx => absurd hx List.not_mem_nil⟩
  · show ∀ q ∈ Store.reset.slots.toList, -256 ≤ q.tau ∧ q.tau ≤ 255
    decide
  all_goals exact Nat.zero_le _

theorem busLaw_powerUpState (p : Pins) (s : State) : BusLaw (powerUpState p s) := fun _ c => by cases c <;> rfl

/-! ## Commands -/

section
variable {s : State}

/-- A command whose effect keeps the laws, with the arbiter behind it; in power-up reset it has no effect (10 R185, R189). -/
theorem stepKeeps_command {f : State → State} (hf : ∀ u, LawsKept s u → LawsKept s (f u)) : StepKeeps s (command f s) := by
  have h1 : LawsKept s { s with out := [] } := ((LawsKept.refl s).same (by rfl))
  cases hp : s.pins.powerGood with
  | true =>
    rw [command_eq hp]
    exact (hf _ h1).kick.stepKeeps fun _ => busLaw_kick _
  | false =>
    rw [show command f s = { s with out := [] } from if_neg (by simp [hp])]
    exact h1.stepKeeps id

theorem stepKeeps_commandAt {f : State → State} {l : Lines} (hf : ∀ u, LawsKept s u → LawsKept s (f u)) :
    StepKeeps s (commandAt l f s) := stepKeeps_command fun _ h => hf _ (h.sampleLines l)

theorem stepKeeps_pinned {f : State → State} {p : Pins} (hf : ∀ u, LawsKept s u → LawsKept s (f u)) :
    StepKeeps s (pinned p f s) := by
  unfold pinned
  split
  · exact stepKeeps_command hf
  · exact ((LawsKept.refl s).same (by rfl)).stepKeeps id

theorem stepKeeps_powerDown (n : Nat) : StepKeeps s (powerDown n s) :=
  have h := lawsKept_powerUpState { s.pins with powerGood := false } s
  (h.same (by rfl)).stepKeeps fun _ => busLaw_powerUpState { s.pins with powerGood := false } s

theorem stepKeeps_powerRise : StepKeeps s (powerRise s) := by
  unfold powerRise
  split
  · exact ((LawsKept.refl s).same (by rfl)).stepKeeps id
  · refine ((lawsKept_powerUpState _ s).raiseIf _ _).stepKeeps fun _ => ?_
    unfold raiseIf
    split <;> exact busLaw_powerUpState { s.pins with powerGood := true } s

/-- A millisecond moves timers alone (log entry 1). -/
theorem stepKeeps_tick : StepKeeps s (tick s) := by
  unfold tick powered
  split
  · exact ((LawsKept.refl s).same (by rfl)).stepKeeps id
  · exact ((LawsKept.refl s).same (by rfl)).stepKeeps id

theorem stepKeeps_next {t u : State} (h : StepKeeps s u)
    (he : (Host.Outcome.next u : Host.Outcome State Fault Refusal) = .next t) : StepKeeps s t := by
  cases he
  exact h

end

/-- Every command keeps the laws: its arm of `exec` is one operation, as a command. -/
theorem stepKeeps_exec {i : Instr} {s t : State} (he : exec i s = .next t) : StepKeeps s t := by
  cases i with
  | run l => exact stepKeeps_next (stepKeeps_commandAt fun _ h => h.lineCtl h.startRequest) he
  | stop => exact stepKeeps_next (stepKeeps_command fun _ h => h.lineCtl h.stopRequest) he
  | clearTrip l => exact stepKeeps_next (stepKeeps_commandAt fun _ h => h.lineCtl h.clearTrip) he
  | goChain => exact stepKeeps_next (stepKeeps_command fun _ h => h.lineCtl h.goChain) he
  | haltChain => exact stepKeeps_next (stepKeeps_command fun _ h => h.lineCtl h.haltChain) he
  | softReset => exact stepKeeps_next (stepKeeps_command fun _ h => h.lineCtl h.softStart) he
  | chainheadWrite v => exact stepKeeps_next (stepKeeps_command fun _ h => h.writeChainHead v) he
  | progbaseWrite v => exact stepKeeps_next (stepKeeps_command fun _ h => h.writeProgBase v) he
  | noticeWrite v => exact stepKeeps_next (stepKeeps_command fun _ h => h.writeNotice v) he
  | noticemaskWrite v => exact stepKeeps_next (stepKeeps_command fun _ h => h.writeNoticeMask v) he
  | portcfgWrite v => exact stepKeeps_next (stepKeeps_command fun _ h => h.writePortCfg v) he
  | registerWrite o b v l => exact stepKeeps_next (stepKeeps_commandAt fun _ h => h.writeRegister o b v) he
  | powerGoodLow n => exact stepKeeps_next (stepKeeps_powerDown n) he
  | powerGoodRise => exact stepKeeps_next stepKeeps_powerRise he
  | mainsOkLoss => exact stepKeeps_next (stepKeeps_pinned fun _ h => h.mainsLoss) he
  | mainsOkReturn => exact stepKeeps_next (stepKeeps_pinned fun _ h => h.mainsReturn) he
  | configure ws => exact stepKeeps_next (stepKeeps_command fun _ h => h.ticketStep _ ws) he
  | setHeat ws => exact stepKeeps_next (stepKeeps_command fun _ h => h.ticketStep _ ws) he
  | setTension ws => exact stepKeeps_next (stepKeeps_command fun _ h => h.ticketStep _ ws) he
  | setSpeed ws => exact stepKeeps_next (stepKeeps_command fun _ h => h.ticketStep _ ws) he
  | loadProfile ws => exact stepKeeps_next (stepKeeps_command fun _ h => h.ticketStep _ ws) he
  | segment ws l => exact stepKeeps_next (stepKeeps_commandAt fun _ h => h.ticketStep _ ws) he
  | endSegment ws => exact stepKeeps_next (stepKeeps_command fun _ h => h.ticketStep _ ws) he
  | stopTicket ws => exact stepKeeps_next (stepKeeps_command fun _ h => h.ticketStep _ ws) he
  | report ws => exact stepKeeps_next (stepKeeps_command fun _ h => h.ticketStep _ ws) he
  | reportWriteDone => exact stepKeeps_next (stepKeeps_command fun _ h => h.transferDone _ _) he
  | encoderPulse e forward l => exact stepKeeps_next (stepKeeps_commandAt fun _ h => h.encoderPulse e forward) he
  | splicePulse => exact stepKeeps_next (stepKeeps_command fun _ h => h.splicePulse) he
  | markRead code ok position => exact stepKeeps_next (stepKeeps_command fun _ h => h.takeMark code ok position) he
  | lockAcquired => exact stepKeeps_next (stepKeeps_command fun _ h => h.lockAcquired) he
  | lockLost => exact stepKeeps_next (stepKeeps_command fun _ h => h.lockLoseTest) he
  | bandStart l => exact stepKeeps_next (stepKeeps_commandAt fun _ h => h.tryBandStart) he
  | rowArrived ws l => exact stepKeeps_next (stepKeeps_commandAt fun _ h => h.rowDone ws) he
  | heatSample ch => exact stepKeeps_next (stepKeeps_command fun _ h => h.heatSample ch) he
  | zoneRecovery z => exact stepKeeps_next (stepKeeps_command fun _ h => (h.same (by rfl))) he
  | drumSettled => exact stepKeeps_next (stepKeeps_command fun _ h => h.settleTest) he
  | rampStep => exact stepKeeps_next (stepKeeps_command fun _ h => h.rampStep) he
  | tensionSample cells l => exact stepKeeps_next (stepKeeps_commandAt fun _ h => h.tensionSample cells) he
  | webFault w => exact stepKeeps_next (stepKeeps_command fun _ h => h.webFault w) he
  | lineRunning l => exact stepKeeps_next (stepKeeps_commandAt fun _ h => h.runningTest) he
  | speedZero l => exact stepKeeps_next (stepKeeps_commandAt fun _ h => h.speedZeroTest) he
  | stretchUpdate => exact stepKeeps_next (stepKeeps_command fun _ h => h.stretchUpdate) he
  | nipSwitchChange o c l =>
    exact stepKeeps_next (stepKeeps_pinned fun _ h => LawsKept.nipSwitches ((h.sampleLines l).same (by rfl))) he
  | nipTravelTimeout => exact stepKeeps_next (stepKeeps_command fun _ h => h.nipTimeout) he
  | nipHoldExpiry => exact stepKeeps_next (stepKeeps_command fun _ h => h.nipHoldTest) he
  | encoderLoss e => exact stepKeeps_next (stepKeeps_command fun _ h => h.encoderLoss e) he
  | statusFrame b => exact stepKeeps_next (stepKeeps_command fun _ h => h.byteWhere _ b _) he
  | replyFrame b => exact stepKeeps_next (stepKeeps_command fun _ h => h.byteWhere _ b _) he
  | badFrame b framing => exact stepKeeps_next (stepKeeps_command fun _ h => h.byteWhere _ b framing) he
  | frameByteGap => exact stepKeeps_next (stepKeeps_command fun _ h => h.gapTest) he
  | instrumentSilence => exact stepKeeps_next (stepKeeps_command fun _ h => h.instrumentSilence) he
  | triggerTimeout => exact stepKeeps_next (stepKeeps_command fun _ h => h.triggerTimeouts) he
  | measureSent => exact stepKeeps_next (stepKeeps_command fun _ h => h.measureSent) he
  | driftSet => exact stepKeeps_next (stepKeeps_command fun _ h => h.driftSetTest) he
  | driftClear => exact stepKeeps_next (stepKeeps_command fun _ h => h.driftClearTest) he
  | chainPoll l => exact stepKeeps_next (stepKeeps_commandAt fun _ h => h.chainPoll) he
  | ticketReadDone ws l => exact stepKeeps_next (stepKeeps_commandAt fun _ h => h.transferDone _ ws) he
  | headerWriteDone => exact stepKeeps_next (stepKeeps_command fun _ h => h.transferDone _ _) he
  | profileCopyDone ws => exact stepKeeps_next (stepKeeps_command fun _ h => h.transferDone _ ws) he
  | recordWriteDone => exact stepKeeps_next (stepKeeps_command fun _ h => h.transferDone _ _) he
  | countsWriteDone l => exact stepKeeps_next (stepKeeps_commandAt fun _ h => h.transferDone _ _) he
  | burstEnd ws l => exact stepKeeps_next (stepKeeps_commandAt fun _ h => h.burstEnd ws) he
  | busError n l => exact stepKeeps_next (stepKeeps_commandAt fun _ h => h.busError n) he
  | progressTimer => exact stepKeeps_next (stepKeeps_command fun _ h => h.progressTimer) he
  | progressWriteDone => exact stepKeeps_next (stepKeeps_command fun _ h => h.transferDone _ _) he
  | softResetComplete => exact stepKeeps_next (stepKeeps_command fun _ h => h.softComplete) he
  | linkByte b framing => exact stepKeeps_next (stepKeeps_command fun _ h => h.takeByte b framing) he

end Sys2Proof.Machine
end

section
namespace Sys2Proof.Proofs

open Sys2Proof.Machine

/-- Settles O59: a command is one operation, each of which keeps the laws, with the arbiter behind it; a millisecond moves timers alone. -/
theorem valueLawsKept : Obligations.ValueLawsKept := by
  intro s t h
  unfold step at h
  cases hq : s.pending with
  | nil =>
    rw [hq] at h
    exact stepKeeps_next stepKeeps_tick h
  | cons c rest =>
    rw [hq] at h
    exact stepKeeps_exec (s := { s with pending := rest }) h

end Sys2Proof.Proofs
end

section
/-! LOAD_PROFILE and REPORT (04 R73, R74, 09 R176): the block's part of each ticket, and the last burst of client 4's transfer. -/

namespace Sys2Proof.Machine

/-! ## Handed to PS and to TR -/

/-- A LOAD_PROFILE at PS: the staging slot is COPYING with no words and the image is asked for (04 R74). -/
theorem takeLoad_becomes {ws : List Word} {u x : State} {ns : List Notice} (h : Becomes u ns x) : Becomes { u with
    ps.staging := some { target := Fin.ofNat 8 (natAt ws 0), words := [] },
    smp.copies := u.smp.copies ++
      [{ kind := .profileCopy, addr := natAt ws 1 / 16 * 16, moved := 0, left := 64, words := [] }] } ns (takeLoad ws x) :=
  (h.setPs (fun p => { p with staging := some { target := Fin.ofNat 8 (natAt ws 0), words := [] } })).setCopies
    (· ++ [readOf .profileCopy (address (wordAt ws 1)) 64])

/-- The snapshot does not look at the port (11, 11.6). -/
theorem Becomes.snapshotWords {u x : State} {ns : List Notice} (h : Becomes u ns x) : snapshotWords x = snapshotWords u := by
  rw [h.eq_setPort]
  rfl

/-- A REPORT at TR: the snapshot is to be written, the peak records and in MANUAL mode the mark error counter are clear (09 R176). -/
theorem takeReport_becomes {ws : List Word} {u x : State} {ns : List Notice} (h : Becomes u ns x) : Becomes { u with
    dc.webs := u.dc.webs.map (fun w => { w with peak := none }),
    mr.errors := if u.cfg.counterMode = .manual then 0 else u.mr.errors,
    smp.copies := u.smp.copies ++ [writeOf .reportWrite (natAt ws 0 / 16 * 16) (snapshotWords u)] } ns (takeReport ws x) := by
  have hclear : clearReported x = { x with
      dc.webs := x.dc.webs.map (fun w => { w with peak := none }),
      mr.errors := if u.cfg.counterMode = .manual then 0 else x.mr.errors } := by
    unfold clearReported
    rw [h.cfg]
    cases u.cfg.counterMode <;> rfl
  unfold takeReport
  rw [hclear, h.snapshotWords]
  exact ((h.setDc (fun d => { d with webs := d.webs.map (fun w => { w with peak := none }) })).setMr
    (fun m => { m with errors := if u.cfg.counterMode = .manual then 0 else m.errors })).setCopies
      (· ++ [writeOf .reportWrite (natAt ws 0 / 16 * 16) (Machine.snapshotWords u)])

/-! ## The last burst of a transfer of client 4 -/

/-- It is the event of a command that names such transfers. -/
theorem transferDone_copy {x : Transfer} {more : List Transfer} {g : Grant} {ws : List Word} {s : State} {p : Transfer → Bool}
    (hg : s.smp.grant = some g) (hc : g.client = .copy) (hd : g.dropped = false) (hq : s.smp.copies = x :: more)
    (hl : x.left ≤ x.moves g ws) (hp : p x = true) : transferDone p ws s = transferEnded (x.after (x.moves g ws) ws)
      { s.burstMoved x (x.moves g ws) ws with smp.grant := none, smp.copies := more } := by
  have hq' : s.smp.queue g.client = x :: more := by
    rw [hc]
    exact hq
  unfold transferDone
  rw [finishes_last hg hd hq' hl, if_pos hp, burstEnd_transfer hg hd hq', transferBurst_last hl, hc]
  unfold State.burstMoved stageWords
  split
  · rfl
  · split <;> rfl

/-- A soft reset that is not under way leaves a REPORT's snapshot write to its ticket (09 R176). -/
theorem reportEnded_done {s : State} (hs : s.smp.soft = .off) : reportEnded true s = finishTicket .done .ok 0 s := by
  unfold reportEnded
  rw [hs]
  rfl

theorem transferEnded_report {x : Transfer} {n : Nat} {ws : List Word} {s : State} (h : x.kind = .reportWrite) :
    transferEnded (x.after n ws) s = reportEnded true s := by
  unfold transferEnded Transfer.after
  rw [h]

theorem transferEnded_image {x : Transfer} {n : Nat} {ws : List Word} {s : State} (h : x.kind = .profileCopy) :
    transferEnded (x.after n ws) s = copyEnded (x.words ++ ws.take n) s := by
  have hw : x.isWrite = false := by simp [Transfer.isWrite, h]
  unfold transferEnded Transfer.after
  rw [h, hw]
  rfl

/-- A ticket finished at the end of its block's last transfer: what the command brings. -/
theorem kick_finishTicket {t : Ticket} {u : State} {st : TicketState} {status : Status} {d : Nat} (ht : u.tr.ticket = some t)
    (hw : ∀ y ∈ u.smp.writes, y.isRepeatedTaken t.addr = false) :
    Becomes { u with tr.ticket := some { t with phase := .final }, smp.writes := u.smp.writes ++ [finalWrite t st status d] } []
      (kick (finishTicket st status d u)) := by
  rw [finishTicket_eq ht hw]
  exact kick_becomes _

end Sys2Proof.Machine
end

section
/-! The words of a REPORT snapshot (09 R176, 11, 11.6). -/

namespace Sys2Proof.Machine

/-! ## Words of bytes, and eight halfwords -/

/-- Byte `i` of a word of four bytes. -/
theorem fieldAt_bytesWord (b0 b1 b2 b3 : Nat) {i : Nat} (hi : i < 4) :
    fieldAt (bytesWord b0 b1 b2 b3) (8 * i) 8 = ([b0, b1, b2, b3].getD i 0) % 256 := by
  show fieldAt (wordOf _) _ _ = _
  rw [fieldAt_wordOf (by omega)]
  interval_cases i <;> simp only [List.getD_cons_zero, List.getD_cons_succ] <;> omega

/-- Eight halfwords in four words from word `k` on, the low half first. -/
theorem fieldAt_eight_halves {w : Nat → Word} {f : Fin 8 → Nat} {k : Nat} (h0 : w k = halves (f 0) (f 1))
    (h1 : w (k + 1) = halves (f 2) (f 3)) (h2 : w (k + 2) = halves (f 4) (f 5)) (h3 : w (k + 3) = halves (f 6) (f 7)) (i : Fin 8) :
    fieldAt (w (k + i.val / 2)) (16 * (i.val % 2)) 16 = f i % 65536 := by
  have hlow : ∀ {a b : Nat} {x : Word}, x = halves a b → fieldAt x 0 16 = a % 65536 := fun h => by rw [h, fieldAt_halves_low]
  have hhigh : ∀ {a b : Nat} {x : Word}, x = halves a b → fieldAt x 16 16 = b % 65536 := fun h => by rw [h, fieldAt_halves_high]
  fin_cases i
  exacts [hlow h0, hhigh h0, hlow h1, hhigh h1, hlow h2, hhigh h2, hlow h3, hhigh h3]

/-! ## The words with several fields -/

section
variable (s : State)

theorem LockState.code_lt (l : LockState) : l.code < 4 := by cases l <;> decide

theorem InstrumentStatus.code_lt (i : InstrumentStatus) : i.code < 4 := by cases i <;> decide

theorem snapshotWord0_fields :
    let w := wordAt (snapshotWords s) 0
    fieldAt w 0 8 = s.bt.track.length % 256 ∧ fieldAt w 8 8 = s.re.depth % 256 ∧ fieldAt w 16 2 = s.mr.lock.code ∧
      fieldAt w 18 2 = 0 ∧ fieldAt w 20 2 = s.cv.status.code ∧ fieldAt w 22 2 = 0 ∧ w.getLsbD 24 = s.cv.drift ∧
      w.getLsbD 25 = s.bt.overflow ∧ fieldAt w 26 3 = min 4 s.bt.splices.length ∧ fieldAt w 29 3 = min 4 s.cv.list.length := by
  intro w
  have hlock := s.mr.lock.code_lt
  have hstatus := s.cv.status.code_lt
  have hdrift := bit01_le s.cv.drift
  have hover := bit01_le s.bt.overflow
  have hw : w = wordOf (s.bt.track.length % 256 + s.re.depth % 256 * 2 ^ 8 + s.mr.lock.code * 2 ^ 16 + s.cv.status.code * 2 ^ 20
     + bit01 s.cv.drift * 2 ^ 24 + bit01 s.bt.overflow * 2 ^ 25 + min 4 s.bt.splices.length * 2 ^ 26
     + min 4 s.cv.list.length * 2 ^ 29) := rfl
  have hbit : ∀ b : Bool, decide (bit01 b = 1) = b := fun b => by simp [bit01_eq_one]
  rw [hw]
  refine ⟨?_, ?_, ?_, ?_, ?_, ?_, ?_, ?_, ?_, ?_⟩
  case refine_7 | refine_8 =>
    rw [getLsbD_wordOf (by decide)]
    exact (decide_eq_decide.2 (by omega)).trans (hbit _)
  all_goals
    rw [fieldAt_wordOf (by decide)]
    omega

/-- The mark error counter and the drift runs. -/
theorem snapshotWord39_fields :
    let w := wordAt (snapshotWords s) 39
    fieldAt w 0 16 = s.mr.errors % 65536 ∧ fieldAt w 16 8 = s.cv.failRun % 256 ∧ fieldAt w 24 8 = s.cv.passRun % 256 := by
  intro w
  have hw : w = bytesWord (s.mr.errors % 256) (s.mr.errors / 256) s.cv.failRun s.cv.passRun := rfl
  rw [hw]
  refine ⟨?_, fieldAt_bytesWord _ _ _ _ (i := 2) (by decide), fieldAt_bytesWord _ _ _ _ (i := 3) (by decide)⟩
  show fieldAt (wordOf _) _ _ = _
  rw [fieldAt_wordOf (by decide)]
  omega

/-! ## The words of one field -/

theorem snapshotWord_zone (i : Fin 8) : wordAt (snapshotWords s) (18 + i.val) = wordOf (s.hc.zones.get i).integral := by
  fin_cases i <;> simp [wordAt, snapshotWords, spliceWords, Oct.toList, Oct.get]

theorem snapshotWord_web {i : Nat} (hi : i < 3) {x : WebLoop} (hx : s.dc.webs.toList[i]? = some x) :
    wordAt (snapshotWords s) (30 + i) = BitVec.ofInt 32 ((x.peak.map (fun p => p.hi - p.lo)).getD 0) := by
  have hpeak : x.peakToPeak = (x.peak.map (fun p => p.hi - p.lo)).getD 0 := by
    unfold WebLoop.peakToPeak
    cases x.peak <;> rfl
  have hword : wordAt (snapshotWords s) (30 + i) = wordOf (twos 32 x.peakToPeak) := by
    interval_cases i <;> · cases hx; rfl
  rw [hword, wordOf_twos, hpeak]

/-- The splice positions and the bands of the outstanding triggers. -/
theorem snapshotWord_lists {i : Nat} (hi : i < 4) :
    wordAt (snapshotWords s) (5 + 2 * i) = wordOf (s.bt.splices.getD i 0 % 2 ^ 32) ∧
      wordAt (snapshotWords s) (6 + 2 * i) = wordOf (s.bt.splices.getD i 0 / 2 ^ 32) ∧
      wordAt (snapshotWords s) (14 + i) = wordOf ((s.cv.list[i]?.map Trigger.band).getD 0) := by
  interval_cases i <;> simp [wordAt, snapshotWords, spliceWords]

/-- The oldest and the newest band. -/
theorem snapshotWord_bands :
    wordAt (snapshotWords s) 1 = wordOf ((s.bt.track.head?.map Band.number).getD 0) ∧
      wordAt (snapshotWords s) 2 = wordOf ((s.bt.track.getLast?.map Band.number).getD 0) := by
  simp [wordAt, snapshotWords]

theorem snapshotWord_counters :
    let w := wordAt (snapshotWords s)
    w 33 = wordOf s.re.lowWater ∧ w 34 = wordOf s.re.underruns ∧ w 35 = wordOf s.re.gaps ∧ w 36 = wordOf s.cv.late ∧
      w 37 = wordOf s.cv.bad ∧ w 38 = wordOf s.mr.strays := by
  simp [wordAt, snapshotWords, spliceWords, Oct.toList, Webs.toList]

theorem snapshotWord_duty (i : Fin 8) :
    fieldAt (wordAt (snapshotWords s) (26 + i.val / 2)) (16 * (i.val % 2)) 16 = (s.hc.zones.get i).duty % 65536 := by
  refine fieldAt_eight_halves (k := 26) (f := fun i => (s.hc.zones.get i).duty) ?_ ?_ ?_ ?_ i
  all_goals simp [wordAt, snapshotWords, spliceWords, Oct.toList, Oct.get]

theorem snapshotWord_tau (i : Fin 8) : fieldAt (wordAt (snapshotWords s) (40 + i.val / 2)) (16 * (i.val % 2)) 16 =
    (BitVec.ofInt 16 (s.ps.slots.get i).tau).toNat := by
  refine (fieldAt_eight_halves (k := 40) (f := fun i => twos 16 (s.ps.slots.get i).tau) ?_ ?_ ?_ ?_ i).trans
    (Nat.mod_eq_of_lt (twos_lt 16 _))
  all_goals simp [wordAt, snapshotWords, spliceWords, Oct.toList, Oct.get, Webs.toList]

theorem snapshotWord_beyond {i : Nat} (hi : 44 ≤ i) : wordAt (snapshotWords s) i = 0 := by
  have hsplit : snapshotWords s = (snapshotWords s).take 44 ++ List.replicate 20 0 := rfl
  have hlen : ((snapshotWords s).take 44).length = 44 := rfl
  rw [wordAt, hsplit, List.getD_append_right _ _ _ _ (by rw [hlen]; exact hi), List.getD_eq_getElem?_getD,
    List.getElem?_replicate]
  split <;> rfl

end

end Sys2Proof.Machine
end

section
namespace Sys2Proof.Proofs

open Sys2Proof.Machine

/-- Settles O17: the hand-off of each ticket is `handing_run`, the snapshot's words are read off one by one, and the end of its write is
the last burst of client 4's transfer. -/
theorem loadAndReportTickets : Obligations.LoadAndReportTickets := by
  intro t rest s
  refine ⟨fun h hk => ?_, fun h hk => ?_, ?_, fun x more g hp hsoft ht hq hk hg hc hd hl hw => ?_⟩
  · obtain ⟨x, hx, hrun⟩ := handing_run h
    have hexec : execute t.kind t.body x = takeLoad t.body x := by
      rw [hk]
      rfl
    have hblock := takeLoad_becomes (ws := t.body) hx
    rw [← hexec] at hblock
    have hu := hrun _ _ hblock (Option.some_ne_none _) h.1.2
    rw [hk] at hu
    exact ⟨_, rfl, hu.after (frame_of_blocks (htr := .inl (by decide)) (hps := .inl (by decide))), hu.tr, hu.ps, hu.writes, hu.copies⟩
  · obtain ⟨x, hx, hrun⟩ := handing_run h
    have hexec : execute t.kind t.body x = takeReport t.body x := by
      rw [hk]
      rfl
    have hblock := takeReport_becomes (ws := t.body) hx
    rw [← hexec] at hblock
    have hu := hrun _ _ hblock (Option.some_ne_none _) h.1.2
    rw [hk] at hu
    exact ⟨_, rfl, hu.after (frame_of_blocks (htr := .inl (by decide)) (hdc := .inl (by decide)) (hmr := .inl (by decide))), hu.tr,
      hu.dc, hu.mr, hu.writes, hu.copies⟩
  · intro w n count
    obtain ⟨h0, h8, hlock, h18, hstatus, h22, hdrift, hover, hspl, htrig⟩ := snapshotWord0_fields s
    obtain ⟨herr, hfail, hpass⟩ := snapshotWord39_fields s
    obtain ⟨hold, hnew⟩ := snapshotWord_bands s
    obtain ⟨h33, h34, h35, h36, h37, h38⟩ := snapshotWord_counters s
    have hcount : ∀ st, s.bt.countIn st % 256 = count st := fun st => by
      simp only [count, Tracker.countIn, beq_eq_decide]
    refine ⟨rfl, h0, h8, ?_, h18, ?_, h22, fun i hi => ?_, fun i hi => ?_, fieldAt_bytesWord _ _ _ _ (i := 3) (by decide), fun i hi => ?_,
      fun i => ⟨snapshotWord_duty s i, snapshotWord_tau s i⟩, hfail, hpass, hdrift, hover, hspl, htrig, hold, hnew, fun i hi => snapshotWord_lists s hi,
      snapshotWord_zone s, fun i hi x hx => snapshotWord_web s hi hx, h33, h34, h35, h36, h37, h38, herr,
      fun i hi => snapshotWord_beyond s hi⟩
    · rw [hlock]
      cases s.mr.lock <;> rfl
    · rw [hstatus]
      cases s.cv.status <;> rfl
    · refine (congrArg some (fieldAt_bytesWord _ _ _ _ hi)).trans ?_
      interval_cases i <;> exact congrArg some (hcount _)
    · refine (congrArg some (fieldAt_bytesWord _ _ _ _ (by omega))).trans ?_
      interval_cases i <;> exact congrArg some (hcount _)
    · refine (fieldAt_bytesWord _ _ _ _ hi).trans ?_
      interval_cases i <;> rfl
  · have hx : x.isWrite = true := by simp [Transfer.isWrite, hk]
    have hmoves : x.moves g [] = g.words := if_pos hx
    let V : State := { s with out := x.put g.words, smp.grant := none, smp.copies := more }
    have hdone : transferDone Transfer.isReport [] { s with out := [] } = finishTicket .done .ok 0 V := by
      rw [transferDone_copy (s := { s with out := [] }) (ws := []) hg hc hd hq (by rwa [hmoves]) (by simp [Transfer.isReport, hk]),
        transferEnded_report hk, hmoves, State.burstMoved, if_pos hx]
      exact reportEnded_done (s := V) hsoft
    have hu := kick_finishTicket (u := V) (st := .done) (status := .ok) (d := 0) ht hw
    rw [← hdone, ← command_eq hp] at hu
    exact ⟨_, rfl, hu.after (frame_of_blocks (htr := .inl (by decide))), hu.tr, hu.copies, hu.writes⟩

end Sys2Proof.Proofs
end

section
/-! The profile image (04 R72, 11.5): its halfwords and signed fields, and when its checks pass. -/

namespace Sys2Proof.Machine

/-! ## Halfwords (11, 11.5) -/

/-- A 16-bit value read as two's complement is the bit vector's. -/
theorem signed16_eq {n : Nat} (h : n < 65536) : signed16 n = (BitVec.ofNat 16 n).toInt := by
  rw [BitVec.toInt_eq_toNat_cond, BitVec.toNat_ofNat, Nat.mod_eq_of_lt h, signed16]
  split_ifs <;> omega

/-- Halfword `i` is the digit of base 65,536 that the parity of `i` names, the low one first. -/
theorem halfAt_eq (ws : List Word) (i : Nat) : halfAt ws i = (wordAt ws (i / 2)).toNat / 65536 ^ (i % 2) % 65536 := by
  unfold halfAt
  rcases Nat.mod_two_eq_zero_or_one i with h | h
  · rw [if_pos h, h, pow_zero, Nat.div_one, lowHalf]
  · rw [if_neg (by omega), h, pow_one, highHalf, Nat.mod_eq_of_lt]
    have := (wordAt ws (i / 2)).isLt
    omega

theorem halfAt_lt (ws : List Word) (i : Nat) : halfAt ws i < 65536 := by
  rw [halfAt_eq]
  exact Nat.mod_lt _ (by decide)

theorem imageZ_eq (ws : List Word) (i : Nat) : imageZ ws i = (BitVec.ofNat 16 (halfAt ws i)).toInt := signed16_eq (halfAt_lt ws i)

/-! ## The field checks (04 R72) -/

theorem inZ_iff (x lo hi : Int) : inZ x lo hi = true ↔ lo ≤ x ∧ x ≤ hi := by
  simp [inZ]

/-- The diagonal of the matrix, whose coefficients have a range of their own. -/
theorem inMatrix_iff (ws : List Word) {i : Nat} (h : i < 16) :
    (if i % 5 = 0 then inZ (imageZ ws (68 + i)) 0 2047 else inZ (imageZ ws (68 + i)) (-512) 511) = true ↔
      if i = 0 ∨ i = 5 ∨ i = 10 ∨ i = 15 then 0 ≤ imageZ ws (68 + i) ∧ imageZ ws (68 + i) ≤ 2047
      else -512 ≤ imageZ ws (68 + i) ∧ imageZ ws (68 + i) ≤ 511 := by
  have hdiag : (i = 0 ∨ i = 5 ∨ i = 10 ∨ i = 15) ↔ i % 5 = 0 := by omega
  simp only [hdiag]
  split <;> exact inZ_iff ..

/-- Every field of an image lies in its range: halfwords `half`, signed fields `z`, the dose target `dref`. -/
def ImageInRange (half : Nat → Nat) (z : Nat → Int) (dref : Nat) : Prop :=
  (∀ i < 68, half i ≤ 4095) ∧
    (∀ i < 16, if i = 0 ∨ i = 5 ∨ i = 10 ∨ i = 15 then 0 ≤ z (68 + i) ∧ z (68 + i) ≤ 2047
      else -512 ≤ z (68 + i) ∧ z (68 + i) ≤ 511) ∧
    (∀ i < 4, -2048 ≤ z (84 + i) ∧ z (84 + i) ≤ 2047) ∧ 1024 ≤ half 88 ∧ half 88 ≤ 16380 ∧ half 89 ≤ 2047 ∧
    1 ≤ dref ∧ dref ≤ 4000000 ∧ 1 ≤ half 92 ∧ half 92 ≤ 50 ∧ 1 ≤ half 93 ∧ half 93 ≤ 9999 ∧
    half 99 ≤ 255 ∧ -256 ≤ z 97 ∧ z 97 ≤ 255

/-- A property of every check of an image, group by group. -/
theorem forall_imageChecks {ws : List Word} {P : Bool → Prop} : (∀ c ∈ imageChecks ws, P c.2) ↔
    (∀ i < 68, P (decide (halfAt ws i ≤ 4095))) ∧
    (∀ i < 16, P (if i % 5 = 0 then inZ (imageZ ws (68 + i)) 0 2047 else inZ (imageZ ws (68 + i)) (-512) 511)) ∧
    (∀ i < 4, P (inZ (imageZ ws (84 + i)) (-2048) 2047)) ∧ P (inN (halfAt ws 88) 1024 16380) ∧ P (inN (natAt ws 45) 1 4000000) ∧
    P (inN (halfAt ws 89) 0 2047) ∧ P (inN (halfAt ws 92) 1 50) ∧ P true ∧ P (inN (halfAt ws 93) 1 9999) ∧
    P (inN (halfAt ws 99) 0 255) ∧ P (inZ (imageZ ws 97) (-256) 255) := by
  simp only [imageChecks, List.mem_append, List.mem_cons, List.not_mem_nil, or_false, List.mem_map, List.mem_range, or_imp,
    forall_and, forall_eq, forall_exists_index, and_imp, forall_apply_eq_imp_iff₂, and_assoc]
  tauto

theorem imageChecks_pass_iff (ws : List Word) :
    firstFail (imageChecks ws) = none ↔ ImageInRange (halfAt ws) (imageZ ws) (natAt ws 45) := by
  rw [firstFail_eq_none_iff, forall_imageChecks (P := (· = true))]
  simp only [decide_eq_true_eq, inN_iff, inZ_iff, Nat.zero_le, true_and, ImageInRange, and_assoc]
  refine and_congr_right fun _ => and_congr (forall₂_congr fun i hi => inMatrix_iff ws hi) ?_
  tauto

/-- The knots of an image that passes are 17 values of at most 4095 for each ink (04 R72). -/
theorem knots_of_pass {ws : List Word} (h : firstFail (imageChecks ws) = none) :
    ∀ k ∈ (imageProfile ws).knots.toList, k.length = 17 ∧ ∀ v ∈ k, v ≤ 4095 := by
  have hhalf : ∀ i < 68, halfAt ws i ≤ 4095 := ((imageChecks_pass_iff ws).1 h).1
  have hknots : ∀ i ≤ 51, (imageKnots ws i).length = 17 ∧ ∀ v ∈ imageKnots ws i, v ≤ 4095 := fun i hi => by
    refine ⟨by simp [imageKnots], fun v hv => ?_⟩
    obtain ⟨k, hk, rfl⟩ := List.mem_map.1 hv
    have := List.mem_range.1 hk
    exact hhalf _ (by omega)
  intro k hk
  simp only [imageProfile, Ink.toList, List.mem_cons, List.not_mem_nil, or_false] at hk
  rcases hk with rfl | rfl | rfl | rfl <;> exact hknots _ (by decide)

/-! ## The end of the copy (04 R75) -/

theorem Oct.get_set {α : Type} (o : Oct α) (i : Fin 8) (a : α) : (o.set i a).get i = a := by
  fin_cases i <;> rfl

section
variable {ws : List Word} {s : State} {c : Copying} (hc : s.ps.staging = some c)
include hc

/-- An image that passes is committed to its slot, and the ticket is done with the new generation. -/
theorem copyEnded_pass (h : firstFail (imageChecks ws) = none) : copyEnded ws s =
    finishTicket .done .ok (((s.ps.slots.get c.target).gen + 1) % 65536)
      { s with ps := { staging := none, slots := s.ps.slots.set c.target ((s.ps.slots.get c.target).commit ws) } } := by
  unfold copyEnded
  rw [hc]
  simp only [h]
  exact congrArg (finishTicket .done .ok · _) (congrArg ProfileSlot.gen (Oct.get_set ..))

/-- An image with a field outside its range leaves the slots, and the ticket fails with that field. -/
theorem copyEnded_fail {i : Nat} (h : firstFail (imageChecks ws) = some i) :
    copyEnded ws s = finishTicket .failed .badProfile i { s with ps := { s.ps with staging := none } } := by
  unfold copyEnded
  rw [hc]
  simp only [h]

end

/-- The last words of an image arrive: the copy ends with the whole image. -/
theorem transferDone_image {x : Transfer} {more : List Transfer} {g : Grant} {ws : List Word} {s : State} {c : Copying}
    (hg : s.smp.grant = some g) (hc : g.client = .copy) (hd : g.dropped = false) (hq : s.smp.copies = x :: more)
    (hk : x.kind = .profileCopy) (hl : x.left ≤ min ws.length g.words) (hs : s.ps.staging = some c) :
    transferDone Transfer.isCopy ws s = copyEnded (x.words ++ ws.take g.words)
      { s with ps := { s.ps with staging := some { c with words := c.words ++ ws.take g.words } },
               smp := { s.smp with grant := none, copies := more } } := by
  have hw : x.isWrite = false := by simp [Transfer.isWrite, hk]
  have hcopy : x.isCopy = true := by simp [Transfer.isCopy, hk]
  have hmoves : x.moves g ws = min ws.length g.words := if_neg (by simp [hw])
  have htake : ws.take (min ws.length g.words) = ws.take g.words := by
    rw [min_comm, ← List.take_take, List.take_length]
  rw [transferDone_copy hg hc hd hq (by rwa [hmoves]) hcopy, transferEnded_image hk, hmoves, htake, State.burstMoved,
    if_neg (by simp [hw]), stageWords, if_pos hcopy, htake, hs]
  rfl

end Sys2Proof.Machine
end

section
namespace Sys2Proof.Proofs

open Sys2Proof.Machine

/-- Settles O49: the last words of the image end the copy, `imageChecks_pass_iff` says when it is committed, and either way what the
ticket's final state brings is `kick_finishTicket`. -/
theorem profileCopy : Obligations.ProfileCopy := by
  intro t c x more g ws s hp ht hs hq hk hg hc hd hl hw image q
  have hend := transferDone_image (s := { s with out := [] }) hg hc hd hq hk hl hs
  refine ⟨?_, fun h => ?_, fun i h => ?_⟩
  · simp only [← halfAt_eq, ← imageZ_eq]
    exact imageChecks_pass_iff image
  · rw [copyEnded_pass rfl h] at hend
    have hu := kick_finishTicket (u := { s with
      out := [], smp := { s.smp with grant := none, copies := more },
      ps := { staging := none, slots := s.ps.slots.set c.target (q.commit image) } })
      (st := .done) (status := .ok) (d := (q.gen + 1) % 65536) ht hw
    rw [← hend, ← command_eq hp.1] at hu
    obtain ⟨hlow, hhigh⟩ := tauInit_mem_of_pass h
    refine ⟨_, rfl, hu.after (frame_of_blocks (htr := .inl (by decide)) (hps := .inl (by decide))), hu.tr, hu.copies, hu.ps, hu.writes,
      hlow, hhigh, ?_, knots_of_pass h⟩
    simp only [← halfAt_eq, ← imageZ_eq]
    rfl
  · rw [copyEnded_fail rfl h] at hend
    have hu := kick_finishTicket (u := { s with
      out := [], smp := { s.smp with grant := none, copies := more }, ps := { s.ps with staging := none } })
      (st := .failed) (status := .badProfile) (d := i) ht hw
    rw [← hend, ← command_eq hp.1] at hu
    exact ⟨_, rfl, hu.after (frame_of_blocks (htr := .inl (by decide)) (hps := .inl (by decide))), hu.tr, hu.copies, hu.ps, hu.writes⟩

end Sys2Proof.Proofs
end

section
/-! The stages of a heat sample (05 R93): each zone's readings, loss and recovery, the over-temperature tests, the duties, and the drum's
judgement, said once for every state. -/

namespace Sys2Proof.Machine

/-! ## Eight zones -/

theorem Oct.mem_toList_iff {α : Type} (o : Oct α) (x : α) : x ∈ o.toList ↔ ∃ i, o.get i = x := Oct.mem_toList_ofFn o.get x

theorem Zone.enabled_iff (z : Zone) : z.enabled = true ↔ z.enable = true ∧ 1 ≤ z.target := by
  rw [Zone.enabled, Bool.and_eq_true, decide_eq_true_eq]

/-- Zones that differ in duty and integral alone have the same `cut`; no test of a sample tells them apart. -/
theorem Zone.enabled_cut (z : Zone) : z.cut.enabled = z.enabled := rfl
theorem Zone.over_cut (z : Zone) : z.cut.over = z.over := rfl
theorem Zone.missing_cut (z : Zone) : z.cut.missing = z.missing := rfl
theorem Zone.dose_cut (ton : Nat) (z : Zone) : z.cut.dose ton = z.dose ton := rfl

section
variable {z w : Zone} (h : z.cut = w.cut)

include h

theorem Zone.target_of_cut : z.target = w.target := (Zone.mk.inj h).1
theorem Zone.enable_of_cut : z.enable = w.enable := (Zone.mk.inj h).2.1
theorem Zone.eff_of_cut : z.eff = w.eff := (Zone.mk.inj h).2.2.1
theorem Zone.reading_of_cut : z.reading = w.reading := (Zone.mk.inj h).2.2.2.1
theorem Zone.state_of_cut : z.state = w.state := (Zone.mk.inj h).2.2.2.2.1
theorem Zone.validRun_of_cut : z.validRun = w.validRun := (Zone.mk.inj h).2.2.2.2.2.2.2

end

/-- The duties leave everything else of a zone but its integral. -/
theorem Zone.regulate_cut (kp ki : Nat) (z : Zone) : (z.regulate kp ki).cut = z.cut := by
  unfold Zone.regulate
  split <;> rfl

theorem Zone.regulate_off (kp ki : Nat) {z : Zone} (h : z.state ≠ .regulate) : z.regulate kp ki = { z with duty := 0 } := by
  unfold Zone.regulate
  split
  · next hs _ => exact absurd hs h
  all_goals rfl

/-! ## Readings, loss and recovery (05 R87, R96, R97) -/

theorem channelReading_valid {c : Channel} (hf : c.fault = false) (hv : c.value.toNat ≤ 2600) :
    channelReading c = some c.value.toNat := if_neg (by simp [hf, hv])

theorem channelReading_invalid {c : Channel} (h : c.fault = true ∨ 2600 < c.value.toNat) : channelReading c = none :=
  if_pos (by simpa using h)

/-- A zone after stages 1 and 2 of a sample. -/
def Zone.sampled (c : Channel) (z : Zone) : Zone := Zone.lossRecovery { z with reading := channelReading c }

theorem takeReadings_get (ch : Oct Channel) (s : State) (i : Fin 8) :
    (takeReadings ch s).hc.zones.get i = (s.hc.zones.get i).sampled (ch.get i) := Oct.get_ofFn _ i

/-- A sample keeps what SET_HEAT gave the zone, and its reading is the channel's. -/
theorem Zone.sampled_settings (c : Channel) (z : Zone) :
    (z.sampled c).target = z.target ∧ (z.sampled c).enable = z.enable ∧ (z.sampled c).reading = channelReading c := by
  unfold Zone.sampled Zone.lossRecovery
  split
  · exact ⟨rfl, rfl, rfl⟩
  · split <;> exact ⟨rfl, rfl, rfl⟩
  all_goals exact ⟨rfl, rfl, rfl⟩

section
variable {c : Channel} {z : Zone}

theorem Zone.sampled_off (h : z.state = .off) : z.sampled c = { z with reading := channelReading c } := by
  unfold Zone.sampled Zone.lossRecovery
  simp [h]

theorem Zone.sampled_regulate_lost (h : z.state = .regulate) (hr : channelReading c = none) :
    z.sampled c = { z with reading := none, state := .lost, duty := 0, integral := 0, validRun := 0 } := by
  unfold Zone.sampled Zone.lossRecovery
  simp [h, hr]

theorem Zone.sampled_regulate {r : Nat} (h : z.state = .regulate) (hr : channelReading c = some r) :
    z.sampled c = { z with reading := some r } := by
  unfold Zone.sampled Zone.lossRecovery
  simp [h, hr]

theorem Zone.sampled_lost (h : z.state = .lost) (hr : channelReading c = none) :
    z.sampled c = { z with reading := none, validRun := 0 } := by
  unfold Zone.sampled Zone.lossRecovery
  simp [h, hr]

theorem Zone.sampled_counts {r : Nat} (h : z.state = .lost) (hv : z.validRun < 19) (hr : channelReading c = some r) :
    z.sampled c = { z with reading := some r, validRun := z.validRun + 1 } := by
  unfold Zone.sampled Zone.lossRecovery
  simp [h, hr, hv]

theorem Zone.sampled_recovers {r : Nat} (h : z.state = .lost) (hv : 19 ≤ z.validRun) (hr : channelReading c = some r) :
    z.sampled c = Zone.regulateFrom r { z with reading := some r } := by
  unfold Zone.sampled Zone.lossRecovery
  simp [h, hr, hv]

end

/-! ## The drum's judgement (05 R98, R99) -/

/-- What entering a drum state brings, where that is a change and where it is none. -/
theorem setDrum_becomes_any (d : DrumState) (s : State) :
    Becomes { s with hc.drum := d } (if d = s.hc.drum then [] else [.drum]) (setDrum d s) := by
  by_cases h : s.hc.drum = d
  · have hself : setDrum d s = s := if_pos h
    rw [hself, if_pos h.symm, ← h]
    exact Becomes.refl s
  · rw [if_neg (Ne.symm h)]
    exact setDrum_becomes h

/-- HC after stage 6. -/
def Heat.judged (h : Heat) : Heat :=
  let on := h.zones.toList.filter Zone.enabled
  let count := if on.all Zone.settled then min 200 (h.settle + 1) else 0
  match h.drum with
  | .heating | .deviation => { h with settle := count, drum := if 200 ≤ count then .atTemp else h.drum }
  | .atTemp => if on.any Zone.deviates then { h with settle := 0, drum := .deviation } else h
  | .cold | .tripped => h

theorem settleTest_becomes {s : State} (h : s.hc.drum = .heating ∨ s.hc.drum = .deviation) :
    let d := if 200 ≤ s.hc.settle then .atTemp else s.hc.drum
    Becomes { s with hc.drum := d } (if d = s.hc.drum then [] else [.drum]) (settleTest s) := by
  intro d
  by_cases hn : 200 ≤ s.hc.settle
  · have hd : d = .atTemp := if_pos hn
    rw [show settleTest s = setDrum .atTemp s from if_pos ⟨h, hn⟩, hd]
    exact setDrum_becomes_any _ s
  · have hd : d = s.hc.drum := if_neg hn
    rw [show settleTest s = s from if_neg fun hc => hn hc.2, hd, if_pos rfl]
    exact Becomes.refl s

theorem judgeDrum_becomes (s : State) : Becomes { s with hc := s.hc.judged } (if s.hc.judged.drum = s.hc.drum then [] else [.drum])
    (judgeDrum s) := by
  unfold judgeDrum Heat.judged
  dsimp only
  cases hd : s.hc.drum with
  | heating | deviation =>
    let n := if (s.hc.zones.toList.filter Zone.enabled).all Zone.settled then min 200 (s.hc.settle + 1) else 0
    have hb := settleTest_becomes (s := { s with hc.settle := n }) (by simp [hd])
    dsimp only at hb ⊢
    rw [hd] at hb
    exact hb
  | atTemp =>
    dsimp only
    split
    · have hb := setDrum_becomes_any .deviation { s with hc.settle := 0 }
      dsimp only at hb
      rw [hd] at hb
      exact hb
    · exact Becomes.refl s
  | cold | tripped =>
    dsimp only
    rw [if_pos hd]
    exact Becomes.refl s

/-! ## The judgement, read by its statements -/

theorem judged_zones (h : Heat) : h.judged.zones = h.zones := by
  unfold Heat.judged
  dsimp only
  split
  · rfl
  · rfl
  · split <;> rfl
  · rfl
  · rfl

/-- The judgement neither trips a drum nor frees one. -/
theorem judged_tripped_iff (h : Heat) : h.judged.drum = .tripped ↔ h.drum = .tripped := by
  unfold Heat.judged
  cases hd : h.drum with
  | heating | deviation =>
    dsimp only
    split_ifs <;> simp
  | atTemp =>
    dsimp only
    split <;> simp [hd]
  | cold | tripped => simp [hd]

theorem judged_stands {h : Heat} (hd : h.drum = .cold ∨ h.drum = .tripped) : h.judged = h := by
  unfold Heat.judged
  rcases hd with hd | hd <;> rw [hd]

section
variable {h : Heat}

theorem judged_settles (hd : h.drum = .heating ∨ h.drum = .deviation) (hs : (h.zones.toList.filter Zone.enabled).all Zone.settled = true) :
    h.judged.settle = min 200 (h.settle + 1) ∧ h.judged.drum = if 199 ≤ h.settle then .atTemp else h.drum := by
  have hiff : 200 ≤ min 200 (h.settle + 1) ↔ 199 ≤ h.settle := by omega
  unfold Heat.judged
  rcases hd with hd | hd <;> simp [hd, hs, hiff]

theorem judged_restarts (hd : h.drum = .heating ∨ h.drum = .deviation)
    (hs : ¬(h.zones.toList.filter Zone.enabled).all Zone.settled = true) : h.judged.settle = 0 ∧ h.judged.drum = h.drum := by
  unfold Heat.judged
  rcases hd with hd | hd <;> simp [hd, hs]

theorem judged_deviates (hd : h.drum = .atTemp) (hs : (h.zones.toList.filter Zone.enabled).any Zone.deviates = true) :
    h.judged.drum = .deviation ∧ h.judged.settle = 0 := by
  unfold Heat.judged
  simp only [hd, if_pos hs]
  exact ⟨trivial, trivial⟩

theorem judged_keeps (hd : h.drum = .atTemp) (hs : ¬(h.zones.toList.filter Zone.enabled).any Zone.deviates = true) :
    h.judged = h := by
  unfold Heat.judged
  simp only [hd, if_neg hs]

end

/-! ## The stages together (05 R93) -/

/-- HC after stages 1 and 2. -/
def Heat.sampled (ch : Oct Channel) (h : Heat) : Heat :=
  { h with zones := Oct.ofFn (fun i => (h.zones.get i).sampled (ch.get i)) }

/-- The sample finds an over-temperature, the drum not being TRIPPED already (05 R100). -/
def Heat.trips (ch : Oct Channel) (h : Heat) : Bool := h.drum != .tripped && (h.sampled ch).zones.toList.any Zone.over

/-- HC after stage 5 of a sample that finds no trip. -/
def Heat.regulated (h : Heat) : Heat :=
  { h with zones := h.zones.map (fun z => if h.drum = .tripped then { z with duty := 0 } else z.regulate h.kp h.ki) }

theorem takeReadings_overTemp (ch : Oct Channel) (s : State) : (takeReadings ch s).overTemp = s.hc.trips ch := rfl

theorem dutyStage_eq (s : State) : dutyStage s = { s with hc := s.hc.regulated } := by
  unfold dutyStage Heat.regulated
  split <;> rfl

theorem doseStage_eq (s : State) : doseStage s = { s with
    bt.track := if s.dc.nip = .closed then s.bt.track.map (accrue s.hc.zones s.hc.ton) else s.bt.track } := by
  unfold doseStage
  split <;> rfl

/-- HC after a sample. -/
theorem heatStages_hc (ch : Oct Channel) (s : State) : (heatStages ch s).hc =
    if s.hc.trips ch then
      ({ s.hc.sampled ch with drum := .tripped, zones := (s.hc.sampled ch).zones.map Zone.cut } : Heat).regulated.judged
    else (s.hc.sampled ch).regulated.judged := by
  have htail : ∀ u : State, (judgeDrum (dutyStage (doseStage u))).hc = u.hc.regulated.judged := fun u => by
    rw [(judgeDrum_becomes _).hc, dutyStage_eq, doseStage_eq]
  unfold heatStages
  dsimp only
  rw [htail, takeReadings_overTemp]
  split
  · rw [tripDrum, (setDrum_becomes_any _ _).hc]
    rfl
  · rfl

/-- A sample without a trip: the readings, the doses, the duties and the judgement. -/
theorem heatStages_becomes {ch : Oct Channel} {s : State} (h : s.hc.trips ch = false) :
    let hc := (s.hc.sampled ch).regulated
    Becomes { s with
      hc := hc.judged,
      bt.track := if s.dc.nip = .closed then s.bt.track.map (accrue (s.hc.sampled ch).zones s.hc.ton) else s.bt.track }
      (if hc.judged.drum = s.hc.drum then [] else [.drum]) (heatStages ch s) := by
  intro hc
  have hb := judgeDrum_becomes (dutyStage (doseStage (takeReadings ch s)))
  rw [dutyStage_eq, doseStage_eq] at hb
  unfold heatStages
  dsimp only
  rw [takeReadings_overTemp, h, if_neg Bool.false_ne_true, dutyStage_eq, doseStage_eq]
  exact hb

/-- The drum after a sample is TRIPPED where it was, or where the sample trips it (05 R100). -/
theorem heatStages_tripped_iff (ch : Oct Channel) (s : State) :
    (heatStages ch s).hc.drum = .tripped ↔ s.hc.drum = .tripped ∨ s.hc.trips ch = true := by
  rw [heatStages_hc]
  split
  · next h => exact ⟨fun _ => .inr h, fun _ => (judged_tripped_iff _).2 rfl⟩
  · next h =>
    rw [judged_tripped_iff]
    exact ⟨.inl, fun ht => ht.resolve_right h⟩

/-- What the duties are a function of: a trip, a drum that is TRIPPED already, or the zone itself (05 R94, R95, R100). -/
theorem heatStages_get (ch : Oct Channel) (s : State) (i : Fin 8) :
    let z := (s.hc.zones.get i).sampled (ch.get i)
    (heatStages ch s).hc.zones.get i =
      if s.hc.trips ch then z.cut else if s.hc.drum = .tripped then { z with duty := 0 } else z.regulate s.hc.kp s.hc.ki := by
  intro z
  have hz : (s.hc.sampled ch).zones.get i = z := Oct.get_ofFn _ i
  rw [heatStages_hc]
  split
  · rw [judged_zones]
    exact (Oct.get_map _ _ i).trans ((if_pos rfl).trans (by rw [Oct.get_map, hz]; rfl))
  · rw [judged_zones]
    exact (Oct.get_map _ _ i).trans (by rw [hz]; rfl)

theorem heatStages_get_cut (ch : Oct Channel) (s : State) (i : Fin 8) :
    ((heatStages ch s).hc.zones.get i).cut = ((s.hc.zones.get i).sampled (ch.get i)).cut := by
  rw [heatStages_get]
  split
  · rfl
  · split
    · rfl
    · exact Zone.regulate_cut ..

/-- A zone that is not in REGULATE, and each zone of a TRIPPED drum, has duty 0 after the sample, and an integral of 0 where it had it
(05 R94, R95). -/
theorem heatStages_get_idle {ch : Oct Channel} {s : State} {i : Fin 8}
    (h : (heatStages ch s).hc.drum = .tripped ∨ ((s.hc.zones.get i).sampled (ch.get i)).state ≠ .regulate) :
    ((heatStages ch s).hc.zones.get i).duty = 0 ∧ (((s.hc.zones.get i).sampled (ch.get i)).integral = 0 →
      ((heatStages ch s).hc.zones.get i).integral = 0) := by
  rw [heatStages_tripped_iff] at h
  rw [heatStages_get]
  split
  · exact ⟨rfl, fun _ => rfl⟩
  · next hno =>
    split
    · exact ⟨rfl, id⟩
    · next hcold =>
      rw [Zone.regulate_off _ _ (h.resolve_left fun hc => hc.elim hcold hno)]
      exact ⟨rfl, id⟩

/-- The over-temperature tests see the same zones after the sample. -/
theorem heatStages_over (ch : Oct Channel) (s : State) :
    (s.hc.sampled ch).zones.toList.any Zone.over = true ↔ ∃ z ∈ (heatStages ch s).hc.zones.toList, z.over = true := by
  have hover : ∀ i, ((heatStages ch s).hc.zones.get i).over = ((s.hc.sampled ch).zones.get i).over := fun i => by
    rw [← Zone.over_cut, heatStages_get_cut, Zone.over_cut, Heat.sampled, Oct.get_ofFn]
  simp only [List.any_eq_true, Oct.mem_toList_iff]
  constructor
  · rintro ⟨_, ⟨i, rfl⟩, h⟩
    exact ⟨_, ⟨i, rfl⟩, (hover i).trans h⟩
  · rintro ⟨_, ⟨i, rfl⟩, h⟩
    exact ⟨_, ⟨i, rfl⟩, (hover i).symm.trans h⟩

/-- The zone's tests, as the rules state them (05 R98 to R100). -/
theorem Zone.over_iff (z : Zone) : z.over = true ↔
    ∃ r, z.reading = some r ∧ ((z.state = .regulate ∧ z.eff + 150 < r) ∨ 2450 < r) := by
  unfold Zone.over
  cases z.reading <;> simp

theorem Zone.settled_iff (z : Zone) : z.settled = true ↔
    z.state = .regulate ∧ ∃ r, z.reading = some r ∧ r ≤ z.target + 30 ∧ z.target ≤ r + 30 := by
  unfold Zone.settled
  cases z.reading <;> simp [and_assoc]

theorem Zone.deviates_iff (z : Zone) : z.deviates = true ↔
    z.state = .lost ∨ (z.reading ≠ none ∧ ¬∃ r, z.reading = some r ∧ r ≤ z.target + 80 ∧ z.target ≤ r + 80) := by
  unfold Zone.deviates
  cases z.reading with
  | none => simp
  | some r =>
    have hfar : z.target + 80 < r ∨ r + 80 < z.target ↔ ¬(r ≤ z.target + 80 ∧ z.target ≤ r + 80) := by omega
    simp [hfar]

end Sys2Proof.Machine
end

section
/-! HEAT_SAMPLE as a command (05 R93): what it leaves of HC, the fast stop a trip brings (06 R119), and the doses of the bands on the drum
(05 R105, R106). -/

namespace Sys2Proof.Machine

/-! ## The command -/

theorem heatSample_of_no_trip {ch : Oct Channel} {s : State} (h : s.hc.trips ch = false) : heatSample ch s = heatStages ch s :=
  if_neg (Bool.eq_false_iff.1 h)

theorem heatSample_of_trip {ch : Oct Channel} {s : State} (h : s.hc.trips ch = true) :
    heatSample ch s = fastStop (heatStages ch s) := if_pos h

section
variable {s : State} (hp : s.pins.powerGood = true) (ch : Oct Channel)

include hp

/-- The command's HC is that of the stages, with a fast stop or without. -/
theorem heatSample_hc : (command (heatSample ch) s).hc = (heatStages ch s).hc := by
  have hout : (heatStages ch { s with out := [] }).hc = (heatStages ch s).hc := by rw [heatStages_hc, heatStages_hc]
  rw [command_eq hp, (kick_becomes _).hc, ← hout, heatSample]
  split
  · simp
  · rfl

/-- A sample without a trip: the readings, the doses, the duties and the judgement. -/
theorem heatSample_becomes (h : s.hc.trips ch = false) :
    let hc := (s.hc.sampled ch).regulated.judged
    Becomes { s with
      out := [], hc := hc,
      bt.track := if s.dc.nip = .closed then s.bt.track.map (accrue (s.hc.sampled ch).zones s.hc.ton) else s.bt.track }
      (if hc.drum = s.hc.drum then [] else [.drum]) (command (heatSample ch) s) := by
  refine command_becomes hp ?_
  rw [heatSample_of_no_trip (s := { s with out := [] }) h]
  exact heatStages_becomes (s := { s with out := [] }) h

end

/-! ## The fast stop of a trip (06 R119) -/

theorem canFastStop_iff (s : State) : s.canFastStop = true ↔ s.stoppable := by
  unfold State.canFastStop State.stoppable
  cases s.dc.line <;> simp

theorem setLine_line (l : LineState) (s : State) : (setLine l s).dc.line = l := by
  unfold setLine
  split
  · assumption
  · simp

/-- A line that can make a fast stop is STOPPING FAST, with TR's pause requested. -/
theorem fastStop_stops {s : State} (h : s.stoppable) :
    (fastStop s).dc.line = .stopping ∧ (fastStop s).dc.stopKind = .fast ∧ (fastStop s).tr.pauseReq = true := by
  rw [fastStop, if_pos ((canFastStop_iff s).2 h)]
  exact ⟨setLine_line .., by simp, by simp⟩

theorem fastStop_stands {s : State} (h : ¬s.stoppable) : fastStop s = s := if_neg (mt (canFastStop_iff s).1 h)

/-! ## Doses (05 R102, R105, R106) -/

theorem Zone.missing_iff (z : Zone) : z.missing = true ↔ (z.enable = true ∧ 1 ≤ z.target) ∧ z.state = .lost := by
  rw [Zone.missing, Bool.and_eq_true, Zone.enabled_iff, beq_iff_eq]

theorem Zone.missing_eq_decide (z : Zone) : z.missing = decide ((z.enable = true ∧ 1 ≤ z.target) ∧ z.state = .lost) := by
  rw [Bool.eq_iff_iff, decide_eq_true_eq, z.missing_iff]

/-- What a zone adds to a band's dose, as 05 R105 puts it. -/
theorem Zone.dose_add (ton d : Nat) (z : Zone) : min 4294967295 (d + z.dose ton) =
    match z.reading with
    | some r => if (z.enable = true ∧ 1 ≤ z.target) ∧ z.state = .regulate then min 4294967295 (d + 5 * (r - ton))
      else min 4294967295 d
    | none => min 4294967295 d := by
  unfold Zone.dose
  cases z.reading with
  | none => rfl
  | some r =>
    simp only [Bool.and_eq_true, Zone.enabled_iff, beq_iff_eq]
    split <;> rfl

theorem accrue_off {zones : Oct Zone} {ton : Nat} {b : Band} (h : b.state ≠ .onDrum) : accrue zones ton b = b := if_neg h

/-- A band ON_DRUM after a sample, by the zones as the sample leaves them. -/
theorem accrue_onDrum {zones after : Oct Zone} (h : ∀ i, (after.get i).cut = (zones.get i).cut) (ton : Nat) {b : Band}
    (hb : b.state = .onDrum) : accrue zones ton b =
      { b with
        samples := min 4294967295 (b.samples + 1),
        doses := Oct.ofFn (fun i =>
          match (after.get i).reading with
          | some r => if ((after.get i).enable = true ∧ 1 ≤ (after.get i).target) ∧ (after.get i).state = .regulate then
              min 4294967295 (b.doses.get i + 5 * (r - ton)) else min 4294967295 (b.doses.get i)
          | none => min 4294967295 (b.doses.get i)),
        lostZones := Oct.ofFn (fun i => b.lostZones.get i ||
          decide (((after.get i).enable = true ∧ 1 ≤ (after.get i).target) ∧ (after.get i).state = .lost)),
        flags := if ∃ z ∈ after.toList, (z.enable = true ∧ 1 ≤ z.target) ∧ z.state = .lost then b.flags ||| 0x010#12
          else b.flags } := by
  have hdose : ∀ i, (zones.get i).dose ton = (after.get i).dose ton := fun i => by
    rw [← Zone.dose_cut, ← h i, Zone.dose_cut]
  have hmiss : ∀ i, (zones.get i).missing = (after.get i).missing := fun i => by
    rw [← Zone.missing_cut, ← h i, Zone.missing_cut]
  have hany : zones.toList.any Zone.missing = true ↔
      ∃ z ∈ after.toList, (z.enable = true ∧ 1 ≤ z.target) ∧ z.state = .lost := by
    simp only [List.any_eq_true, Oct.mem_toList_iff, exists_exists_eq_and, ← Zone.missing_iff, hmiss]
  rw [accrue, if_pos hb]
  simp only [hdose, hmiss, satAdd, max32, Zone.dose_add, Zone.missing_eq_decide]
  by_cases hm : zones.toList.any Zone.missing = true
  · rw [if_pos (hany.1 hm), hm]
    rfl
  · rw [if_neg (mt hany.2 hm), Bool.eq_false_iff.2 hm]
    rfl

/-! ## The settle and deviation tests over the enabled zones (05 R98, R99) -/

theorem all_settled_iff (l : List Zone) : (l.filter Zone.enabled).all Zone.settled = true ↔ ∀ z ∈ l, z.enable = true ∧ 1 ≤ z.target →
    z.state = .regulate ∧ ∃ r, z.reading = some r ∧ r ≤ z.target + 30 ∧ z.target ≤ r + 30 := by
  simp only [List.all_eq_true, List.mem_filter, Zone.enabled_iff, Zone.settled_iff, and_imp]

theorem any_deviates_iff (l : List Zone) : (l.filter Zone.enabled).any Zone.deviates = true ↔
    ∃ z ∈ l, (z.enable = true ∧ 1 ≤ z.target) ∧
      (z.state = .lost ∨ (z.reading ≠ none ∧ ¬∃ r, z.reading = some r ∧ r ≤ z.target + 80 ∧ z.target ≤ r + 80)) := by
  simp only [List.any_eq_true, List.mem_filter, Zone.enabled_iff, Zone.deviates_iff, and_assoc]

/-! ## The duties (05 R94) -/

/-- The integral that stage 5 begins from: that of a zone which was in REGULATE, and 0 in one that has just entered it. -/
theorem Zone.sampled_loop {c : Channel} {z : Zone} (h : (z.sampled c).state = .regulate) :
    (z.sampled c).duty = z.duty ∧ (z.sampled c).integral = if z.state = .regulate then z.integral else 0 := by
  cases hs : z.state with
  | off =>
    rw [Zone.sampled_off hs] at h
    exact absurd (hs.symm.trans h) (by decide)
  | regulate =>
    cases hr : channelReading c with
    | none =>
      rw [Zone.sampled_regulate_lost hs hr] at h
      exact absurd h (by simp)
    | some r =>
      rw [Zone.sampled_regulate hs hr]
      exact ⟨rfl, rfl⟩
  | lost =>
    cases hr : channelReading c with
    | none =>
      rw [Zone.sampled_lost hs hr] at h
      exact absurd (hs.symm.trans h) (by decide)
    | some r =>
      by_cases hv : 19 ≤ z.validRun
      · rw [Zone.sampled_recovers hs hv hr]
        exact ⟨rfl, rfl⟩
      · rw [Zone.sampled_counts hs (not_le.1 hv) hr] at h
        exact absurd (hs.symm.trans h) (by decide)

/-- Stage 5 for a zone in REGULATE with a reading: its integral, held where the last duty stands at the limit that the error pushes it to,
and its duty. -/
theorem Zone.regulate_eq (kp ki : Nat) {z : Zone} {r : Nat} (hs : z.state = .regulate) (hr : z.reading = some r) :
    let e : Int := z.eff - r
    let hold := (z.duty = 1000 ∧ 0 < e) ∨ (z.duty = 0 ∧ e < 0)
    (hold → (z.regulate kp ki).integral = z.integral) ∧
    (¬hold → ((z.regulate kp ki).integral : Int) = max 0 (min (z.integral + ki * e) 256000)) ∧
    ((z.regulate kp ki).duty : Int) = max 0 (min (Int.fdiv (kp * e) 16 + (z.regulate kp ki).integral / 256) 1000) := by
  intro e hold
  have hiff : ((z.duty == 1000 && decide (0 < e)) || (z.duty == 0 && decide (e < 0))) = true ↔ hold := by simp [hold]
  let i : Nat := if ((z.duty == 1000 && decide (0 < e)) || (z.duty == 0 && decide (e < 0))) = true then z.integral
    else (clampZ (z.integral + ki * e) 0 256000).toNat
  have hreg : z.regulate kp ki =
      { z with integral := i, duty := (clampZ (kp * e / 16 + (i / 256 : Nat)) 0 1000).toNat } := by
    unfold Zone.regulate
    rw [hs, hr]
  rw [hreg]
  refine ⟨fun h => if_pos (hiff.2 h), fun h => ?_, ?_⟩
  · have hi : i = (clampZ (z.integral + ki * e) 0 256000).toNat := if_neg (mt hiff.1 h)
    show (i : Int) = _
    rw [hi, coe_toNat_clampZ (le_refl 0)]
  · show ((clampZ (kp * e / 16 + (i / 256 : Nat)) 0 1000).toNat : Int) = _
    rw [coe_toNat_clampZ (le_refl 0), Int.fdiv_eq_ediv_of_nonneg _ (by decide)]
    simp

end Sys2Proof.Machine
end

section
namespace Sys2Proof.Proofs

open Sys2Proof.Machine

/-- Settles O28: stages 1 and 2 decide all but the duty and the integral of a zone, and a LOST zone is given neither. -/
theorem heatReadings : Obligations.HeatReadings := by
  intro ch s hp
  refine ⟨_, rfl, fun i => ?_⟩
  intro c b z
  have hz : z = (heatStages ch s).hc.zones.get i := by rw [← heatSample_hc hp]
  have hcut : z.cut = (b.sampled c).cut := by rw [hz, heatStages_get_cut]
  obtain ⟨htarget, henable, hread⟩ := b.sampled_settings c
  have hreading : z.reading = channelReading c := (Zone.reading_of_cut hcut).trans hread
  have hstate := Zone.state_of_cut hcut
  have heff := Zone.eff_of_cut hcut
  have hrun := Zone.validRun_of_cut hcut
  refine ⟨fun hf hv => hreading.trans (channelReading_valid hf hv), fun h => hreading.trans (channelReading_invalid h),
    (Zone.target_of_cut hcut).trans htarget, (Zone.enable_of_cut hcut).trans henable, fun h => ?_, fun h hr => ?_, fun h hr => ?_,
    fun h hr => ?_, fun h hv hr => ?_, fun h hv r hr => ?_⟩
  · rw [Zone.sampled_off h] at hstate heff hrun
    exact ⟨hstate.trans h, heff, hrun⟩
  · have hlost := Zone.sampled_regulate_lost h (hreading.symm.trans hr)
    have hnot : (b.sampled c).state ≠ .regulate := by simp [hlost]
    have hidle := heatStages_get_idle (ch := ch) (s := s) (i := i) (.inr hnot)
    rw [hlost] at hstate heff hrun hidle
    rw [hz] at hstate heff hrun ⊢
    exact ⟨hstate, heff, hidle.1, hidle.2 rfl, hrun⟩
  · obtain ⟨r, hr⟩ := Option.ne_none_iff_exists'.1 hr
    rw [Zone.sampled_regulate h (hreading.symm.trans hr)] at hstate heff hrun
    exact ⟨hstate.trans h, heff, hrun⟩
  · rw [Zone.sampled_lost h (hreading.symm.trans hr)] at hstate heff hrun
    exact ⟨hstate.trans h, heff, hrun⟩
  · obtain ⟨r, hr⟩ := Option.ne_none_iff_exists'.1 hr
    rw [Zone.sampled_counts h hv (hreading.symm.trans hr)] at hstate heff hrun
    exact ⟨hstate.trans h, heff, hrun⟩
  · rw [Zone.sampled_recovers h hv (hreading.symm.trans hr)] at hstate heff hrun
    exact ⟨hstate, heff, hrun⟩

/-- Settles O29: the tests see the zones that the sample leaves, and a trip's fast stop follows the stages. -/
theorem heatTrip : Obligations.HeatTrip := by
  intro ch s hp
  refine ⟨_, rfl, ?_⟩
  let v : State := { s with out := [] }
  have hhc := heatSample_hc hp ch
  intro hot
  have htripped : (command (heatSample ch) s).hc.drum = .tripped ↔ s.hc.drum = .tripped ∨ s.hc.trips ch = true := by
    rw [hhc, heatStages_tripped_iff]
  have hhot : (s.hc.sampled ch).zones.toList.any Zone.over = true ↔ hot := by
    rw [heatStages_over, ← hhc]
    simp only [Zone.over_iff, hot]
  have htrips : s.hc.trips ch = true ↔ s.hc.drum ≠ .tripped ∧ hot := by
    rw [Heat.trips, Bool.and_eq_true, bne_iff_ne, hhot]
  have hframe : (heatStages ch v).dc = s.dc ∧ (heatStages ch v).tr = s.tr ∧ (heatStages ch v).re = s.re := by simp [v]
  obtain ⟨hdc, htr, hre⟩ := hframe
  have hstop : (heatStages ch v).stoppable ↔ s.stoppable := by rw [State.stoppable, hdc, State.stoppable]
  refine ⟨fun hd => ?_, fun hd => htripped.2 (.inl hd), fun ht z hz => ?_, fun hd hh hs => ?_, fun h => ?_⟩
  · rw [htripped, htrips]
    exact ⟨fun h => (h.resolve_left hd).2, fun h => .inr ⟨hd, h⟩⟩
  · obtain ⟨i, rfl⟩ := (Oct.mem_toList_iff _ z).1 hz
    rw [hhc] at ht ⊢
    refine ⟨(heatStages_get_idle (.inl ht)).1, fun hd => ?_⟩
    rw [heatStages_get, if_pos (((heatStages_tripped_iff ch s).1 ht).resolve_left hd)]
    rfl
  · rw [command_eq hp, heatSample_of_trip (s := v) (htrips.2 ⟨hd, hh⟩), (kick_becomes _).dc, (kick_becomes _).tr]
    exact fastStop_stops (hstop.2 hs)
  · have hrun : heatSample ch v = heatStages ch v := by
      cases ht : s.hc.trips ch with
      | false => exact heatSample_of_no_trip ht
      | true =>
        obtain ⟨hd, hh⟩ := htrips.1 ht
        rw [heatSample_of_trip (s := v) ht, fastStop_stands]
        exact mt hstop.1 ((h.resolve_left hd).resolve_left (not_not_intro hh))
    rw [command_eq hp, hrun, (kick_becomes _).dc, (kick_becomes _).tr, (kick_becomes _).re]
    exact ⟨hdc, htr, hre⟩

/-- Settles O30: without a trip a zone ends as stage 5 makes it of what the readings made of it. -/
theorem heatRegulation : Obligations.HeatRegulation := by
  intro ch s hp
  refine ⟨_, rfl, fun hnot i => ?_⟩
  rw [heatSample_hc hp, ne_eq, heatStages_tripped_iff, not_or] at hnot
  obtain ⟨hd, ht⟩ := hnot
  intro b z
  let w := b.sampled (ch.get i)
  have hz : z = w.regulate s.hc.kp s.hc.ki := by
    rw [show z = (heatStages ch s).hc.zones.get i by rw [← heatSample_hc hp], heatStages_get, if_neg ht, if_neg hd]
  have hcut : z.cut = w.cut := by rw [hz, Zone.regulate_cut]
  have hstate := Zone.state_of_cut hcut
  refine ⟨fun hs => ?_, fun r hr hs => ?_⟩
  · rw [hz, Zone.regulate_off _ _ (by rwa [← hstate])]
  · intro e before
    have hw := Zone.regulate_eq s.hc.kp s.hc.ki (hstate.symm.trans hs) ((Zone.reading_of_cut hcut).symm.trans hr)
    obtain ⟨hduty, hint⟩ := Zone.sampled_loop (hstate.symm.trans hs)
    rw [← hz, hduty, hint, ← Zone.eff_of_cut hcut] at hw
    exact hw

/-- Settles O31: a sample without a trip is the readings, the doses, the duties and the judgement; what the first two see of a zone the
third leaves. -/
theorem doseAndSettling : Obligations.DoseAndSettling := by
  intro ch s hp
  refine ⟨_, rfl, fun hor => ?_⟩
  have hno : s.hc.trips ch = false := by
    refine Bool.eq_false_iff.2 fun ht => ?_
    have htripped : (command (heatSample ch) s).hc.drum = .tripped := by
      rw [heatSample_hc hp, heatStages_tripped_iff]
      exact .inr ht
    rw [Heat.trips, Bool.and_eq_true, bne_iff_ne] at ht
    exact hor.elim ht.1 fun h => h htripped
  let h : Heat := (s.hc.sampled ch).regulated
  have hb := heatSample_becomes hp ch hno
  have hhc : (command (heatSample ch) s).hc = h.judged := hb.hc
  have hzones : (command (heatSample ch) s).hc.zones = h.zones := by rw [hhc, judged_zones]
  have hcut : ∀ i, ((command (heatSample ch) s).hc.zones.get i).cut = ((s.hc.sampled ch).zones.get i).cut := fun i => by
    rw [heatSample_hc hp, heatStages_get_cut, Heat.sampled, Oct.get_ofFn]
  intro on near
  refine ⟨?_, ⟨hb.writes, hb.copies, hb.ticketReads⟩, ?_, ?_, ?_, ?_⟩
  · rw [hhc]
    exact hb.after (frame_of_blocks (hhc := .inl (by decide)) (hbt := .inl (by decide)))
  · rw [hb.bt]
    refine congrArg (fun l => { s.bt with track := l }) ?_
    by_cases hn : s.dc.nip = .closed
    · rw [if_pos hn]
      refine List.map_congr_left fun b _ => ?_
      by_cases hd : b.state = .onDrum
      · exact (accrue_onDrum hcut _ hd).trans (if_pos ⟨hn, hd⟩).symm
      · exact (accrue_off hd).trans (if_neg fun hc => hd hc.2).symm
    · rw [if_neg hn]
      exact (List.map_id _).symm.trans (List.map_congr_left fun b _ => (if_neg fun hc => hn hc.1).symm)
  · intro hd
    rw [hhc, judged_stands (h := h) hd]
    exact ⟨rfl, rfl⟩
  · intro hd
    rw [hhc, judged_zones]
    exact ⟨fun hs => judged_settles hd ((all_settled_iff _).2 hs), fun hs => judged_restarts hd (mt (all_settled_iff _).1 hs)⟩
  · intro hd
    rw [hhc, judged_zones]
    refine ⟨fun hs => judged_deviates hd ((any_deviates_iff _).2 hs), fun hs => ?_⟩
    rw [judged_keeps (h := h) hd (mt (any_deviates_iff _).1 hs)]
    exact ⟨hd, rfl⟩

end Sys2Proof.Proofs
end

section
/-! The ramp (05 R92), the threshold events of the zones and the drum (05 R97, R98, log entry 17), and SET_HEAT (05 R89 to R91). -/

namespace Sys2Proof.Machine

/-! ## Threshold events -/

theorem Zone.recover_lost {z : Zone} {r : Nat} (hs : z.state = .lost) (hr : z.reading = some r) (hv : 20 ≤ z.validRun) :
    z.recover = z.regulateFrom r := by
  unfold Zone.recover
  rw [hs, hr]
  exact if_pos hv

theorem Zone.recover_stands {z : Zone} (h : z.state ≠ .lost ∨ z.validRun < 20) : z.recover = z := by
  unfold Zone.recover
  split
  · next hs _ => exact if_neg (not_le.2 (h.resolve_left (not_not_intro hs)))
  all_goals rfl

theorem Oct.set_get {α : Type} (o : Oct α) (i : Fin 8) : o.set i (o.get i) = o := by
  fin_cases i <;> rfl

/-! ## The ramp -/

section
variable {z : Zone} (rate : Nat)

theorem Zone.ramp_idle (hs : z.state ≠ .regulate) : z.ramp rate = z := if_neg hs

theorem Zone.ramp_up (hs : z.state = .regulate) (h : z.eff < z.target) : z.ramp rate = { z with eff := min z.target (z.eff + rate) } := by
  rw [Zone.ramp, if_pos hs, if_pos h]

theorem Zone.ramp_down (hs : z.state = .regulate) (h : z.target < z.eff) :
    ∃ e : Nat, (e : Int) = max (z.target : Int) (z.eff - rate) ∧ z.ramp rate = { z with eff := e } := by
  rw [Zone.ramp, if_pos hs, if_neg (Nat.lt_asymm h), if_pos h]
  exact ⟨_, by omega, rfl⟩

theorem Zone.ramp_level (hs : z.state = .regulate) (h : z.eff = z.target) : z.ramp rate = z := by
  rw [Zone.ramp, if_pos hs, if_neg h.not_lt, if_neg h.not_gt]

end

/-! ## SET_HEAT: the fields (05 R89) -/

theorem clampN_eq_self_iff {x lo hi : Nat} (h : lo ≤ hi) : clampN x lo hi = x ↔ lo ≤ x ∧ x ≤ hi := by
  unfold clampN
  omega

theorem clampN_zero (x hi : Nat) : clampN x 0 hi = min x hi := by
  rw [clampN, Nat.max_eq_right (Nat.zero_le _), Nat.min_comm]

theorem clampN_eq (x lo hi : Nat) : clampN x lo hi = max lo (min x hi) := by rw [clampN, Nat.min_comm]

/-- DETAIL of a clamped ticket whose fields are listed by ascending index. -/
theorem firstClamped_firstOut {fs : List ClampField} {n : Nat} {inRange : Nat → Prop} {ws : List Word}
    (hsorted : fs.Pairwise (fun f g => f.index < g.index)) (hbounds : ∀ f ∈ fs, 1 ≤ f.index ∧ f.index ≤ n)
    (hrange : ∀ i, 1 ≤ i → i ≤ n → (inRange i ↔ ∀ f ∈ fs, f.index = i → f.value ws = natAt ws f.word)) :
    FirstOut n inRange (firstClamped fs ws) := by
  unfold firstClamped
  split
  · next f hf =>
    obtain ⟨hclamped, as, bs, rfl, has⟩ := List.find?_eq_some_iff_append.1 hf
    have hmem : f ∈ as ++ f :: bs := by simp
    obtain ⟨h1, hn⟩ := hbounds f hmem
    refine .inr ⟨h1, hn, fun hin => ?_, fun i hi hlt => ?_⟩
    · exact absurd ((hrange _ h1 hn).1 hin f hmem rfl) (by simpa using hclamped)
    · refine (hrange i hi (by omega)).2 fun g hg hgi => ?_
      rcases List.mem_append.1 hg with hg | hg
      · simpa using has g hg
      · rcases List.mem_cons.1 hg with rfl | hg
        · omega
        · have := (List.pairwise_cons.1 (List.pairwise_append.1 hsorted).2.1).1 g hg
          omega
  · next hf =>
    have hall := List.find?_eq_none.1 hf
    exact .inl ⟨rfl, fun i h1 hn => (hrange i h1 hn).2 fun g hg _ => by simpa using hall g hg⟩

/-- DETAIL of a SET_HEAT: field 9, the enable bits, has no range. -/
theorem firstClamped_heatFields (ws : List Word) : FirstOut 13 (fun i =>
    let v := natAt ws (i - 1)
    if i ≤ 8 then v ≤ 2300 else if i = 9 then True else if i = 10 then 1200 ≤ v ∧ v ≤ 1900
    else if i = 11 then 1 ≤ v ∧ v ≤ 100 else v ≤ 255) (firstClamped heatFields ws) := by
  refine firstClamped_firstOut (by decide) (by decide) fun i h1 hn => ?_
  simp only [heatFields, List.forall_mem_cons, ClampField.value]
  interval_cases i <;> simp [clampN_eq_self_iff]

/-! ## SET_HEAT: the zones (05 R90) -/

section
variable {z : Zone} {target : Nat} {enable : Bool}

theorem Zone.retarget_off (hn : ¬({ z with target := target, enable := enable } : Zone).enabled = true) :
    z.retarget target enable = ({ z with target := target, enable := enable } : Zone).turnOff := by
  unfold Zone.retarget
  dsimp only
  rw [Bool.eq_false_iff.2 hn]
  cases z.enabled <;> rfl

theorem Zone.retarget_on (hn : ({ z with target := target, enable := enable } : Zone).enabled = true) (hz : z.enabled = true) :
    z.retarget target enable = { z with target := target, enable := enable } := by
  unfold Zone.retarget
  dsimp only
  rw [hn, hz]

theorem Zone.retarget_enters {r : Nat} (hn : ({ z with target := target, enable := enable } : Zone).enabled = true)
    (hz : ¬z.enabled = true) (hr : z.reading = some r) :
    z.retarget target enable = Zone.regulateFrom r { z with target := target, enable := enable } := by
  unfold Zone.retarget
  dsimp only
  rw [hn, Bool.eq_false_iff.2 hz, hr]

theorem Zone.retarget_lost (hn : ({ z with target := target, enable := enable } : Zone).enabled = true) (hz : ¬z.enabled = true)
    (hr : z.reading = none) :
    z.retarget target enable = { z with target := target, enable := enable, state := .lost, validRun := 0 } := by
  unfold Zone.retarget
  dsimp only
  rw [hn, Bool.eq_false_iff.2 hz, hr]

end

theorem Zone.changed_iff (z n : Zone) : z.changed n = true ↔
    n.enabled = true ∧ (¬z.enabled = true ∨ n.target > z.target + 30 ∨ z.target > n.target + 30) := by
  simp [Zone.changed]

/-! ## SET_HEAT: the drum (05 R91) -/

/-- Some zone is newly enabled or has its target moved by more than 30. -/
def heatChange (before after : Oct Zone) : Bool := (Oct.ofFn (fun i => (before.get i).changed (after.get i))).toList.any id

theorem heatChange_iff (before after : Oct Zone) :
    heatChange before after = true ↔ ∃ i, (before.get i).changed (after.get i) = true := by
  rw [heatChange, List.any_eq_true]
  simp only [Oct.mem_toList_ofFn, exists_exists_eq_and, id]

section
variable {before after : Oct Zone} {d : DrumState}

theorem heatDrum_tripped : heatDrum before after .tripped = .tripped := rfl

theorem heatDrum_cold (hd : d ≠ .tripped) (hn : ¬after.toList.any Zone.enabled = true) : heatDrum before after d = .cold := by
  rw [heatDrum, if_neg hd, if_pos (by simpa using hn)]

theorem heatDrum_heating (hd : d ≠ .tripped) (hn : after.toList.any Zone.enabled = true)
    (h : d = .cold ∨ heatChange before after = true) : heatDrum before after d = .heating := by
  rw [heatDrum, if_neg hd, if_neg (by simp [hn])]
  split
  · rfl
  · next hcold => exact if_pos (h.resolve_left hcold)

theorem heatDrum_stands (hd : d ≠ .tripped) (hn : after.toList.any Zone.enabled = true) (hcold : d ≠ .cold)
    (h : ¬heatChange before after = true) : heatDrum before after d = d := by
  rw [heatDrum, if_neg hd, if_neg (by simp [hn]), if_neg hcold]
  exact if_neg h

end

/-- HC once it has taken a SET_HEAT. -/
def Heat.taken (ws : List Word) (h : Heat) : Heat :=
  let after := heatZones ws h.zones
  let drum := heatDrum h.zones after h.drum
  { zones := after, drum := drum,
    settle := if drum == .heating && (h.drum == .cold || heatChange h.zones after) then 0 else h.settle,
    ton := clampN (natAt ws 9) 1200 1900, ramp := clampN (natAt ws 10) 1 100, kp := clampN (natAt ws 11) 0 255,
    ki := clampN (natAt ws 12) 0 255, retain := bitAt (wordAt ws 13) 0 }

theorem takeHeat_becomes {ws : List Word} {u x : State} {ns : List Notice} (h : Becomes u ns x) :
    Becomes { u with hc := u.hc.taken ws } (ns ++ if (u.hc.taken ws).drum = u.hc.drum then [] else [.drum]) (takeHeat ws x) := by
  have hset := h.setHc (fun c => { c.taken ws with drum := c.drum })
  have hdrum := setDrum_becomes_any (u.hc.taken ws).drum { x with hc := { x.hc.taken ws with drum := x.hc.drum } }
  rw [show takeHeat ws x = setDrum (x.hc.taken ws).drum { x with hc := { x.hc.taken ws with drum := x.hc.drum } } from rfl, h.hc]
  rw [h.hc] at hset hdrum
  refine ((hset.setHc (fun c => { c with drum := (u.hc.taken ws).drum })).trans ?_)
  exact hdrum

section
variable {ws : List Word} {h : Heat}

theorem taken_drum : (h.taken ws).drum = heatDrum h.zones (h.taken ws).zones h.drum := rfl

theorem taken_settle : (h.taken ws).settle =
    if (h.taken ws).drum = .heating ∧ (h.drum = .cold ∨ heatChange h.zones (h.taken ws).zones = true) then 0 else h.settle := by
  simp [Heat.taken]

theorem taken_tripped (hd : h.drum = .tripped) : (h.taken ws).drum = .tripped ∧ (h.taken ws).settle = h.settle := by
  have hdrum : (h.taken ws).drum = .tripped := by rw [taken_drum, hd, heatDrum_tripped]
  rw [taken_settle, hdrum]
  exact ⟨rfl, if_neg fun hc => absurd hc.1 (by decide)⟩

theorem taken_cold (hd : h.drum ≠ .tripped) (hn : ¬(h.taken ws).zones.toList.any Zone.enabled = true) :
    (h.taken ws).drum = .cold ∧ (h.taken ws).settle = h.settle := by
  have hdrum : (h.taken ws).drum = .cold := heatDrum_cold hd hn
  rw [taken_settle, hdrum]
  exact ⟨rfl, if_neg fun hc => absurd hc.1 (by decide)⟩

theorem taken_heating (hd : h.drum ≠ .tripped) (hn : (h.taken ws).zones.toList.any Zone.enabled = true)
    (hc : h.drum = .cold ∨ heatChange h.zones (h.taken ws).zones = true) :
    (h.taken ws).drum = .heating ∧ (h.taken ws).settle = 0 := by
  have hdrum : (h.taken ws).drum = .heating := heatDrum_heating hd hn hc
  rw [taken_settle, hdrum]
  exact ⟨rfl, if_pos ⟨rfl, hc⟩⟩

theorem taken_stands (hd : h.drum ≠ .tripped) (hn : (h.taken ws).zones.toList.any Zone.enabled = true) (hcold : h.drum ≠ .cold)
    (hc : ¬heatChange h.zones (h.taken ws).zones = true) :
    (h.taken ws).drum = h.drum ∧ (h.taken ws).settle = h.settle := by
  rw [taken_settle]
  exact ⟨heatDrum_stands hd hn hcold hc, if_neg fun hr => hr.2.elim hcold hc⟩

end

theorem taken_get (ws : List Word) (h : Heat) (i : Fin 8) : (h.taken ws).zones.get i =
    (h.zones.get i).retarget (min (natAt ws i.val) 2300) ((wordAt ws 8).getLsbD i.val) := by
  rw [← clampN_zero]
  exact Oct.get_ofFn _ i

end Sys2Proof.Machine
end

section
namespace Sys2Proof.Proofs

open Sys2Proof.Machine

/-- Settles O32: a ramp step is `Zone.ramp` over the zones, and none on a TRIPPED drum. -/
theorem rampStep : Obligations.RampStep := by
  intro s hp
  have hrun : ∀ zones, Machine.rampStep { s with out := [] } = { s with out := [], hc.zones := zones } →
      ∃ t, exec .rampStep s = .next t ∧ t.hc.zones = zones ∧ Becomes { s with out := [], hc.zones := t.hc.zones } [] t := by
    intro zones hz
    have hb : Becomes { s with out := [], hc.zones := zones } [] (command Machine.rampStep s) := by
      refine command_becomes hp ?_
      rw [hz]
      exact Becomes.refl _
    have hzones : (command Machine.rampStep s).hc.zones = zones := by rw [hb.hc]
    exact ⟨_, rfl, hzones, by rw [hzones]; exact hb⟩
  by_cases hd : s.hc.drum = .tripped
  · obtain ⟨t, he, hz, hb⟩ := hrun s.hc.zones (if_pos hd)
    exact ⟨t, he, hb, fun _ => hz, fun hc => absurd hd hc⟩
  · obtain ⟨t, he, hz, hb⟩ := hrun (s.hc.zones.map (Zone.ramp s.hc.ramp)) (if_neg hd)
    refine ⟨t, he, hb, fun hc => absurd hc hd, fun _ i => ?_⟩
    intro z
    rw [hz, Oct.get_map]
    exact ⟨Zone.ramp_idle _, Zone.ramp_up _, Zone.ramp_down _, Zone.ramp_level _⟩

/-- Settles O33: each command makes the test that its name states on the state as it stands. -/
theorem drumAndZones : Obligations.DrumAndZones := by
  intro s hp
  have hzone : ∀ (i : Fin 8) (w : Zone), (s.hc.zones.get i).recover = w →
      Becomes { s with out := [], hc.zones := s.hc.zones.set i w } []
        (command (fun t => { t with hc.zones := t.hc.zones.set i (t.hc.zones.get i).recover }) s) := fun i w h => by
    rw [← h]
    exact command_becomes hp (Becomes.refl _)
  refine ⟨fun i r hs hr hv => ⟨_, rfl, hzone i _ (Zone.recover_lost hs hr hv)⟩, fun i h => ⟨_, rfl, ?_⟩, fun hd hn => ⟨_, rfl, ?_⟩,
    fun h => ⟨_, rfl, ?_⟩⟩
  · have hb := hzone i _ (Zone.recover_stands h)
    rw [Oct.set_get] at hb
    exact hb
  · refine command_becomes hp ?_
    rw [settleTest, if_pos ⟨hd, hn.ge⟩]
    exact setDrum_becomes (s := { s with out := [] }) (by rcases hd with hd | hd <;> simp [hd])
  · have hno : ¬((s.hc.drum = .heating ∨ s.hc.drum = .deviation) ∧ 200 ≤ s.hc.settle) := by
      rintro ⟨hd, hn⟩
      rcases h with h | h | h | h
      · simp [h] at hd
      · simp [h] at hd
      · simp [h] at hd
      · omega
    refine command_becomes hp ?_
    rw [settleTest, if_neg hno]
    exact Becomes.refl _

/-- Settles O60: the reset values, law by law. -/
theorem resetMeetsLaws : Obligations.ResetMeetsLaws := by
  have hheat : HeaterLaw State.reset := by
    refine ⟨fun h => absurd h (by decide), fun h => absurd h (by decide), fun _ h => absurd h (by decide)⟩
  have hnip : NipLaw State.reset := fun h => absurd h (by decide)
  have htrim : TrimLaw State.reset := by
    show ∀ p ∈ Store.reset.slots.toList, -256 ≤ p.tau ∧ p.tau ≤ 255
    decide
  have hport : PortLaw State.reset := ⟨fun _ c => by cases c <;> rfl, fun _ _ hx => absurd hx List.not_mem_nil⟩
  exact ⟨hheat, hnip, htrim, fun _ hb => absurd hb List.not_mem_nil, ⟨by decide, by decide, by decide, by decide⟩, hport⟩

/-- Settles O15: the hand-off is `handing_run`, and HC's part `Heat.taken`, zone by zone and for the drum. -/
theorem heatTicket : Obligations.HeatTicket := by
  refine ⟨firstClamped_heatFields, fun t rest s h hk => ?_⟩
  intro on
  obtain ⟨x, hx, hrun⟩ := handing_run h
  have hexec : execute t.kind t.body x = finishTicket .done .ok (firstClamped heatFields t.body) (takeHeat t.body x) := by
    rw [hk]
    rfl
  have hrep : ∀ w ∈ rest, w.isRepeatedTaken t.addr = false := by
    obtain ⟨-, -, -, hrep, -⟩ := h
    simpa using hrep
  have hblock := (takeHeat_becomes (ws := t.body) hx).finishTicket .done .ok (firstClamped heatFields t.body)
  rw [← hexec, finishTicket_eq (k := t.handedOver) rfl hrep] at hblock
  have hu := hrun _ _ hblock (Option.some_ne_none _) h.1.2
  rw [hk] at hu
  have hhc : (command (ticketStep .setHeat []) s).hc = s.hc.taken t.body := hu.hc
  refine ⟨_, rfl, ?_, ⟨congrArg Reader.ticket hu.tr, hu.writes, hu.copies, hu.ticketReads, hu.out⟩, ?_⟩
  · rw [hhc]
    exact hu.after (frame_of_blocks (htr := .inl (by decide)) (hhc := .inl (by decide)))
  rw [hhc]
  have hget := taken_get t.body s.hc
  have hany : (s.hc.taken t.body).zones.toList.any Zone.enabled = true ↔ ∃ z ∈ (s.hc.taken t.body).zones.toList, on z := by
    simp only [List.any_eq_true, Zone.enabled_iff, on]
  have hchange : heatChange s.hc.zones (s.hc.taken t.body).zones = true ↔ ∃ i : Fin 8, on ((s.hc.taken t.body).zones.get i) ∧
      (¬on (s.hc.zones.get i) ∨ ((s.hc.taken t.body).zones.get i).target > (s.hc.zones.get i).target + 30 ∨
        (s.hc.zones.get i).target > ((s.hc.taken t.body).zones.get i).target + 30) := by
    simp only [heatChange_iff, Zone.changed_iff, Zone.enabled_iff, on]
  refine ⟨clampN_eq .., clampN_eq .., clampN_zero .., clampN_zero .., rfl, fun i => ?_, ?_⟩
  · intro b n z
    have hz : z = b.retarget n.target n.enable := hget i
    rw [hz]
    refine ⟨fun hn => Zone.retarget_off (mt (Zone.enabled_iff n).1 hn), fun hn hb => ⟨fun r hr => ?_, fun hr => ?_⟩, fun hn hb => ?_⟩
    · exact Zone.retarget_enters ((Zone.enabled_iff n).2 hn) (mt (Zone.enabled_iff b).1 hb) hr
    · exact Zone.retarget_lost ((Zone.enabled_iff n).2 hn) (mt (Zone.enabled_iff b).1 hb) hr
    · exact Zone.retarget_on ((Zone.enabled_iff n).2 hn) ((Zone.enabled_iff b).2 hb)
  · intro change
    refine ⟨taken_tripped, fun hd hn => taken_cold hd ?_, fun hd hn hc => taken_heating hd (hany.2 hn) (hc.imp_right hchange.2),
      fun hd hn hcold hc => taken_stands hd (hany.2 hn) hcold (mt hchange.1 hc)⟩
    exact fun ha => let ⟨z, hz, hon⟩ := hany.1 ha; hn z hz hon

end Sys2Proof.Proofs
end

section
/-! The heater law (05 R95, R101, R103) over the operations that move the line (06): what a powered part must meet for it, and that each
such operation keeps it. What leaves HC, the line state and the pins alone keeps it by its frame. -/

namespace Sys2Proof.Machine

/-- The heater law of a part that is powered, in which commands act. -/
structure HeaterSafe (s : State) : Prop where
  power : s.pins.powerGood = true
  duty : s.hc.drum = .tripped → ∀ z ∈ s.hc.zones.toList, z.duty = 0
  line : s.dc.line = .powerStop ∨ s.dc.line = .powerHeld → s.hc.drum = .tripped
  mains : s.pins.mainsOk = false → s.hc.drum = .tripped

theorem heaterSafe_iff (s : State) : HeaterSafe s ↔ s.pins.powerGood = true ∧ HeaterLaw s :=
  ⟨fun h => ⟨h.power, h.duty, h.line, fun _ => h.mains⟩, fun ⟨hp, hduty, hline, hmains⟩ => ⟨hp, hduty, hline, hmains hp⟩⟩

section
variable {s t : State} (h : HeaterSafe s)

include h

/-- A change of HC alone that leaves a TRIPPED drum TRIPPED. -/
theorem HeaterSafe.heat (htrip : s.hc.drum = .tripped → t.hc.drum = .tripped)
    (hduty : t.hc.drum = .tripped → ∀ z ∈ t.hc.zones.toList, z.duty = 0)
    (hsame : (t.dc.line, t.pins.powerGood, t.pins.mainsOk) = (s.dc.line, s.pins.powerGood, s.pins.mainsOk)) : HeaterSafe t := by
  simp only [Prod.mk.injEq] at hsame
  obtain ⟨hline, hpower, hmains⟩ := hsame
  exact ⟨by rw [hpower]; exact h.power, hduty, by rw [hline]; exact htrip ∘ h.line, by rw [hmains]; exact htrip ∘ h.mains⟩

/-- What the law speaks of is the same. -/
theorem HeaterSafe.same (hsame : (t.hc, t.dc.line, t.pins.powerGood, t.pins.mainsOk) =
    (s.hc, s.dc.line, s.pins.powerGood, s.pins.mainsOk)) : HeaterSafe t := by
  obtain ⟨hhc, hrest⟩ := Prod.mk.inj hsame
  exact h.heat (by rw [hhc]; exact id) (by rw [hhc]; exact h.duty) hrest

theorem HeaterSafe.ite {c : Prop} {_ : Decidable c} (k : HeaterSafe t) : HeaterSafe (if c then s else t) := by
  split
  · exact h
  · exact k

/-! ## Operations that leave HC, the line state and the pins alone -/

theorem HeaterSafe.raise (n : Notice) : HeaterSafe (raise n s) := h.same (by simp)
theorem HeaterSafe.requestProgress : HeaterSafe (requestProgress s) := h.same (by simp)
theorem HeaterSafe.readerLook : HeaterSafe (readerLook s) := h.same (by simp)
theorem HeaterSafe.trContinue : HeaterSafe (trContinue s) := h.same (by simp)
theorem HeaterSafe.finishTicket (st : TicketState) (status : Status) (d : Nat) : HeaterSafe (finishTicket st status d s) := h.same (by simp)
theorem HeaterSafe.settleStop : HeaterSafe (settleStop s) := h.same (by simp)
theorem HeaterSafe.nipOpenCommand : HeaterSafe (nipOpenCommand s) := h.same (by simp)
theorem HeaterSafe.drainEntry : HeaterSafe (drainEntry s) := h.same (by simp)
theorem HeaterSafe.clearDrain : HeaterSafe (clearDrain s) := h.same (by simp)
theorem HeaterSafe.tryBandStart : HeaterSafe (tryBandStart s) := h.same (by simp [tryBandStart_dc])
theorem HeaterSafe.softWritten : HeaterSafe (softWritten s) := h.same (by simp)
theorem HeaterSafe.softDiscard : HeaterSafe (softDiscard s) := h.same (by simp)

/-! ## The states of the line (06 R111 to R121) -/

/-- The line enters POWER_STOP and POWER_HELD with the drum TRIPPED only (05 R101). -/
theorem HeaterSafe.setLine {l : LineState} (hl : l = .powerStop ∨ l = .powerHeld → s.hc.drum = .tripped) :
    HeaterSafe (setLine l s) := by
  unfold Machine.setLine
  split
  · exact h
  · have h1 : HeaterSafe { s with dc.line := l } := ⟨h.power, h.duty, hl, h.mains⟩
    exact h1.same (by simp)

theorem HeaterSafe.normalStop : HeaterSafe (normalStop s) := by
  have h1 : HeaterSafe { s with dc.stopKind := .normal } := h.same (by simp)
  exact (h1.setLine (by simp)).nipOpenCommand

theorem HeaterSafe.drainEnd : HeaterSafe (drainEnd s) := h.normalStop.ite h

theorem HeaterSafe.stopRequest : HeaterSafe (stopRequest s) := by
  unfold Machine.stopRequest
  cases s.dc.line with
  | running => exact (h.setLine (by simp)).drainEntry.drainEnd
  | starting => exact h.normalStop
  | draining | stopping | stopped | tripped | powerStop | powerHeld => exact h

theorem HeaterSafe.fastStop : HeaterSafe (fastStop s) := by
  have h1 : HeaterSafe { Machine.nipOpenCommand (Machine.abortSegment s) with dc.stopKind := .fast, tr.pauseReq := true } :=
    h.same (by simp)
  exact (h1.setLine (by simp)).ite h

theorem HeaterSafe.nipFault : HeaterSafe (nipFault s) := by
  have h1 : HeaterSafe { Machine.setNip .fault s with dc.nipTimer := none, dc.valve := .opening } := h.same (by simp)
  exact h1.fastStop

theorem HeaterSafe.acceptStart : HeaterSafe (acceptStart s) := by
  have h1 : HeaterSafe { s with
    dc.startCause := .none, dc.webs := s.dc.webs.map (fun w => { w with integral := 0, run := 0 }) } := h.same (by simp)
  exact h1.setLine (by simp)

theorem HeaterSafe.autoStart : HeaterSafe (autoStart s) := by
  unfold Machine.autoStart
  refine HeaterSafe.ite ?_ h
  cases s.startTest with
  | none => exact h.acceptStart.same (by simp)
  | some c => exact HeaterSafe.ite (h.same (by simp)) (h.same (by simp))

theorem HeaterSafe.enterStopped : HeaterSafe (enterStopped s) := (h.setLine (by simp)).settleStop.autoStart

theorem HeaterSafe.enterTripped : HeaterSafe (enterTripped s) := (h.setLine (by simp)).settleStop

theorem HeaterSafe.chainLook : HeaterSafe (chainLook s) := h.readerLook.autoStart.ite h.readerLook

theorem HeaterSafe.enterRunning : HeaterSafe (enterRunning s) := (h.setLine (by simp)).clearDrain.tryBandStart

theorem HeaterSafe.startRequest : HeaterSafe (startRequest s) := by
  unfold Machine.startRequest
  cases s.dc.line with
  | stopped =>
    dsimp only
    cases s.startTest with
    | none => exact h.acceptStart
    | some c => exact h.same (by simp)
  | draining => exact h.enterRunning
  | tripped | powerStop | powerHeld => exact h.same (by simp)
  | starting | running | stopping => exact h

theorem HeaterSafe.runningTest : HeaterSafe (runningTest s) := h.enterRunning.ite h

/-! ## Soft reset (10 R190) -/

/-- Soft reset leaves a TRIPPED drum TRIPPED, and no zone with a duty where it takes their settings (05 R110). -/
theorem HeaterSafe.heatSoftReset : HeaterSafe (heatSoftReset s) := by
  obtain ⟨ns, hb⟩ := heatSoftReset_becomes s
  cases hr : s.hc.retain with
  | true =>
    have hself : s.hc.softReset = s.hc := if_pos hr
    exact h.same (by simp [hb.hc.trans hself])
  | false =>
    obtain ⟨hdrum, hzones⟩ := heatSoftReset_off s.hc hr
    refine h.heat (fun ht => ?_) (fun _ z hz => ?_) (by simp)
    · rw [hb.hc]
      exact hdrum.trans (if_pos ht)
    · rw [hb.hc] at hz
      obtain ⟨-, -, -, hduty, -⟩ := hzones z hz
      exact hduty

/-- With mains lost the line is POWER_HELD, under a drum that is TRIPPED for it (05 R101, 06 R137). -/
theorem HeaterSafe.driveSoftReset : HeaterSafe (driveSoftReset s) := by
  have h1 : HeaterSafe (Machine.setLine (if s.pins.mainsOk then .stopped else .powerHeld) s) := h.setLine fun hl => h.mains <| by
    cases hm : s.pins.mainsOk with
    | false => rfl
    | true => simp [hm] at hl
  unfold Machine.driveSoftReset
  exact HeaterSafe.ite (h1.same (by simp)) (h1.same (by simp))

theorem HeaterSafe.softReach : HeaterSafe (softReach s) := by
  have h1 : HeaterSafe (Machine.clearSegment (readerSoftReset (storeSoftReset (verifierSoftReset
    { s with smp.soft := .retiring })))) := h.same (by simp)
  have h2 := h1.heatSoftReset.driveSoftReset
  exact h2.ite h2.softDiscard

theorem HeaterSafe.softStart : HeaterSafe (softStart s) := by
  have h1 : HeaterSafe { s with smp.soft := .stopping } := h.same (by simp)
  exact h1.fastStop.ite h1.softReach

/-! ## Speed 0, the tension sample, mains (06 R112, R121, R126) -/

/-- POWER_HELD is entered from POWER_STOP. -/
theorem HeaterSafe.speedZero : HeaterSafe (speedZero s) := by
  have h1 : HeaterSafe (Machine.zeroLoops s) := h.same (by simp)
  unfold Machine.speedZero
  refine h1.softReach.ite ?_
  cases hl : (Machine.zeroLoops s).dc.line with
  | stopping =>
    dsimp only
    cases (Machine.zeroLoops s).dc.stopKind with
    | normal => exact h1.enterStopped
    | fast => exact h1.enterTripped
  | powerStop => exact h1.enterTripped.ite (h1.setLine fun _ => h1.line (.inl hl))
  | stopped | starting | running | draining | tripped | powerHeld => exact h1

theorem HeaterSafe.speedZeroTest : HeaterSafe (speedZeroTest s) := h.speedZero.ite h

theorem HeaterSafe.refStage : HeaterSafe (refStage s) := by
  have h1 : HeaterSafe (nipCloseTest (stepRef s)) := h.same (by simp)
  exact h1.runningTest.speedZeroTest

theorem HeaterSafe.readStage (cells : Webs LoadCell) : HeaterSafe (readStage cells s) := h.same (by simp)
theorem HeaterSafe.sensorStage : HeaterSafe (sensorStage s) := (h.raise _).fastStop.ite h
theorem HeaterSafe.loopStage : HeaterSafe (loopStage s) := h.same (by simp)
theorem HeaterSafe.countStage : HeaterSafe (countStage s) := h.same (by simp)
theorem HeaterSafe.faultStage : HeaterSafe (faultStage s) := (h.raise _).fastStop.ite h
theorem HeaterSafe.driveOut : HeaterSafe (driveOut s) := h.same (by simp)

theorem HeaterSafe.tensionSample (cells : Webs LoadCell) : HeaterSafe (tensionSample cells s) :=
  (h.refStage.readStage cells).sensorStage.loopStage.countStage.faultStage.driveOut

theorem HeaterSafe.webFault (w : WebId) : HeaterSafe (webFault w s) := (h.raise _).fastStop.ite h

/-- A power stop follows the trip of the drum (05 R101). -/
theorem HeaterSafe.powerStop (ht : s.hc.drum = .tripped) : HeaterSafe (powerStop s) := by
  have h1 : HeaterSafe { Machine.nipOpenCommand (Machine.abortSegment s) with tr.pauseReq := true } := h.same (by simp)
  have h2 := h1.setLine (l := .powerStop) fun _ => by simpa using ht
  unfold Machine.powerStop
  cases s.dc.line with
  | powerStop | powerHeld => exact h
  | stopped | starting | running | draining | stopping | tripped => exact h2.settleStop.requestProgress.speedZeroTest

theorem HeaterSafe.mainsReturn : HeaterSafe (mainsReturn s) := by
  have h1 : HeaterSafe { s with pins.mainsOk := true } := ⟨h.power, h.duty, h.line, fun hm => absurd hm Bool.true_eq_false.mp⟩
  exact (h1.raise _).enterTripped.ite (h1.raise _)

/-! ## The nip, the encoders and CLEAR_TRIP at the line (06 R123 to R135, R120) -/

theorem HeaterSafe.nipSwitches : HeaterSafe (nipSwitches s) := by
  have hclosed : HeaterSafe { Machine.setNip .closed s with dc.nipTimer := none } := h.same (by simp)
  unfold Machine.nipSwitches
  refine h.ite (h.nipFault.ite ?_)
  cases s.dc.nip with
  | opened | closed => exact h.nipFault.ite h
  | closing => exact hclosed.runningTest.ite h
  | opening => exact HeaterSafe.ite (h.same (by simp)) h
  | fault => exact h

theorem HeaterSafe.nipTimeout : HeaterSafe (nipTimeout s) := h.nipFault.ite h
theorem HeaterSafe.nipHoldTest : HeaterSafe (nipHoldTest s) := h.stopRequest.ite h
theorem HeaterSafe.encoderLoss (e : EncoderId) : HeaterSafe (encoderLoss e s) := h.fastStop.ite h
theorem HeaterSafe.takeStop : HeaterSafe (takeStop s) := h.stopRequest.settleStop

theorem HeaterSafe.clearLine : HeaterSafe (clearLine s) := by
  have h1 : HeaterSafe { s with dc.webs := s.dc.webs.map (fun w => { w with run := 0 }) } := h.same (by simp)
  exact (h1.setLine (by simp)).settleStop.ite h

end

end Sys2Proof.Machine
end

section
/-! The heater law over HC's own operations, the walk of the Ticket Reader, the ends of transfers and the register window, and over every
command and a step. -/

namespace Sys2Proof.Machine

/-! ## SET_HEAT, CLEAR_TRIP and the heat sample (05 R89 to R103) -/

theorem taken_tripped_iff (ws : List Word) (h : Heat) : (h.taken ws).drum = .tripped ↔ h.drum = .tripped := by
  refine ⟨fun ht => ?_, fun hd => (taken_tripped hd).1⟩
  by_contra hd
  rw [taken_drum, heatDrum, if_neg hd] at ht
  split_ifs at ht
  exact hd ht

/-- A SET_HEAT gives no zone a duty. -/
theorem Zone.retarget_duty {z : Zone} (h : z.duty = 0) (target : Nat) (enable : Bool) : (z.retarget target enable).duty = 0 := by
  unfold Zone.retarget
  dsimp only
  split
  · rfl
  · split <;> exact h
  · rfl
  · exact h

section
variable {s : State} (h : HeaterSafe s)

include h

theorem HeaterSafe.takeHeat (ws : List Word) : HeaterSafe (takeHeat ws s) := by
  have hb := takeHeat_becomes (ws := ws) (Becomes.refl s)
  have hhc : (Machine.takeHeat ws s).hc = s.hc.taken ws := hb.hc
  refine h.heat (fun hd => ?_) (fun hd z hz => ?_) (by simp)
  · rw [hhc]
    exact (taken_tripped_iff ws s.hc).2 hd
  · rw [hhc] at hd hz
    obtain ⟨i, rfl⟩ := (Oct.mem_toList_iff _ z).1 hz
    rw [taken_get]
    exact Zone.retarget_duty (h.duty ((taken_tripped_iff ws s.hc).1 hd) _ ((Oct.mem_toList_iff _ _).2 ⟨i, rfl⟩)) _ _

theorem HeaterSafe.heatStages (ch : Oct Channel) : HeaterSafe (heatStages ch s) := by
  refine h.heat (fun hd => (heatStages_tripped_iff ch s).2 (.inl hd)) (fun hd z hz => ?_) (by simp)
  obtain ⟨i, rfl⟩ := (Oct.mem_toList_iff _ z).1 hz
  exact (heatStages_get_idle (.inl hd)).1

theorem HeaterSafe.heatSample (ch : Oct Channel) : HeaterSafe (heatSample ch s) := (h.heatStages ch).fastStop.ite (h.heatStages ch)

/-- A step of the ramp moves no duty, and none is made while the drum is TRIPPED. -/
theorem HeaterSafe.rampStep : HeaterSafe (rampStep s) := by
  unfold Machine.rampStep
  split
  · exact h
  · next hd => exact h.heat (fun ht => absurd ht hd) (fun ht => absurd ht hd) rfl

theorem HeaterSafe.zoneRecovery (i : Fin 8) : HeaterSafe { s with hc.zones := s.hc.zones.set i (s.hc.zones.get i).recover } := by
  have hduty : (s.hc.zones.get i).recover.duty = (s.hc.zones.get i).duty := by
    unfold Zone.recover
    split
    · split <;> rfl
    all_goals rfl
  refine h.heat id (fun hd z hz => ?_) rfl
  rcases Oct.mem_toList_set hz with rfl | hz
  · rw [hduty]
    exact h.duty hd _ ((Oct.mem_toList_iff _ _).2 ⟨i, rfl⟩)
  · exact h.duty hd z hz

/-- The drum is AT_TEMP only from HEATING or DEVIATION. -/
theorem HeaterSafe.settleTest : HeaterSafe (settleTest s) := by
  unfold Machine.settleTest
  split
  · next hd =>
    have hne : s.hc.drum ≠ .tripped := by rcases hd.1 with hd | hd <;> simp [hd]
    have hdrum : (setDrum .atTemp s).hc.drum = .atTemp := by rw [(setDrum_becomes_any _ s).hc]
    exact h.heat (fun ht => absurd ht hne) (fun ht => absurd (hdrum.symm.trans ht) (by decide)) (by simp)
  · exact h

/-- A clear frees the drum where mains stand and the line is in neither power state (05 R103). -/
theorem HeaterSafe.clearDrum : HeaterSafe (clearDrum s) := by
  unfold Machine.clearDrum
  split
  · next hc =>
    obtain ⟨-, hmains, hstop, hheld, -⟩ := hc
    let d : DrumState := if s.hc.anyEnabled then .heating else .cold
    have hne : d ≠ .tripped := by
      cases ha : s.hc.anyEnabled <;> simp [d, ha]
    have hb := setDrum_becomes_any d { modZones Zone.reenter s with hc.settle := 0 }
    have hdrum : (setDrum d { modZones Zone.reenter s with hc.settle := 0 }).hc.drum = d := by rw [hb.hc]
    refine ⟨by simpa using h.power, fun ht => absurd (hdrum.symm.trans ht) hne, fun hl => ?_, fun hm => ?_⟩
    · exact absurd hl (by rw [hb.dc]; exact not_or.2 ⟨hstop, hheld⟩)
    · rw [hb.pins] at hm
      exact absurd (hmains.symm.trans hm) Bool.true_eq_false.mp
  · exact h

theorem HeaterSafe.clearTrip : HeaterSafe (clearTrip s) := by
  have h1 : HeaterSafe (clearPause (clearNip (Machine.clearDrum (Machine.clearLine s)))) := h.clearLine.clearDrum.same (by simp)
  exact h1.autoStart.ite h1

/-- The loss of mains trips the drum before the line is stopped (05 R101, 06 R121). -/
theorem HeaterSafe.mainsLoss : HeaterSafe (mainsLoss s) := by
  let u : State := modZones Zone.cut (Machine.raise .power { s with pins.mainsOk := false })
  have hb := setDrum_becomes_any .tripped u
  have hhc : (setDrum .tripped u).hc = { u.hc with drum := .tripped } := hb.hc
  have htrip : (setDrum .tripped u).hc.drum = .tripped := by rw [hhc]
  have h1 : HeaterSafe (setDrum .tripped u) := by
    refine ⟨by rw [hb.pins]; exact h.power, fun _ z hz => ?_, fun _ => htrip, fun _ => htrip⟩
    rw [hhc] at hz
    obtain ⟨w, -, rfl⟩ := List.mem_map.1 (show z ∈ s.hc.zones.toList.map Zone.cut from hz)
    rfl
  exact h1.powerStop htrip

/-! ## Tickets (09 R172, R173) -/

theorem HeaterSafe.execute (kind : TicketKind) (ws : List Word) : HeaterSafe (execute kind ws s) := by
  cases kind with
  | setHeat => exact (h.takeHeat ws).finishTicket _ _ _
  | stop => exact h.takeStop
  | segment => exact h
  | setTension =>
    have h1 : HeaterSafe (takeTension ws s) := h.same (by simp)
    exact h1.finishTicket _ _ _
  | setSpeed =>
    have h1 : HeaterSafe (takeSpeed ws s) := h.same (by simp)
    exact h1.finishTicket _ _ _
  | configure => exact h.same (t := takeConfigure ws s) (by simp)
  | loadProfile => exact h.same (t := takeLoad ws s) (by simp)
  | endSegment => exact h.same (t := takeEnd _ s) (by simp)
  | report => exact h.same (t := takeReport ws s) (by simp)

theorem HeaterSafe.handOff : HeaterSafe (handOff s) := by
  unfold Machine.handOff
  cases s.tr.ticket with
  | none => exact h
  | some t =>
    have h1 : HeaterSafe { s with tr.ticket := some { t with phase := .handed } } := h.same (by simp)
    exact (h1.execute t.kind t.body).ite h

theorem HeaterSafe.takeSegment (t : Ticket) : HeaterSafe (takeSegment t s) := by
  have h1 : HeaterSafe (fetchRun { loadSegment s.bt.nextTally t (openTally t (writeTaken t s)) with
    tr.ticket := none, tr.reader := .holding, tr.step := .link }) := h.same (by simp)
  exact h1.autoStart.tryBandStart

theorem HeaterSafe.checkTicket (t : Ticket) : HeaterSafe (checkTicket t s) := by
  unfold Machine.checkTicket
  cases takeCheck t s with
  | some r => exact h.same (by simp)
  | none =>
    dsimp only
    cases t.kind with
    | segment => exact h.takeSegment t
    | configure | setHeat | setTension | setSpeed | loadProfile | endSegment | stop | report => exact h.same (by simp)

theorem HeaterSafe.takeTicket (w : Header) : HeaterSafe (takeTicket w s) := by
  unfold Machine.takeTicket
  cases kindOfCode w.kindCode with
  | none => exact h.same (by simp)
  | some k => exact HeaterSafe.ite (h.same (by simp)) ((h.checkTicket _).ite (h.same (by simp)))

theorem HeaterSafe.headerRead (ws : List Word) : HeaterSafe (headerRead ws s) :=
  HeaterSafe.ite (h.same (by simp)) (HeaterSafe.ite (HeaterSafe.ite h (h.same (by simp)))
    (h.ite (HeaterSafe.ite (h.same (by simp)) (h.takeTicket _))))

theorem HeaterSafe.bodyDone (ws : List Word) : HeaterSafe (bodyDone ws s) := by
  unfold Machine.bodyDone
  cases s.tr.ticket with
  | none => exact h
  | some t => exact HeaterSafe.ite (h.same (by simp)) (h.checkTicket _)

theorem HeaterSafe.headerRole (r : HeaderRole) : HeaterSafe (headerRole r s) := by
  cases r with
  | take k => exact h.handOff.trContinue
  | close => exact h.same (t := closeTicket s) (by simp)
  | segment own => exact h.trContinue

theorem HeaterSafe.headerWritten (w : HeaderWrite) : HeaterSafe (headerWritten w s) := by
  have h1 : HeaterSafe (raiseIf (w.state.isFinal && w.notify) .ticket s) := h.same (by simp)
  exact (h1.requestProgress.headerRole _).softWritten

theorem HeaterSafe.chainPoll : HeaterSafe (chainPoll s) := by
  have h1 : HeaterSafe { s with tr.pollElapsed := 0, tr.pollInForce := s.smp.pollPeriod } := h.same (by simp)
  exact h1.chainLook.ite h

/-! ## Ends of transfers (10 R185, R186) -/

theorem HeaterSafe.countsEnded (why : CountsFor) : HeaterSafe (countsEnded why s) := by
  cases why with
  | retirement =>
    have h1 : HeaterSafe (removeHead s) := h.same (by simp)
    have h2 : HeaterSafe (finaliseIfDone ((s.bt.track.head?.map Band.tally).getD 0) (startRetirement (removeHead s))) := h1.same (by simp)
    exact h1.softDiscard.ite h2.drainEnd.tryBandStart
  | finalise id =>
    unfold Machine.countsEnded
    dsimp only
    cases s.tallyOf id with
    | none => exact h
    | some e =>
      dsimp only
      cases s.smp.soft with
      | off | stopping | retiring | writing | finalising | closing | settling => exact h.same (by simp)

theorem HeaterSafe.transferEnded (x : Transfer) : HeaterSafe (transferEnded x s) := by
  unfold Machine.transferEnded
  cases x.kind with
  | headerWrite w => exact h.headerWritten w
  | countsWrite why => exact h.countsEnded why
  | headerRead => exact h.headerRead _
  | bodyRead => exact h.bodyDone _
  | recordWrite | linkRead | progress | profileCopy | reportWrite => exact h.same (by simp)

theorem HeaterSafe.transferBurst (c : Client) (x : Transfer) (rest : List Transfer) (g : Grant) (ws : List Word) :
    HeaterSafe (transferBurst c x rest g ws s) := by
  have h1 : HeaterSafe (if x.isWrite then emitWrites (x.addr + 4 * x.moved) (x.next (x.moves g ws)) s
    else stageWords x (ws.take (x.moves g ws)) s) := HeaterSafe.ite (h.same (by simp)) (h.same (by simp))
  have h2 : ∀ q : Port, HeaterSafe { (if x.isWrite then emitWrites (x.addr + 4 * x.moved) (x.next (x.moves g ws)) s
    else stageWords x (ws.take (x.moves g ws)) s) with smp := q } := fun q => h1.same (by simp)
  exact ((h2 _).transferEnded _).ite (h2 _)

theorem HeaterSafe.rowBurst (g : Grant) (ws : List Word) : HeaterSafe (rowBurst g ws s) := by
  have h1 : ∀ l, HeaterSafe { s with re.slots := l } := fun l => h.same (by simp)
  exact h.ite ((h1 _).tryBandStart.ite (h1 _))

theorem HeaterSafe.burstEnd (ws : List Word) : HeaterSafe (burstEnd ws s) := by
  have h1 : HeaterSafe { s with smp.grant := none } := h.same (by simp)
  unfold Machine.burstEnd
  cases s.smp.grant with
  | none => exact h
  | some g =>
    refine h1.ite ?_
    split
    case h_1 => exact h1.rowBurst g ws
    case h_2 | h_3 | h_4 => exact h1.transferBurst _ _ _ g ws
    case h_5 | h_6 | h_7 => exact h1

theorem HeaterSafe.transferDone (p : Transfer → Bool) (ws : List Word) : HeaterSafe (transferDone p ws s) := (h.burstEnd ws).ite h
theorem HeaterSafe.ticketStep (k : TicketKind) (ws : List Word) : HeaterSafe (ticketStep k ws s) := (h.burstEnd ws).ite h
theorem HeaterSafe.rowDone (ws : List Word) : HeaterSafe (rowDone ws s) := (h.burstEnd ws).ite h

theorem HeaterSafe.transferFailed (c : Client) (x : Transfer) (rest : List Transfer) : HeaterSafe (transferFailed c x rest s) := by
  have h1 : HeaterSafe { s with smp := s.smp.setQueue c rest } := h.same (by simp)
  unfold Machine.transferFailed
  cases x.kind with
  | headerWrite w => exact h.same (by simp)
  | countsWrite why => exact h1.countsEnded why
  | recordWrite | headerRead | linkRead | bodyRead | progress | profileCopy | reportWrite => exact h1.same (by simp)

theorem HeaterSafe.busError (n : Nat) : HeaterSafe (busError n s) := by
  have hcut : HeaterSafe { Machine.cutBurst n s with smp.grant := none } := h.same (by simp)
  have h1 := hcut.raise .port
  unfold Machine.busError
  cases s.smp.grant with
  | none => exact h
  | some g =>
    refine h1.ite ?_
    split
    case h_1 => exact h1.same (by simp)
    case h_2 | h_3 | h_4 => exact h1.transferFailed _ _ _
    case h_5 | h_6 | h_7 => exact h1

/-! ## The register window (10 R181, R182) -/

theorem HeaterSafe.lineCtl {f : State → State} (hf : HeaterSafe (f s)) : HeaterSafe (lineCtl f s) := by
  unfold Machine.lineCtl
  cases s.smp.soft with
  | off => exact hf
  | stopping | retiring | writing | finalising | closing | settling => exact h

theorem HeaterSafe.onBit (c : Bool) {f : State → State} (hf : HeaterSafe (f s)) : HeaterSafe (onBit c f s) := hf.ite h

theorem HeaterSafe.goChain : HeaterSafe (goChain s) := h.same (by simp)
theorem HeaterSafe.haltChain : HeaterSafe (haltChain s) := h.same (by simp)

theorem HeaterSafe.writeLineCtl (v : Word) : HeaterSafe (writeLineCtl v s) := by
  have h1 := h.onBit (bitAt v 2) h.clearTrip
  have h2 := h1.onBit (bitAt v 0 && !bitAt v 1) h1.startRequest
  have h3 := h2.onBit (bitAt v 1) h2.stopRequest
  have h4 := h3.onBit (bitAt v 3 && !bitAt v 4) h3.goChain
  exact h.softStart.ite (h4.onBit (bitAt v 4) h4.haltChain)

theorem HeaterSafe.writeRegister (offset bytes : Nat) (v : Word) : HeaterSafe (writeRegister offset bytes v s) :=
  h.ite ((h.lineCtl (h.writeLineCtl v)).ite (HeaterSafe.ite (h.same (by simp)) (HeaterSafe.ite (h.same (by simp))
    (HeaterSafe.ite (h.same (by simp)) (HeaterSafe.ite (h.same (by simp)) (HeaterSafe.ite (h.same (by simp)) h))))))

end

/-! ## Commands -/

section
variable {s : State} (h : HeaterLaw s)

include h

/-- A command whose effect on a powered part keeps the law; in power-up reset it has none (10 R189). -/
theorem heaterLaw_command {f : State → State} (hf : ∀ u, HeaterSafe u → HeaterSafe (f u)) : HeaterLaw (command f s) := by
  cases hp : s.pins.powerGood with
  | true =>
    have h1 : HeaterSafe s := (heaterSafe_iff s).2 ⟨hp, h⟩
    have h2 : HeaterSafe { s with out := [] } := h1.same (by simp)
    have h3 : HeaterSafe (kick (f { s with out := [] })) := (hf _ h2).same (by simp)
    rw [command_eq hp]
    exact ((heaterSafe_iff _).1 h3).2
  | false =>
    rw [show command f s = { s with out := [] } from if_neg (by simp [hp])]
    exact h

theorem heaterLaw_commandAt {f : State → State} {l : Lines} (hf : ∀ u, HeaterSafe u → HeaterSafe (f u)) :
    HeaterLaw (commandAt l f s) := heaterLaw_command h fun u hu => by
  have h1 : HeaterSafe (sampleLines l u) := hu.same (by simp)
  exact hf _ h1

/-- A pin that is followed in power-up reset says nothing of the drum then. -/
theorem heaterLaw_pinned {f : State → State} {p : Pins} (hp : p.powerGood = s.pins.powerGood)
    (hf : ∀ u, HeaterSafe u → HeaterSafe (f u)) : HeaterLaw (pinned p f s) := by
  unfold pinned
  split
  · exact heaterLaw_command h hf
  · next hoff => exact ⟨h.1, h.2.1, fun hon => absurd (hp.symm.trans hon) hoff⟩

theorem heaterLaw_tick : HeaterLaw (tick s) := by
  unfold tick powered
  split <;> exact h

end

/-- The values after power-up reset meet the law, as the mains stand (05 R109, 06 R136). -/
theorem heaterLaw_powerUpState (p : Pins) (s : State) : HeaterLaw (powerUpState p s) := by
  refine ⟨fun _ => ?_, fun hl => ?_, fun _ hm => ?_⟩
  · show ∀ z ∈ Heat.reset.zones.toList, z.duty = 0
    decide
  · show (if p.mainsOk then DrumState.cold else DrumState.tripped) = .tripped
    cases hm : p.mainsOk with
    | false => rfl
    | true => simp [powerUpState, hm] at hl
  · show (if p.mainsOk then DrumState.cold else DrumState.tripped) = .tripped
    exact if_neg (by rw [show p.mainsOk = false from hm]; exact Bool.false_ne_true)

theorem heaterLaw_powerRise {s : State} (h : HeaterLaw s) : HeaterLaw (powerRise s) := by
  unfold powerRise
  split
  · exact h
  · unfold raiseIf
    split <;> exact heaterLaw_powerUpState _ s

theorem heaterLaw_next {t u : State} (h : HeaterLaw u)
    (he : (Host.Outcome.next u : Host.Outcome State Fault Refusal) = .next t) : HeaterLaw t := by
  cases he
  exact h

/-- Every command keeps the law: its arm of `exec` is one operation, as a command. -/
theorem heaterLaw_exec {i : Instr} {s t : State} (h : HeaterLaw s) (he : exec i s = .next t) : HeaterLaw t := by
  cases i with
  | run => exact heaterLaw_next (heaterLaw_commandAt h fun _ hu => hu.lineCtl hu.startRequest) he
  | stop => exact heaterLaw_next (heaterLaw_command h fun _ hu => hu.lineCtl hu.stopRequest) he
  | clearTrip => exact heaterLaw_next (heaterLaw_commandAt h fun _ hu => hu.lineCtl hu.clearTrip) he
  | goChain => exact heaterLaw_next (heaterLaw_command h fun _ hu => hu.lineCtl hu.goChain) he
  | haltChain => exact heaterLaw_next (heaterLaw_command h fun _ hu => hu.lineCtl hu.haltChain) he
  | softReset => exact heaterLaw_next (heaterLaw_command h fun _ hu => hu.lineCtl hu.softStart) he
  | registerWrite => exact heaterLaw_next (heaterLaw_commandAt h fun _ hu => hu.writeRegister _ _ _) he
  | powerGoodLow n =>
    have hdown : HeaterLaw (powerDown n s) := heaterLaw_powerUpState { s.pins with powerGood := false } s
    exact heaterLaw_next hdown he
  | powerGoodRise => exact heaterLaw_next (heaterLaw_powerRise h) he
  | mainsOkLoss => exact heaterLaw_next (heaterLaw_pinned h (by rfl) fun _ hu => hu.mainsLoss) he
  | mainsOkReturn => exact heaterLaw_next (heaterLaw_pinned h (by rfl) fun _ hu => hu.mainsReturn) he
  | configure | setHeat | setTension | setSpeed | loadProfile | endSegment | stopTicket | report =>
    exact heaterLaw_next (heaterLaw_command h fun _ hu => hu.ticketStep _ _) he
  | segment => exact heaterLaw_next (heaterLaw_commandAt h fun _ hu => hu.ticketStep _ _) he
  | encoderPulse =>
    exact heaterLaw_next (heaterLaw_commandAt h fun _ hu => hu.same (by simp [encoderPulse_dc])) he
  | bandStart => exact heaterLaw_next (heaterLaw_commandAt h fun _ hu => hu.tryBandStart) he
  | rowArrived => exact heaterLaw_next (heaterLaw_commandAt h fun _ hu => hu.rowDone _) he
  | heatSample => exact heaterLaw_next (heaterLaw_command h fun _ hu => hu.heatSample _) he
  | zoneRecovery => exact heaterLaw_next (heaterLaw_command h fun _ hu => hu.zoneRecovery _) he
  | drumSettled => exact heaterLaw_next (heaterLaw_command h fun _ hu => hu.settleTest) he
  | rampStep => exact heaterLaw_next (heaterLaw_command h fun _ hu => hu.rampStep) he
  | tensionSample => exact heaterLaw_next (heaterLaw_commandAt h fun _ hu => hu.tensionSample _) he
  | webFault => exact heaterLaw_next (heaterLaw_command h fun _ hu => hu.webFault _) he
  | lineRunning => exact heaterLaw_next (heaterLaw_commandAt h fun _ hu => hu.runningTest) he
  | speedZero => exact heaterLaw_next (heaterLaw_commandAt h fun _ hu => hu.speedZeroTest) he
  | nipSwitchChange o c l =>
    refine heaterLaw_next (heaterLaw_pinned h (by rfl) fun u hu => ?_) he
    have h1 : HeaterSafe (sampleNip o c (sampleLines l u)) := hu.same (by simp)
    exact h1.nipSwitches
  | nipTravelTimeout => exact heaterLaw_next (heaterLaw_command h fun _ hu => hu.nipTimeout) he
  | nipHoldExpiry => exact heaterLaw_next (heaterLaw_command h fun _ hu => hu.nipHoldTest) he
  | encoderLoss => exact heaterLaw_next (heaterLaw_command h fun _ hu => hu.encoderLoss _) he
  | chainPoll => exact heaterLaw_next (heaterLaw_commandAt h fun _ hu => hu.chainPoll) he
  | ticketReadDone | countsWriteDone => exact heaterLaw_next (heaterLaw_commandAt h fun _ hu => hu.transferDone _ _) he
  | reportWriteDone | headerWriteDone | profileCopyDone | recordWriteDone | progressWriteDone =>
    exact heaterLaw_next (heaterLaw_command h fun _ hu => hu.transferDone _ _) he
  | burstEnd => exact heaterLaw_next (heaterLaw_commandAt h fun _ hu => hu.burstEnd _) he
  | busError => exact heaterLaw_next (heaterLaw_commandAt h fun _ hu => hu.busError _) he
  | chainheadWrite | progbaseWrite | noticeWrite | noticemaskWrite | portcfgWrite | splicePulse | markRead | lockAcquired | lockLost
  | stretchUpdate | statusFrame | replyFrame | badFrame | frameByteGap | instrumentSilence | triggerTimeout | measureSent | driftSet
  | driftClear | progressTimer | softResetComplete | linkByte =>
    exact heaterLaw_next (heaterLaw_command h fun _ hu => hu.same (by simp)) he

end Sys2Proof.Machine
end

section
namespace Sys2Proof.Proofs

open Sys2Proof.Machine

/-- Settles O57: a command is one operation, each of which keeps the law on a powered part; a millisecond moves timers alone. -/
theorem heaterLawKept : Obligations.HeaterLawKept := by
  intro s t h he
  unfold step at he
  cases hq : s.pending with
  | nil =>
    rw [hq] at he
    exact heaterLaw_next (heaterLaw_tick h) he
  | cons c rest =>
    rw [hq] at he
    exact heaterLaw_exec (s := { s with pending := rest }) h he

end Sys2Proof.Proofs
end

section
/-! The nip law (06 R122) over the operations that move the line and the nip (06): each keeps it. What leaves the valve, the nip and the
line state alone keeps it by its frame. -/

namespace Sys2Proof.Machine

/-- The valve is commanded closed only while the nip is CLOSING or CLOSED: the part of the nip law that says nothing of the line. -/
def ValveLaw (s : State) : Prop := s.dc.valve = .closing → s.dc.nip = .closing ∨ s.dc.nip = .closed

theorem valve_eq_opening_iff (v : Valve) : v = .opening ↔ v ≠ .closing := by cases v <;> decide

/-- An open command leaves the valve open. -/
theorem nipOpenCommand_valve {s : State} (h : ValveLaw s) : (nipOpenCommand s).dc.valve = .opening := by
  unfold nipOpenCommand
  cases hn : s.dc.nip with
  | closed | closing => rfl
  | opened | opening | fault => exact (valve_eq_opening_iff _).2 fun hv => by simpa [hn] using h hv

theorem nipLaw_of_open {t : State} (hv : t.dc.valve = .opening) : NipLaw t := fun hc => absurd hc ((valve_eq_opening_iff _).1 hv)

theorem setNip_nip (n : NipState) (s : State) : (setNip n s).dc.nip = n := by
  unfold setNip
  split
  · assumption
  · dsimp only
    split <;> simp

theorem nipFromSwitches_valve (s : State) : (nipFromSwitches s).dc.valve = s.dc.valve := by simp

/-- Soft reset commands the nip open (06 R137). -/
theorem driveSoftReset_valve (s : State) : (driveSoftReset s).dc.valve = .opening := by
  unfold driveSoftReset
  generalize setLine (if s.pins.mainsOk then .stopped else .powerHeld) s = u
  dsimp only
  split
  · rfl
  · exact nipFromSwitches_valve _

section
variable {s t : State} (h : NipLaw s)

include h

theorem NipLaw.valveLaw : ValveLaw s := fun hv => (h hv).1

/-- Outside STARTING, RUNNING and DRAINING the valve is open. -/
theorem NipLaw.valve_open (hl : s.dc.line ≠ .starting ∧ s.dc.line ≠ .running ∧ s.dc.line ≠ .draining) : s.dc.valve = .opening :=
  (valve_eq_opening_iff _).2 fun hv => by
    obtain ⟨h1, h2, h3⟩ := hl
    rcases (h hv).2 with hl | hl | hl <;> contradiction

/-- What the law speaks of is the same. -/
theorem NipLaw.same (hsame : (t.dc.valve, t.dc.nip, t.dc.line) = (s.dc.valve, s.dc.nip, s.dc.line)) : NipLaw t := by
  simp only [Prod.mk.injEq] at hsame
  obtain ⟨hvalve, hnip, hline⟩ := hsame
  simp only [NipLaw, hvalve, hnip, hline]
  exact h

theorem NipLaw.ite {c : Prop} {_ : Decidable c} (k : NipLaw t) : NipLaw (if c then s else t) := by
  split
  · exact h
  · exact k

/-! ## Operations that leave the valve, the nip and the line state alone -/

theorem NipLaw.raise (n : Notice) : NipLaw (raise n s) := h.same (by simp)
theorem NipLaw.requestProgress : NipLaw (requestProgress s) := h.same (by simp)
theorem NipLaw.readerLook : NipLaw (readerLook s) := h.same (by simp)
theorem NipLaw.trContinue : NipLaw (trContinue s) := h.same (by simp)
theorem NipLaw.finishTicket (st : TicketState) (status : Status) (d : Nat) : NipLaw (finishTicket st status d s) := h.same (by simp)
theorem NipLaw.settleStop : NipLaw (settleStop s) := h.same (by simp)
theorem NipLaw.drainEntry : NipLaw (drainEntry s) := h.same (by simp)
theorem NipLaw.clearDrain : NipLaw (clearDrain s) := h.same (by simp)
theorem NipLaw.tryBandStart : NipLaw (tryBandStart s) := h.same (by rw [tryBandStart_dc])
theorem NipLaw.softWritten : NipLaw (softWritten s) := h.same (by simp)
theorem NipLaw.softDiscard : NipLaw (softDiscard s) := h.same (by simp)

/-! ## The line and the nip (06 R111 to R125) -/

/-- The line leaves STARTING, RUNNING and DRAINING with the valve open only. -/
theorem NipLaw.setLine {l : LineState} (hl : s.dc.valve = .closing → l = .starting ∨ l = .running ∨ l = .draining) :
    NipLaw (setLine l s) := by
  intro hv
  have hv' : s.dc.valve = .closing := by simpa using hv
  exact ⟨by simpa using (h hv').1, by rw [setLine_line]; exact hl hv'⟩

theorem NipLaw.setLine_open (hv : s.dc.valve = .opening) (l : LineState) : NipLaw (Machine.setLine l s) :=
  h.setLine fun hc => absurd hc ((valve_eq_opening_iff _).1 hv)

theorem NipLaw.normalStop : NipLaw (normalStop s) := by
  refine nipLaw_of_open (nipOpenCommand_valve fun hv => ?_)
  simpa using h.valveLaw (by simpa using hv)

theorem NipLaw.drainEnd : NipLaw (drainEnd s) := h.normalStop.ite h

theorem NipLaw.stopRequest : NipLaw (stopRequest s) := by
  unfold Machine.stopRequest
  cases s.dc.line with
  | running => exact (h.setLine (by simp)).drainEntry.drainEnd
  | starting => exact h.normalStop
  | draining | stopping | stopped | tripped | powerStop | powerHeld => exact h

theorem abortSegment_open : (Machine.nipOpenCommand (abortSegment s)).dc.valve = .opening :=
  nipOpenCommand_valve fun hv => by simpa using h.valveLaw (by simpa using hv)

theorem NipLaw.fastStop : NipLaw (fastStop s) := by
  refine NipLaw.ite (nipLaw_of_open ?_) h
  simpa using abortSegment_open h

omit h in
/-- A nip in FAULT has its valve open, whatever it was (06 R123). -/
theorem nipLaw_nipFault (s : State) : NipLaw (nipFault s) := (nipLaw_of_open rfl).fastStop

theorem NipLaw.acceptStart : NipLaw (acceptStart s) := by
  have h1 : NipLaw { s with
    dc.startCause := .none, dc.webs := s.dc.webs.map (fun w => { w with integral := 0, run := 0 }) } := h.same rfl
  exact h1.setLine (by simp)

theorem NipLaw.autoStart : NipLaw (autoStart s) := by
  unfold Machine.autoStart
  refine NipLaw.ite ?_ h
  cases s.startTest with
  | none => exact h.acceptStart.same rfl
  | some c => exact NipLaw.ite (h.same (by simp)) (h.same (by simp))

theorem NipLaw.enterStopped (hv : s.dc.valve = .opening) : NipLaw (enterStopped s) := (h.setLine_open hv _).settleStop.autoStart

theorem NipLaw.enterTripped (hv : s.dc.valve = .opening) : NipLaw (enterTripped s) := (h.setLine_open hv _).settleStop

theorem NipLaw.chainLook : NipLaw (chainLook s) := h.readerLook.autoStart.ite h.readerLook

theorem NipLaw.enterRunning : NipLaw (enterRunning s) := (h.setLine (by simp)).clearDrain.tryBandStart

theorem NipLaw.startRequest : NipLaw (startRequest s) := by
  unfold Machine.startRequest
  cases s.dc.line with
  | stopped =>
    dsimp only
    cases s.startTest with
    | none => exact h.acceptStart
    | some c => exact h.same (by simp)
  | draining => exact h.enterRunning
  | tripped | powerStop | powerHeld => exact h.same (by simp)
  | starting | running | stopping => exact h

theorem NipLaw.runningTest : NipLaw (runningTest s) := h.enterRunning.ite h

/-- The nip is commanded closed in STARTING only (06 R115). -/
theorem NipLaw.nipCloseTest : NipLaw (nipCloseTest s) := by
  unfold Machine.nipCloseTest
  split
  · next hc =>
    obtain ⟨hline, hnip, -⟩ := hc
    intro _
    simp only [nipCloseCommand, hnip]
    exact ⟨.inl (by simp [Machine.setNip, hnip]), .inl (by simpa using hline)⟩
  · exact h

/-! ## Soft reset (10 R190) -/

omit h in
theorem nipLaw_softReach (s : State) : NipLaw (softReach s) := by
  let u := heatSoftReset (Machine.clearSegment (readerSoftReset (storeSoftReset (verifierSoftReset { s with smp.soft := .retiring }))))
  have h1 : NipLaw (driveSoftReset u) := nipLaw_of_open (driveSoftReset_valve u)
  exact h1.ite h1.softDiscard

theorem NipLaw.softStart : NipLaw (softStart s) := by
  have h1 : NipLaw { s with smp.soft := .stopping } := h.same rfl
  exact h1.fastStop.ite (nipLaw_softReach _)

/-! ## Speed 0, the tension sample, mains (06 R112, R121, R126) -/

/-- At speed 0 the line is in a stop, with the valve open. -/
theorem NipLaw.speedZero : NipLaw (speedZero s) := by
  have h1 : NipLaw (Machine.zeroLoops s) := h.same rfl
  unfold Machine.speedZero
  refine (nipLaw_softReach _).ite ?_
  cases hl : (Machine.zeroLoops s).dc.line with
  | stopping =>
    have hv := h1.valve_open (by rw [hl]; decide)
    dsimp only
    cases (Machine.zeroLoops s).dc.stopKind with
    | normal => exact h1.enterStopped hv
    | fast => exact h1.enterTripped hv
  | powerStop =>
    have hv := h1.valve_open (by rw [hl]; decide)
    exact (h1.enterTripped hv).ite (h1.setLine_open hv _)
  | stopped | starting | running | draining | tripped | powerHeld => exact h1

theorem NipLaw.speedZeroTest : NipLaw (speedZeroTest s) := h.speedZero.ite h

theorem NipLaw.refStage : NipLaw (refStage s) := by
  have h1 : NipLaw (stepRef s) := h.same (by simp)
  exact h1.nipCloseTest.runningTest.speedZeroTest

theorem NipLaw.readStage (cells : Webs LoadCell) : NipLaw (readStage cells s) := h.same rfl
theorem NipLaw.sensorStage : NipLaw (sensorStage s) := (h.raise _).fastStop.ite h
theorem NipLaw.loopStage : NipLaw (loopStage s) := h.same (by simp)
theorem NipLaw.countStage : NipLaw (countStage s) := h.same rfl
theorem NipLaw.faultStage : NipLaw (faultStage s) := (h.raise _).fastStop.ite h
theorem NipLaw.driveOut : NipLaw (driveOut s) := h.same (by simp)

theorem NipLaw.tensionSample (cells : Webs LoadCell) : NipLaw (tensionSample cells s) :=
  (h.refStage.readStage cells).sensorStage.loopStage.countStage.faultStage.driveOut

theorem NipLaw.webFault (w : WebId) : NipLaw (webFault w s) := (h.raise _).fastStop.ite h

theorem NipLaw.powerStop : NipLaw (powerStop s) := by
  have hv : ({ Machine.nipOpenCommand (Machine.abortSegment s) with tr.pauseReq := true } : State).dc.valve = .opening :=
    abortSegment_open h
  have h1 := (nipLaw_of_open hv).setLine_open hv .powerStop
  unfold Machine.powerStop
  cases s.dc.line with
  | powerStop | powerHeld => exact h
  | stopped | starting | running | draining | stopping | tripped => exact h1.settleStop.requestProgress.speedZeroTest

theorem NipLaw.mainsLoss : NipLaw (mainsLoss s) := by
  have h1 : NipLaw (tripDrum (Machine.raise .power { s with pins.mainsOk := false })) := h.same (by simp)
  exact h1.powerStop

theorem NipLaw.mainsReturn : NipLaw (mainsReturn s) := by
  have h1 : NipLaw (Machine.raise .power { s with pins.mainsOk := true }) := h.same rfl
  unfold Machine.mainsReturn
  dsimp only
  split
  · next hl => exact h1.enterTripped (h1.valve_open (by rw [hl]; decide))
  · exact h1

/-! ## The nip, the encoders and CLEAR_TRIP at the line (06 R123 to R135, R120) -/

omit h in
/-- A nip state under an open valve. -/
theorem nipLaw_setNip_open (hv : s.dc.valve = .opening) (n : NipState) : NipLaw (setNip n s) :=
  nipLaw_of_open (by simpa using hv)

/-- CLOSING ends in CLOSED with the valve as it was. -/
theorem NipLaw.setNip_closed : NipLaw (setNip .closed s) := fun hv =>
  ⟨.inr (setNip_nip _ s), by simpa using (h (by simpa using hv)).2⟩

theorem NipLaw.nipSwitches : NipLaw (nipSwitches s) := by
  have hclosed : NipLaw { Machine.setNip .closed s with dc.nipTimer := none } := h.setNip_closed.same rfl
  unfold Machine.nipSwitches
  refine h.ite ((nipLaw_nipFault s).ite ?_)
  cases hn : s.dc.nip with
  | opened | closed => exact (nipLaw_nipFault s).ite h
  | closing => exact hclosed.runningTest.ite h
  | opening =>
    have hv : s.dc.valve = .opening := (valve_eq_opening_iff _).2 fun hv => by simpa [hn] using (h hv).1
    have hopened : NipLaw { Machine.setNip .opened s with dc.nipTimer := none } := (nipLaw_setNip_open hv _).same rfl
    exact hopened.ite h
  | fault => exact h

theorem NipLaw.nipTimeout : NipLaw (nipTimeout s) := (nipLaw_nipFault s).ite h
theorem NipLaw.nipHoldTest : NipLaw (nipHoldTest s) := h.stopRequest.ite h
theorem NipLaw.encoderLoss (e : EncoderId) : NipLaw (encoderLoss e s) := h.fastStop.ite h
theorem NipLaw.takeStop : NipLaw (takeStop s) := h.stopRequest.settleStop

theorem NipLaw.clearLine : NipLaw (clearLine s) := by
  have h1 : NipLaw { s with dc.webs := s.dc.webs.map (fun w => { w with run := 0 }) } := h.same rfl
  unfold Machine.clearLine
  split
  · next hl => exact (h1.setLine_open (h.valve_open (by rw [hl]; decide)) _).settleStop
  · exact h

theorem NipLaw.clearNip : NipLaw (clearNip s) := by
  unfold Machine.clearNip
  split
  · next hn => exact nipLaw_setNip_open ((valve_eq_opening_iff _).2 fun hv => by simpa [hn.1] using (h hv).1) _
  · exact h

theorem NipLaw.clearTrip : NipLaw (clearTrip s) := by
  have h1 : NipLaw (clearDrum (Machine.clearLine s)) := h.clearLine.same (by simp)
  have h2 : NipLaw (clearPause (Machine.clearNip (clearDrum (Machine.clearLine s)))) := h1.clearNip.same (by simp)
  exact h2.autoStart.ite h2

theorem NipLaw.heatSample (ch : Oct Channel) : NipLaw (heatSample ch s) := by
  have h1 : NipLaw (heatStages ch s) := h.same (by simp)
  exact h1.fastStop.ite h1

end

end Sys2Proof.Machine
end

section
/-! The nip law over the walk of the Ticket Reader, the ends of transfers and the register window, and over every command and a step. -/

namespace Sys2Proof.Machine

section
variable {s : State} (h : NipLaw s)

include h

/-! ## Tickets (09 R172, R173) -/

theorem NipLaw.execute (kind : TicketKind) (ws : List Word) : NipLaw (execute kind ws s) := by
  cases kind with
  | stop => exact h.takeStop
  | segment => exact h
  | setHeat => exact h.same (t := Machine.finishTicket .done .ok _ (takeHeat ws s)) (by simp)
  | setTension => exact h.same (t := Machine.finishTicket .done .ok _ (takeTension ws s)) (by simp)
  | setSpeed => exact h.same (t := Machine.finishTicket .done .ok _ (takeSpeed ws s)) (by simp)
  | configure => exact h.same (t := takeConfigure ws s) (by simp)
  | loadProfile => exact h.same (t := takeLoad ws s) (by simp)
  | endSegment => exact h.same (t := takeEnd _ s) (by simp)
  | report => exact h.same (t := takeReport ws s) (by simp)

theorem NipLaw.handOff : NipLaw (handOff s) := by
  unfold Machine.handOff
  cases s.tr.ticket with
  | none => exact h
  | some t =>
    have h1 : NipLaw { s with tr.ticket := some { t with phase := .handed } } := h
    exact (h1.execute t.kind t.body).ite h

theorem NipLaw.takeSegment (t : Ticket) : NipLaw (takeSegment t s) := by
  have h1 : NipLaw (fetchRun { loadSegment s.bt.nextTally t (openTally t (writeTaken t s)) with
    tr.ticket := none, tr.reader := .holding, tr.step := .link }) := h.same (by simp)
  exact h1.autoStart.tryBandStart

theorem NipLaw.checkTicket (t : Ticket) : NipLaw (checkTicket t s) := by
  unfold Machine.checkTicket
  cases takeCheck t s with
  | some r => exact h.same (by simp)
  | none =>
    dsimp only
    cases t.kind with
    | segment => exact h.takeSegment t
    | configure | setHeat | setTension | setSpeed | loadProfile | endSegment | stop | report => exact h.same (by simp)

theorem NipLaw.takeTicket (w : Header) : NipLaw (takeTicket w s) := by
  unfold Machine.takeTicket
  cases kindOfCode w.kindCode with
  | none => exact h.same (by simp)
  | some k => exact NipLaw.ite (h.same (by simp)) ((h.checkTicket _).ite (h.same (by simp)))

theorem NipLaw.headerRead (ws : List Word) : NipLaw (headerRead ws s) :=
  NipLaw.ite (h.same (by simp)) (NipLaw.ite (NipLaw.ite h (h.same (by simp)))
    (h.ite (NipLaw.ite (h.same (by simp)) (h.takeTicket _))))

theorem NipLaw.bodyDone (ws : List Word) : NipLaw (bodyDone ws s) := by
  unfold Machine.bodyDone
  cases s.tr.ticket with
  | none => exact h
  | some t => exact NipLaw.ite (h.same (by simp)) (h.checkTicket _)

theorem NipLaw.headerRole (r : HeaderRole) : NipLaw (headerRole r s) := by
  cases r with
  | take k => exact h.handOff.trContinue
  | close => exact h.same (t := closeTicket s) (by simp)
  | segment own => exact h.trContinue

theorem NipLaw.headerWritten (w : HeaderWrite) : NipLaw (headerWritten w s) := by
  have h1 : NipLaw (raiseIf (w.state.isFinal && w.notify) .ticket s) := h.same (by simp)
  exact (h1.requestProgress.headerRole _).softWritten

theorem NipLaw.chainPoll : NipLaw (chainPoll s) := by
  have h1 : NipLaw { s with tr.pollElapsed := 0, tr.pollInForce := s.smp.pollPeriod } := h
  exact h1.chainLook.ite h

/-! ## Ends of transfers (10 R185, R186) -/

theorem NipLaw.countsEnded (why : CountsFor) : NipLaw (countsEnded why s) := by
  cases why with
  | retirement =>
    have h1 : NipLaw (removeHead s) := h.same (by simp)
    have h2 : NipLaw (finaliseIfDone ((s.bt.track.head?.map Band.tally).getD 0) (startRetirement (removeHead s))) := h1.same (by simp)
    exact h1.softDiscard.ite h2.drainEnd.tryBandStart
  | finalise id =>
    unfold Machine.countsEnded
    dsimp only
    cases s.tallyOf id with
    | none => exact h
    | some e =>
      dsimp only
      cases s.smp.soft with
      | off | stopping | retiring | writing | finalising | closing | settling => exact h.same (by simp)

theorem NipLaw.transferEnded (x : Transfer) : NipLaw (transferEnded x s) := by
  unfold Machine.transferEnded
  cases x.kind with
  | headerWrite w => exact h.headerWritten w
  | countsWrite why => exact h.countsEnded why
  | headerRead => exact h.headerRead _
  | bodyRead => exact h.bodyDone _
  | recordWrite | linkRead | progress | profileCopy | reportWrite => exact h.same (by simp)

theorem NipLaw.transferBurst (c : Client) (x : Transfer) (rest : List Transfer) (g : Grant) (ws : List Word) :
    NipLaw (transferBurst c x rest g ws s) := by
  have h1 : NipLaw (if x.isWrite then emitWrites (x.addr + 4 * x.moved) (x.next (x.moves g ws)) s
    else stageWords x (ws.take (x.moves g ws)) s) := NipLaw.ite (h.same (by simp)) (h.same (by simp))
  have h2 : ∀ q : Port, NipLaw { (if x.isWrite then emitWrites (x.addr + 4 * x.moved) (x.next (x.moves g ws)) s
    else stageWords x (ws.take (x.moves g ws)) s) with smp := q } := fun _ => h1
  exact ((h2 _).transferEnded _).ite (h2 _)

theorem NipLaw.rowBurst (g : Grant) (ws : List Word) : NipLaw (rowBurst g ws s) := by
  have h1 : ∀ l, NipLaw { s with re.slots := l } := fun _ => h
  exact h.ite ((h1 _).tryBandStart.ite (h1 _))

theorem NipLaw.burstEnd (ws : List Word) : NipLaw (burstEnd ws s) := by
  have h1 : NipLaw { s with smp.grant := none } := h
  unfold Machine.burstEnd
  cases s.smp.grant with
  | none => exact h
  | some g =>
    refine h1.ite ?_
    split
    case h_1 => exact h1.rowBurst g ws
    case h_2 | h_3 | h_4 => exact h1.transferBurst _ _ _ g ws
    case h_5 | h_6 | h_7 => exact h1

theorem NipLaw.transferDone (p : Transfer → Bool) (ws : List Word) : NipLaw (transferDone p ws s) := (h.burstEnd ws).ite h
theorem NipLaw.ticketStep (k : TicketKind) (ws : List Word) : NipLaw (ticketStep k ws s) := (h.burstEnd ws).ite h
theorem NipLaw.rowDone (ws : List Word) : NipLaw (rowDone ws s) := (h.burstEnd ws).ite h

theorem NipLaw.transferFailed (c : Client) (x : Transfer) (rest : List Transfer) : NipLaw (transferFailed c x rest s) := by
  have h1 : NipLaw { s with smp := s.smp.setQueue c rest } := h
  unfold Machine.transferFailed
  cases x.kind with
  | headerWrite w => exact h
  | countsWrite why => exact h1.countsEnded why
  | recordWrite | headerRead | linkRead | bodyRead | progress | profileCopy | reportWrite => exact h1.same (by simp)

theorem NipLaw.busError (n : Nat) : NipLaw (busError n s) := by
  have hcut : NipLaw { Machine.cutBurst n s with smp.grant := none } := h.same (by simp)
  have h1 := hcut.raise .port
  unfold Machine.busError
  cases s.smp.grant with
  | none => exact h
  | some g =>
    refine h1.ite ?_
    split
    case h_1 => exact h1.same (by simp)
    case h_2 | h_3 | h_4 => exact h1.transferFailed _ _ _
    case h_5 | h_6 | h_7 => exact h1

/-! ## The register window (10 R181, R182) -/

theorem NipLaw.lineCtl {f : State → State} (hf : NipLaw (f s)) : NipLaw (lineCtl f s) := by
  unfold Machine.lineCtl
  cases s.smp.soft with
  | off => exact hf
  | stopping | retiring | writing | finalising | closing | settling => exact h

theorem NipLaw.onBit (c : Bool) {f : State → State} (hf : NipLaw (f s)) : NipLaw (onBit c f s) := hf.ite h

theorem NipLaw.goChain : NipLaw (goChain s) := h.same (by simp)
theorem NipLaw.haltChain : NipLaw (haltChain s) := h.same (by simp)

theorem NipLaw.writeLineCtl (v : Word) : NipLaw (writeLineCtl v s) := by
  have h1 := h.onBit (bitAt v 2) h.clearTrip
  have h2 := h1.onBit (bitAt v 0 && !bitAt v 1) h1.startRequest
  have h3 := h2.onBit (bitAt v 1) h2.stopRequest
  have h4 := h3.onBit (bitAt v 3 && !bitAt v 4) h3.goChain
  exact h.softStart.ite (h4.onBit (bitAt v 4) h4.haltChain)

theorem NipLaw.writeRegister (offset bytes : Nat) (v : Word) : NipLaw (writeRegister offset bytes v s) :=
  h.ite ((h.lineCtl (h.writeLineCtl v)).ite (NipLaw.ite (h.same (by simp)) (NipLaw.ite (h.same (by simp))
    (NipLaw.ite (h.same (by simp)) (NipLaw.ite (h.same (by simp)) (NipLaw.ite (h.same (by simp)) h))))))

/-! ## Commands -/

/-- A command whose effect keeps the law; in power-up reset it has none (10 R189). -/
theorem nipLaw_command {f : State → State} (hf : ∀ u, NipLaw u → NipLaw (f u)) : NipLaw (command f s) := by
  have h1 : NipLaw { s with out := [] } := h
  exact NipLaw.ite ((hf _ h1).same (by simp)) h1

theorem nipLaw_commandAt {f : State → State} {l : Lines} (hf : ∀ u, NipLaw u → NipLaw (f u)) : NipLaw (commandAt l f s) :=
  nipLaw_command h fun u hu => by
    have h1 : NipLaw (sampleLines l u) := hu
    exact hf _ h1

theorem nipLaw_pinned {f : State → State} {p : Pins} (hf : ∀ u, NipLaw u → NipLaw (f u)) : NipLaw (pinned p f s) := by
  have h1 : NipLaw { s with pins := p, out := [] } := h
  exact (nipLaw_command h hf).ite h1

theorem nipLaw_tick : NipLaw (tick s) := h.same (by simp)

/-- Power-up reset commands the nip open (06 R136). -/
theorem nipLaw_powerRise : NipLaw (powerRise s) := by
  have h0 : NipLaw { s with out := [] } := h
  refine h0.ite ?_
  have h1 : NipLaw (powerUpState { s.pins with powerGood := true } s) := nipLaw_of_open rfl
  exact h1.same (by simp)

end

theorem nipLaw_next {t u : State} (h : NipLaw u)
    (he : (Host.Outcome.next u : Host.Outcome State Fault Refusal) = .next t) : NipLaw t := by
  cases he
  exact h

/-- Every command keeps the law: its arm of `exec` is one operation, as a command. -/
theorem nipLaw_exec {i : Instr} {s t : State} (h : NipLaw s) (he : exec i s = .next t) : NipLaw t := by
  cases i with
  | run => exact nipLaw_next (nipLaw_commandAt h fun _ hu => hu.lineCtl hu.startRequest) he
  | stop => exact nipLaw_next (nipLaw_command h fun _ hu => hu.lineCtl hu.stopRequest) he
  | clearTrip => exact nipLaw_next (nipLaw_commandAt h fun _ hu => hu.lineCtl hu.clearTrip) he
  | goChain => exact nipLaw_next (nipLaw_command h fun _ hu => hu.lineCtl hu.goChain) he
  | haltChain => exact nipLaw_next (nipLaw_command h fun _ hu => hu.lineCtl hu.haltChain) he
  | softReset => exact nipLaw_next (nipLaw_command h fun _ hu => hu.lineCtl hu.softStart) he
  | registerWrite => exact nipLaw_next (nipLaw_commandAt h fun _ hu => hu.writeRegister _ _ _) he
  | powerGoodLow n =>
    have hdown : NipLaw (powerDown n s) := nipLaw_of_open rfl
    exact nipLaw_next hdown he
  | powerGoodRise => exact nipLaw_next (nipLaw_powerRise h) he
  | mainsOkLoss => exact nipLaw_next (nipLaw_pinned h fun _ hu => hu.mainsLoss) he
  | mainsOkReturn => exact nipLaw_next (nipLaw_pinned h fun _ hu => hu.mainsReturn) he
  | configure | setHeat | setTension | setSpeed | loadProfile | endSegment | stopTicket | report =>
    exact nipLaw_next (nipLaw_command h fun _ hu => hu.ticketStep _ _) he
  | segment => exact nipLaw_next (nipLaw_commandAt h fun _ hu => hu.ticketStep _ _) he
  | encoderPulse => exact nipLaw_next (nipLaw_commandAt h fun _ hu => hu.same (by simp [encoderPulse_dc])) he
  | bandStart => exact nipLaw_next (nipLaw_commandAt h fun _ hu => hu.tryBandStart) he
  | rowArrived => exact nipLaw_next (nipLaw_commandAt h fun _ hu => hu.rowDone _) he
  | heatSample => exact nipLaw_next (nipLaw_command h fun _ hu => hu.heatSample _) he
  | tensionSample => exact nipLaw_next (nipLaw_commandAt h fun _ hu => hu.tensionSample _) he
  | webFault => exact nipLaw_next (nipLaw_command h fun _ hu => hu.webFault _) he
  | lineRunning => exact nipLaw_next (nipLaw_commandAt h fun _ hu => hu.runningTest) he
  | speedZero => exact nipLaw_next (nipLaw_commandAt h fun _ hu => hu.speedZeroTest) he
  | nipSwitchChange o c l =>
    refine nipLaw_next (nipLaw_pinned h fun u hu => ?_) he
    have h1 : NipLaw (sampleNip o c (sampleLines l u)) := hu
    exact h1.nipSwitches
  | nipTravelTimeout => exact nipLaw_next (nipLaw_command h fun _ hu => hu.nipTimeout) he
  | nipHoldExpiry => exact nipLaw_next (nipLaw_command h fun _ hu => hu.nipHoldTest) he
  | encoderLoss => exact nipLaw_next (nipLaw_command h fun _ hu => hu.encoderLoss _) he
  | chainPoll => exact nipLaw_next (nipLaw_commandAt h fun _ hu => hu.chainPoll) he
  | ticketReadDone | countsWriteDone => exact nipLaw_next (nipLaw_commandAt h fun _ hu => hu.transferDone _ _) he
  | reportWriteDone | headerWriteDone | profileCopyDone | recordWriteDone | progressWriteDone =>
    exact nipLaw_next (nipLaw_command h fun _ hu => hu.transferDone _ _) he
  | burstEnd => exact nipLaw_next (nipLaw_commandAt h fun _ hu => hu.burstEnd _) he
  | busError => exact nipLaw_next (nipLaw_commandAt h fun _ hu => hu.busError _) he
  | chainheadWrite | progbaseWrite | noticeWrite | noticemaskWrite | portcfgWrite | splicePulse | markRead | lockAcquired | lockLost
  | zoneRecovery | drumSettled | rampStep | stretchUpdate | statusFrame | replyFrame | badFrame | frameByteGap | instrumentSilence
  | triggerTimeout | measureSent | driftSet | driftClear | progressTimer | softResetComplete | linkByte =>
    exact nipLaw_next (nipLaw_command h fun _ hu => hu.same (by simp)) he

end Sys2Proof.Machine
end

section
namespace Sys2Proof.Proofs

open Sys2Proof.Machine

/-- Settles O58: a command is one operation, each of which keeps the law; a millisecond moves timers alone. -/
theorem nipLawKept : Obligations.NipLawKept := by
  intro s t h he
  unfold step at he
  cases hq : s.pending with
  | nil =>
    rw [hq] at he
    exact nipLaw_next (nipLaw_tick h) he
  | cons c rest =>
    rw [hq] at he
    exact nipLaw_exec (s := { s with pending := rest }) h he

end Sys2Proof.Proofs
end

section
/-! The moves of the line and the nip as statements speak of them (06 R111 to R124): what `setLine`, the nip's open command, a stop and a
nip FAULT make of a state, with the causes they raise. -/

namespace Sys2Proof.Machine

/-! ## An update that looks at no port, after the fact -/

section
variable {u t : State} {ns ms : List Notice}

theorem Becomes.map {F : State → State} (hF : ∀ (v : State) (p : Port), F { v with smp := p } = { F v with smp := p })
    (h : Becomes u ns t) : Becomes (F u) ns (F t) := by
  have hsmp : ∀ v : State, (F v).smp = v.smp := fun v => by
    have hv := congrArg State.smp (hF v v.smp)
    exact hv
  rw [becomes_iff] at h ⊢
  refine ⟨?_, by rw [hsmp, hsmp]; exact h.2⟩
  rw [hsmp, h.1, hF]

/-- The causes raised count once each, in any order (10 R183). -/
theorem Becomes.causes (h : Becomes u ns t)
    (hn : ∀ w : BitVec 10, ns.foldl (fun w n => w ||| (1#10 <<< n.bit)) w = ms.foldl (fun w n => w ||| (1#10 <<< n.bit)) w) :
    Becomes u ms t := by
  obtain ⟨⟨h1, h2, h3, h4, h5, h6, h7, h8, h9⟩, hport, hout⟩ := h
  exact ⟨⟨h1, h2, h3, h4, h5, h6, h7, h8.trans (hn _), h9⟩, hport, hout⟩

theorem Becomes.line_once (h : Becomes u [.line, .line] t) : Becomes u [.line] t :=
  h.causes fun w => (BitVec.or_assoc ..).trans (congrArg (w ||| ·) BitVec.or_self)

theorem Becomes.raise (h : Becomes u ns t) (n : Notice) : Becomes u (ns ++ [n]) (raise n t) := h.trans (raise_becomes n t)

end

/-! ## The line state (06 R111, R125, R129) -/

/-- The state as a line state is entered. -/
def State.entering (l : LineState) (s : State) : State :=
  { s with dc.line := l, dc.nipHold := 0, dc.webs := if l.counts then s.dc.webs else s.dc.webs.map (fun w => { w with run := 0 }) }

theorem Becomes.setLine {u t : State} {ns : List Notice} {l : LineState} (h : Becomes u ns t) (hl : u.dc.line ≠ l) :
    Becomes (u.entering l) (ns ++ [.line]) (setLine l t) :=
  (h.map (F := State.entering l) fun _ _ => rfl).trans (setLine_becomes (by rwa [h.dc]))

theorem setLine_stands {l : LineState} {s : State} (h : s.dc.line = l) : setLine l s = s := if_pos h

/-! ## The nip (06 R123, 05 R107) -/

/-- The bands ON_DRUM are exposed as the nip leaves CLOSED. -/
def Band.exposed (b : Band) : Band := if b.state = .onDrum then { b with flags := b.flags ||| 0x008#12 } else b

theorem Band.flagIf_stopExposed (b : Band) : b.flagIf (b.state == .onDrum) .stopExposed = b.exposed := by
  unfold Band.flagIf Band.exposed
  simp only [beq_iff_eq]
  rfl

/-- The state as another nip state is entered. -/
def State.nipEntering (n : NipState) (s : State) : State :=
  { s with dc.nip := n, bt.track := if s.dc.nip = .closed then s.bt.track.map Band.exposed else s.bt.track }

theorem setNip_entering {n : NipState} {s : State} (h : s.dc.nip ≠ n) : Becomes (s.nipEntering n) [] (setNip n s) := by
  unfold State.nipEntering
  split
  next hc =>
    rw [← funext Band.flagIf_stopExposed]
    exact setNip_leaves_closed h hc
  next hc => exact setNip_becomes h hc

/-- The state as the nip is commanded open. -/
def State.nipOpens (s : State) : State :=
  let move := s.dc.nip = .closed ∨ s.dc.nip = .closing
  { s with
    dc.nip := if move then .opening else s.dc.nip,
    dc.valve := if move then .opening else s.dc.valve,
    dc.nipTimer := if move then some s.cfg.nipTravel else s.dc.nipTimer,
    bt.track := if s.dc.nip = .closed then s.bt.track.map Band.exposed else s.bt.track }

theorem nipOpens_stands {s : State} (h : s.dc.nip ≠ .closed) (hc : s.dc.nip ≠ .closing) : s.nipOpens = s := by
  simp [State.nipOpens, h, hc]

theorem nipOpenCommand_becomes (s : State) : Becomes s.nipOpens [] (nipOpenCommand s) := by
  unfold nipOpenCommand
  cases hn : s.dc.nip with
  | closed | closing =>
    have h := (setNip_entering (n := .opening) (s := s) (by simp [hn])).setDc
      (fun d => { d with valve := .opening, nipTimer := some s.cfg.nipTravel })
    simpa [State.nipEntering, State.nipOpens, hn] using h
  | opened | opening | fault =>
    rw [nipOpens_stands (by simp [hn]) (by simp [hn])]
    exact Becomes.refl s

theorem Becomes.nipOpenCommand {u t : State} {ns : List Notice} (h : Becomes u ns t) :
    Becomes u.nipOpens ns (nipOpenCommand t) := by
  simpa using (h.map (F := State.nipOpens) fun _ _ => rfl).trans (nipOpenCommand_becomes t)

/-! ## The stops (06 R117, R119) -/

/-- A normal stop of a line that is not STOPPING. -/
theorem normalStop_becomes {s : State} (h : s.dc.line ≠ .stopping) :
    Becomes { s.nipOpens.entering .stopping with dc.stopKind := .normal } [.line] (normalStop s) :=
  ((Becomes.refl { s with dc.stopKind := .normal }).setLine h).nipOpenCommand

theorem fastStopped_eq (v : State) : v.fastStopped =
    { v.nipOpens with
      tr.pauseReq := true, dc.line := .stopping, dc.stopKind := .fast,
      dc.nipHold := if v.dc.line = .stopping then v.dc.nipHold else 0,
      dc.webs := if v.dc.line = .stopping then v.dc.webs else v.dc.webs.map (fun w => { w with run := 0 }) } := rfl

/-- A fast stop, from what firing's end leaves (02 R49). -/
theorem fastStop_of_abort {s v : State} {ns : List Notice} (h : s.stoppable) (hv : Becomes v ns (abortSegment s)) (hdc : v.dc = s.dc) :
    Becomes v.fastStopped (ns ++ s.stopNotice) (fastStop s) := by
  have hstop := (hv.nipOpenCommand.setDc (fun d => { d with stopKind := .fast })).setTr (fun r => { r with pauseReq := true })
  rw [fastStop, if_pos ((canFastStop_iff s).2 h)]
  by_cases hl : s.dc.line = .stopping
  · have hv' : v.dc.line = .stopping := by rw [hdc, hl]
    dsimp only
    rw [setLine_stands (by simpa using hl), State.stopNotice, if_pos hl, List.append_nil]
    have he : v.fastStopped = { v.nipOpens with tr.pauseReq := true, dc.stopKind := .fast } := by
      rw [fastStopped_eq, if_pos hv', if_pos hv', ← hv']
      rfl
    rw [he]
    exact hstop
  · have hv' : v.dc.line ≠ .stopping := by rwa [hdc]
    rw [State.stopNotice, if_neg hl]
    have he : v.fastStopped = { v.nipOpens.entering .stopping with tr.pauseReq := true, dc.stopKind := .fast } := by
      rw [fastStopped_eq, if_neg hv', if_neg hv']
      rfl
    rw [he]
    exact hstop.setLine hv'

theorem Becomes.fastStop_stands {u t : State} {ns : List Notice} (h : Becomes u ns t) (hs : ¬u.stoppable) :
    Becomes u ns (fastStop t) := by
  rw [Machine.fastStop_stands (by simpa [State.stoppable, h.dc] using hs)]
  exact h

/-! ## With no segment TAKEN -/

section
variable {s : State} (h : s.rasterIdle)

include h

theorem abortSegment_idle : abortSegment s = s := by
  obtain ⟨-, hseg, hband, -⟩ := h
  unfold abortSegment printedReport
  rw [hband, hseg]

theorem drainEntry_idle : drainEntry s = s := by
  obtain ⟨hr, -⟩ := h
  rw [drainEntry, hr]

theorem clearDrain_idle : clearDrain s = s := by
  obtain ⟨-, -, -, he⟩ := h
  simp [clearDrain, he]

theorem enterRunning_idle (hl : s.dc.line ≠ .running) : Becomes (s.entering .running) [.line] (enterRunning s) := by
  have hidle : (setLine .running s).rasterIdle := by simpa [State.rasterIdle] using h
  rw [enterRunning, clearDrain_idle hidle, tryBandStart_idle hidle.2.1]
  exact setLine_becomes hl

end

theorem Becomes.fastStop_idle {u t : State} {ns : List Notice} (h : Becomes u ns t) (hi : u.rasterIdle) (hs : u.stoppable) :
    Becomes u.fastStopped (ns ++ u.stopNotice) (fastStop t) := by
  have hidle : t.rasterIdle := by simpa [State.rasterIdle, h.re] using hi
  have hstop : t.stoppable := by simpa [State.stoppable, h.dc] using hs
  have hnotice : u.stopNotice = t.stopNotice := by rw [State.stopNotice, State.stopNotice, h.dc]
  rw [hnotice]
  exact (h.map (F := State.fastStopped) fun _ _ => rfl).trans
    (fastStop_of_abort hstop (by rw [abortSegment_idle hidle]; exact Becomes.refl t) rfl)

/-! ## LINECTL and the tickets -/

theorem lineCtl_off {f : State → State} {s : State} (h : s.smp.soft = .off) : lineCtl f s = f s := by rw [lineCtl, h]

theorem settleStop_none {s : State} (h : s.tr.ticket = none) : settleStop s = s := by rw [settleStop, h]

end Sys2Proof.Machine
end

section
/-! The nip switches and the nip's FAULT (06 R123, R124), the ends of a stop at speed 0 (06 R112 to R121), and a start request (06 R114,
R115), each as what the state becomes. -/

namespace Sys2Proof.Machine

/-! ## The nip (06 R123, R124) -/

/-- The state with the nip in FAULT. -/
def State.nipFaulted (s : State) : State := { s.nipEntering .fault with dc.nipTimer := none, dc.valve := .opening }

section
variable {s : State} (h : s.dc.nip ≠ .fault)

include h

theorem setNip_fault_becomes : Becomes s.nipFaulted [] { setNip .fault s with dc.nipTimer := none, dc.valve := .opening } :=
  (setNip_entering h).setDc (fun d => { d with nipTimer := none, valve := .opening })

theorem nipFault_stands (hs : ¬s.stoppable) : Becomes s.nipFaulted [] (nipFault s) := (setNip_fault_becomes h).fastStop_stands hs

theorem nipFault_idle (hi : s.rasterIdle) (hs : s.stoppable) : Becomes s.nipFaulted.fastStopped s.stopNotice (nipFault s) :=
  (setNip_fault_becomes h).fastStop_idle hi hs

end

/-- The switch levels that change nothing at the nip. -/
def State.nipAgrees (s : State) (o c : Bool) : Prop :=
  s.dc.nip = .fault ∨ (s.dc.nip = .opened ∧ o = true ∧ c = false) ∨ (s.dc.nip = .closed ∧ o = false ∧ c = true) ∨
  (s.dc.nip = .closing ∧ c = false) ∨ (s.dc.nip = .opening ∧ o = false)

theorem nipSwitches_agree {s : State} (h : s.nipAgrees s.pins.nipOpenSw s.pins.nipClosedSw) : nipSwitches s = s := by
  unfold nipSwitches
  rcases h with hn | ⟨hn, ho, hc⟩ | ⟨hn, ho, hc⟩ | ⟨hn, hc⟩ | ⟨hn, ho⟩ <;> simp [*]

theorem nipSwitches_fault {s : State} (h : s.dc.nip ≠ .fault)
    (hf : (s.pins.nipOpenSw = true ∧ s.pins.nipClosedSw = true) ∨ (s.dc.nip = .opened ∧ s.pins.nipOpenSw = false) ∨
      (s.dc.nip = .closed ∧ s.pins.nipClosedSw = false)) : nipSwitches s = nipFault s := by
  unfold nipSwitches
  rcases hf with ⟨ho, hc⟩ | ⟨hn, ho⟩ | ⟨hn, hc⟩ <;> simp [*]

theorem nipSwitches_opened {s : State} (hn : s.dc.nip = .opening) (ho : s.pins.nipOpenSw = true) (hc : s.pins.nipClosedSw = false) :
    Becomes { s with dc.nip := .opened, dc.nipTimer := none } [] (nipSwitches s) := by
  have hs : nipSwitches s = { setNip .opened s with dc.nipTimer := none } := by simp [nipSwitches, hn, ho, hc]
  rw [hs]
  exact (setNip_becomes (by simp [hn]) (by simp [hn])).setDc (fun d => { d with nipTimer := none })

/-- The nip comes to CLOSED; the running test follows. -/
theorem nipSwitches_closed {s : State} (hn : s.dc.nip = .closing) (ho : s.pins.nipOpenSw = false) (hc : s.pins.nipClosedSw = true) :
    ∃ v, Becomes { s with dc.nip := .closed, dc.nipTimer := none } [] v ∧ nipSwitches s = runningTest v :=
  ⟨{ setNip .closed s with dc.nipTimer := none },
   (setNip_becomes (by simp [hn]) (by simp [hn])).setDc (fun d => { d with nipTimer := none }), by simp [nipSwitches, hn, ho, hc]⟩

/-! ## RUNNING (06 R115) -/

/-- The running test passes. -/
def State.runs (s : State) : Prop := s.dc.line = .starting ∧ s.dc.nip = .closed ∧ s.dc.ref = s.dc.setpoint * 1000

theorem Becomes.runningTest_stands {u t : State} {ns : List Notice} (h : Becomes u ns t) (hr : ¬u.runs) :
    Becomes u ns (runningTest t) := by
  have ht : runningTest t = t := if_neg (by rw [h.dc]; exact hr)
  rw [ht]
  exact h

theorem Becomes.runningTest_idle {u t : State} {ns : List Notice} (h : Becomes u ns t) (hi : u.rasterIdle) (hr : u.runs) :
    Becomes (u.entering .running) (ns ++ [.line]) (runningTest t) := by
  have ht : runningTest t = enterRunning t := if_pos (by rw [h.dc]; exact hr)
  have hidle : t.rasterIdle := by simpa [State.rasterIdle, h.re] using hi
  obtain ⟨hline, -, -⟩ := hr
  rw [ht]
  exact (h.map (F := State.entering .running) fun _ _ => rfl).trans (enterRunning_idle hidle (by simp [h.dc, hline]))

/-! ## Speed 0 (06 R112, R117, R119, R121) -/

theorem enterTripped_becomes {s : State} (ht : s.tr.ticket = none) (hl : s.dc.line ≠ .tripped) :
    Becomes (s.entering .tripped) [.line] (enterTripped s) := by
  rw [enterTripped, settleStop_none (by simpa using ht)]
  exact setLine_becomes hl

theorem enterStopped_becomes {s : State} (ht : s.tr.ticket = none) (hg : s.re.seg = none) (hl : s.dc.line ≠ .stopped) :
    Becomes (s.entering .stopped) [.line] (enterStopped s) := by
  rw [enterStopped, settleStop_none (by simpa using ht), autoStart_none (by simp [State.autoStarts, hg])]
  exact setLine_becomes hl

/-- The reference at 0 ends the stop, and the line goes to `n`. -/
def State.stopsAt (n : LineState) (s : State) : Prop :=
  (s.dc.line = .stopping ∧ s.dc.stopKind = .normal ∧ s.dc.nip = .opened ∧ n = .stopped) ∨
  (s.dc.line = .stopping ∧ s.dc.stopKind = .fast ∧ n = .tripped) ∨
  (s.dc.line = .powerStop ∧ s.pins.mainsOk = true ∧ n = .tripped) ∨
  (s.dc.line = .powerStop ∧ s.pins.mainsOk = false ∧ n = .powerHeld)

theorem atSpeedZero_iff (s : State) : s.atSpeedZero = true ↔ s.dc.ref = 0 ∧ ∃ n, s.stopsAt n := by
  unfold State.atSpeedZero State.stopsAt
  cases s.dc.line with
  | stopping => cases s.dc.stopKind <;> simp
  | powerStop => cases s.pins.mainsOk <;> simp
  | stopped | starting | running | draining | tripped | powerHeld => simp

theorem speedZeroTest_stands {s : State} (h : ¬(s.dc.ref = 0 ∧ ∃ n, s.stopsAt n)) : speedZeroTest s = s :=
  if_neg (mt (atSpeedZero_iff s).1 h)

/-- A stop ends with every loop off, no segment TAKEN and no ticket at TR. -/
theorem speedZeroTest_ends {n : LineState} {s : State} (h : s.stopsAt n) (hr : s.dc.ref = 0) (hsoft : s.smp.soft ≠ .stopping)
    (ht : s.tr.ticket = none) (hg : s.re.seg = none) :
    Becomes { s with dc.line := n, dc.nipHold := 0,
                     dc.webs := s.dc.webs.map (fun w => { w with integral := 0, demand := 0, run := 0 }) } [.line]
      (speedZeroTest s) := by
  rw [speedZeroTest, if_pos ((atSpeedZero_iff s).2 ⟨hr, n, h⟩), speedZero, if_neg (show (zeroLoops s).smp.soft ≠ .stopping from hsoft)]
  rcases h with ⟨hl, hk, -, rfl⟩ | ⟨hl, hk, rfl⟩ | ⟨hl, hm, rfl⟩ | ⟨hl, hm, rfl⟩
  · rw [show (zeroLoops s).dc.line = .stopping from hl, show (zeroLoops s).dc.stopKind = .normal from hk]
    exact enterStopped_becomes (s := zeroLoops s) ht hg (by simp [hl])
  · rw [show (zeroLoops s).dc.line = .stopping from hl, show (zeroLoops s).dc.stopKind = .fast from hk]
    exact enterTripped_becomes (s := zeroLoops s) ht (by simp [hl])
  · rw [show (zeroLoops s).dc.line = .powerStop from hl, show (zeroLoops s).pins.mainsOk = true from hm]
    exact enterTripped_becomes (s := zeroLoops s) ht (by simp [hl])
  · rw [show (zeroLoops s).dc.line = .powerStop from hl, show (zeroLoops s).pins.mainsOk = false from hm]
    exact setLine_becomes (s := zeroLoops s) (by simp [hl])

/-! ## A start request (06 R114, R115) -/

theorem acceptStart_becomes {s : State} (hl : s.dc.line ≠ .starting) :
    Becomes { s with dc.line := .starting, dc.startCause := .none, dc.nipHold := 0,
                     dc.webs := s.dc.webs.map (fun w => { w with integral := 0, run := 0 }) } [.line] (acceptStart s) :=
  setLine_becomes (s := { s with
    dc.startCause := .none, dc.webs := s.dc.webs.map (fun w => { w with integral := 0, run := 0 }) }) hl

theorem refuseStart_becomes (c : StartCause) (s : State) : Becomes { s with dc.startCause := c } [.line] (refuseStart c s) :=
  raise_becomes _ _

/-- The permission test of a start passes (06 R114). -/
def State.permitted (s : State) : Prop :=
  s.hc.drum = .atTemp ∧ s.dc.nip = .opened ∧ (∀ w ∈ s.dc.webs.toList, w.inRange = true) ∧ s.pins.broken = ⟨false, false, false⟩

theorem startRequest_starts {s : State} (hl : s.dc.line = .stopped) (h : s.permitted) : startRequest s = acceptStart s := by
  obtain ⟨hd, hn, hw, hb⟩ := h
  rw [startRequest, hl, startTest_eq, if_neg (not_not.2 hd), if_neg (not_not.2 hn), if_pos ⟨hw, hb⟩]

/-- A start is refused with cause `c` (06 R114). -/
def State.refuses (c : StartCause) (s : State) : Prop :=
  (s.dc.line = .stopped ∧ s.hc.drum ≠ .atTemp ∧ c = .drumNotReady) ∨
  (s.dc.line = .stopped ∧ s.hc.drum = .atTemp ∧ s.dc.nip ≠ .opened ∧ c = .nipNotOpen) ∨
  (s.dc.line = .stopped ∧ s.hc.drum = .atTemp ∧ s.dc.nip = .opened ∧ c = .sensor ∧
    ((∃ w ∈ s.dc.webs.toList, w.inRange = false) ∨ s.pins.broken ≠ ⟨false, false, false⟩)) ∨
  (s.dc.line = .tripped ∧ c = .tripped) ∨
  ((s.dc.line = .powerStop ∨ s.dc.line = .powerHeld) ∧ c = .power)

theorem startRequest_refused {c : StartCause} {s : State} (h : s.refuses c) : startRequest s = refuseStart c s := by
  rcases h with ⟨hl, hd, rfl⟩ | ⟨hl, hd, hn, rfl⟩ | ⟨hl, hd, hn, rfl, hw⟩ | ⟨hl, rfl⟩ | ⟨hl, rfl⟩
  · rw [startRequest, hl, startTest_eq, if_pos hd]
  · rw [startRequest, hl, startTest_eq, if_neg (not_not.2 hd), if_pos hn]
  · have hno : ¬((∀ w ∈ s.dc.webs.toList, w.inRange = true) ∧ s.pins.broken = ⟨false, false, false⟩) := by
      rintro ⟨hall, hbroken⟩
      rcases hw with ⟨w, hmem, hw⟩ | hb
      · exact absurd (hall w hmem) (by simp [hw])
      · exact hb hbroken
    rw [startRequest, hl, startTest_eq, if_neg (not_not.2 hd), if_neg (not_not.2 hn), if_neg hno]
  · rw [startRequest, hl]
  · rcases hl with hl | hl <;> rw [startRequest, hl]

end Sys2Proof.Machine
end

section
namespace Sys2Proof.Proofs

open Sys2Proof.Machine

/-- Settles O38: the two guarded tests, by whether their guard holds. -/
theorem lineRunningAndSpeedZero : Obligations.LineRunningAndSpeedZero := by
  intro l s ⟨hp, hsoft⟩ hidle ht
  have hx := Becomes.refl { sampleLines l s with out := [] }
  refine ⟨fun h1 h2 h3 => ⟨_, rfl, commandAt_becomes hp (hx.runningTest_idle hidle ⟨h1, h2, h3⟩)⟩,
    fun h => ⟨_, rfl, commandAt_becomes hp (hx.runningTest_stands ?_)⟩,
    fun n hr h => ⟨_, rfl, commandAt_becomes hp (speedZeroTest_ends (s := { sampleLines l s with out := [] }) h hr ?_ ht hidle.2.1)⟩,
    fun h => ⟨_, rfl, commandAt_becomes hp ?_⟩⟩
  · rintro ⟨h1, h2, h3⟩
    exact h.elim (· h1) (·.elim (· h2) (· h3))
  · simp [hsoft]
  · rw [speedZeroTest_stands]
    · exact hx
    · rintro ⟨hr, n, hn⟩
      rcases h with h | h | h | h | h | h | h | ⟨h, h', h''⟩
      · exact h hr
      all_goals simp_all [State.stopsAt]

/-- Settles O40: the switch levels either agree with the nip state, confirm the move under way, or put the nip in FAULT. -/
theorem nipSwitches : Obligations.NipSwitches := by
  intro o c l s hp u
  have hcmd : ∀ {v : State} {ns : List Notice}, Becomes v ns (Machine.nipSwitches u) →
      ∃ t, exec (.nipSwitchChange o c l) s = .next t ∧ Becomes v ns t := fun {v ns} h =>
    ⟨_, congrArg Host.Outcome.next (if_pos hp), command_becomes hp h⟩
  refine ⟨fun h => hcmd ?_, fun hn ho hc hr => hcmd ?_, fun hn ho hc hl hr hidle => hcmd ?_, fun hn ho hc => hcmd ?_,
    fun hn hf => ⟨fun hs => hcmd ?_, fun hs hidle => hcmd ?_⟩⟩
  · rw [nipSwitches_agree (s := u) h]
    exact Becomes.refl u
  · obtain ⟨v, hv, he⟩ := nipSwitches_closed (s := u) hn ho hc
    rw [he]
    exact hv.runningTest_stands fun ⟨h1, _, h3⟩ => hr.elim (· h1) (· h3)
  · obtain ⟨v, hv, he⟩ := nipSwitches_closed (s := u) hn ho hc
    rw [he]
    exact hv.runningTest_idle hidle ⟨hl, rfl, hr⟩
  · exact nipSwitches_opened (s := u) hn ho hc
  · rw [nipSwitches_fault (s := u) hn hf]
    exact nipFault_stands (s := u) hn hs
  · rw [nipSwitches_fault (s := u) hn hf]
    exact nipFault_idle (s := u) hn hidle hs

/-- Settles O6: a start request by the line state, and in STOPPED by the permission test. -/
theorem runCommand : Obligations.RunCommand := by
  intro l s ⟨hp, hsoft⟩ u
  let x : State := { u with out := [] }
  have hcmd : ∀ {v : State} {ns : List Notice}, Becomes v ns (startRequest x) → ∃ t, exec (.run l) s = .next t ∧ Becomes v ns t :=
    fun {v ns} h => ⟨_, rfl, commandAt_becomes hp (by rw [lineCtl_off (by exact hsoft)]; exact h)⟩
  refine ⟨fun hl hd hn hw hb => hcmd ?_, fun c h => hcmd ?_, fun hl hidle => hcmd ?_, fun h => hcmd ?_⟩
  · rw [startRequest_starts (s := x) hl ⟨hd, hn, hw, hb⟩]
    exact acceptStart_becomes (s := x) (by simp [x, u, hl])
  · rw [startRequest_refused (s := x) h]
    exact refuseStart_becomes c x
  · rw [startRequest, show x.dc.line = .draining from hl]
    exact enterRunning_idle (s := x) hidle (by simp [x, u, hl])
  · rcases h with hl | hl | hl <;> rw [startRequest, show x.dc.line = _ from hl] <;> exact Becomes.refl x

end Sys2Proof.Proofs
end

section
/-! The PRINTED report of a TAKEN segment that has bands in the track, whatever its raster state (02 R48 to R50), and a fast stop that
makes it. -/

namespace Sys2Proof.Machine

/-- TR with other values of the poll timer, which clearing a segment in PRINTING starts (09 R174). -/
def Reader.polled (p : Bool) (n m : Nat) (r : Reader) : Reader := { r with pollRunning := p, pollElapsed := n, pollInForce := m }

theorem Reader.polled_self (r : Reader) : r.polled r.pollRunning r.pollElapsed r.pollInForce = r := rfl

/-- The end of a segment is RE's, and TR's poll timer's. -/
theorem clearSegment_polled (s : State) :
    ∃ p n m, Becomes { s with re := s.re.cleared, tr := s.tr.polled p n m } [] (clearSegment s) := by
  by_cases h : s.re.raster = .printing
  · obtain ⟨k, hclear⟩ := clearSegment_printing h
    obtain ⟨n, m, hpoll⟩ := polling_eq k s.tr
    rw [hpoll] at hclear
    exact ⟨true, n, m, hclear⟩
  · exact ⟨_, _, _, by rw [s.tr.polled_self]; exact clearSegment_becomes h⟩

section
variable {g : Segment} {e : Tally} {s : State} (h : SegmentHeld g e s)

include h

theorem printedReport_held (cause : EndCause) :
    ∃ p n m, Becomes (s.reported g cause (s.tr.polled p n m)) [] (printedReport cause s) := by
  obtain ⟨hg, he, hin, hr, ht, hh⟩ := h
  obtain ⟨p, n, m, hclear⟩ := clearSegment_polled s
  let x := modTally g.tally (Tally.reported cause) (clearSegment s)
  have hx : Becomes (modTally g.tally (Tally.reported cause) { s with re := s.re.cleared, tr := s.tr.polled p n m }) [] x :=
    hclear.modTally _ _
  have hleave := (hx.readsCut.setTr (fun r => { r with reader := .reading, awaitSeg := some g.addr })).trans
    (leaveHolding_becomes (addr := g.addr) (s := x) (by rw [hx.tr]; exact hr) (by rw [hx.tr]; exact ht) (by rw [hx.tr]; exact hh))
  have htally : (leaveHolding g.addr x).tallyOf g.tally = some (e.reported cause) := by
    rw [hleave.tallyOf]
    exact tallyOf_modTally (f := Tally.reported cause) (fun _ => rfl) he
  have hreport : printedReport cause s = queueSegmentHeader g.addr false .printed cause.status (leaveHolding g.addr x) := by
    unfold printedReport
    rw [hg]
    dsimp only
    rw [show leaveHolding g.addr (modTally g.tally (fun t => { t with printed := true, cause := cause }) (clearSegment s)) =
      leaveHolding g.addr x from rfl, htally]
    exact if_neg (Nat.ne_of_gt hin)
  have hq := hleave.queueSegmentHeader g.addr false .printed cause.status
  rw [queueSegmentHeader_printed rfl, ← hreport] at hq
  exact ⟨p, n, m, hq⟩

/-- The report as the statements put it, whatever has become of the track, of DC and of the pause request. -/
theorem SegmentHeld.report (cause : EndCause) (p : Bool) (n m : Nat) (track : List Band) (pause : Bool) (d : Drive) (o : List Output) :
    PrintedReport g cause track s
      { s.reported g cause { s.tr.polled p n m with pauseReq := pause } with bt.track := track, dc := d, out := o } := by
  obtain ⟨-, -, -, -, ht, hh⟩ := h
  refine ⟨rfl, rfl, rfl, ht, rfl, hh, rfl, rfl, ?_, rfl, ?_⟩
  · simp [State.ticketReads, State.reported, Port.readsCut]
  · cases cause <;> rfl

end

theorem PrintedReport.becomes {g : Segment} {cause : EndCause} {track : List Band} {s v t : State} {ns : List Notice}
    (h : PrintedReport g cause track s v) (k : Becomes v ns t) : PrintedReport g cause track s t := by
  simpa only [PrintedReport, k.re, k.bt, k.tr, k.ticketReads, k.copies, k.writes] using h

/-! ## Firing stops at once (02 R49) -/

theorem abortSegment_eq (s : State) : abortSegment s = printedReport .abortedTrip { s with bt.track := s.cutTrack } := by
  unfold abortSegment State.cutTrack
  cases s.re.band with
  | none => rfl
  | some c =>
    refine congrArg (fun l => printedReport .abortedTrip { s with bt.track := l }) ?_
    refine (List.map_map ..).trans (List.map_congr_left fun b _ => ?_)
    by_cases hb : b.number = c.number
    · by_cases hp : b.state = .printing <;> simp [hb, hp, Band.flag, Flag.place]
    · simp [hb]

section
variable {g : Segment} {e : Tally} {s : State} (h : SegmentHeld g e s)

include h

theorem abortSegment_held : ∃ p n m,
    Becomes ({ s with bt.track := s.cutTrack }.reported g .abortedTrip (s.tr.polled p n m)) [] (abortSegment s) := by
  rw [abortSegment_eq]
  exact printedReport_held (s := { s with bt.track := s.cutTrack }) h .abortedTrip

/-- A fast stop with the segment TAKEN: its end, then what the stop makes of the line and the nip (06 R119). -/
theorem fastStop_held (hs : s.stoppable) : ∃ v, Becomes v s.stopNotice (fastStop s) ∧ Frame [.tr, .re, .bt, .dc] [] s v ∧
    PrintedReport g .abortedTrip { s with bt.track := s.cutTrack }.fastStopped.bt.track s v ∧ v.tr.pauseReq = true ∧
    v.dc = s.fastStopped.dc ∧ v.out = s.out := by
  obtain ⟨p, n, m, habort⟩ := abortSegment_held h
  exact ⟨_, fastStop_of_abort hs habort rfl,
    frame_of_blocks (htr := .inl (by decide)) (hre := .inl (by decide)) (hbt := .inl (by decide)) (hdc := .inl (by decide)),
    h.report .abortedTrip p n m _ true _ s.out, rfl, rfl, rfl⟩

end

end Sys2Proof.Machine
end

section
/-! The guarded tests of a web's deviation run and an encoder's silence (06 R129, R135). -/

namespace Sys2Proof.Machine

theorem LineState.counts_iff (l : LineState) : l.counts = true ↔ l = .running ∨ l = .draining := by cases l <;> decide

theorem runFaults_iff (d : Drive) (w : WebLoop) :
    d.runFaults w = true ↔ (d.line = .running ∨ d.line = .draining) ∧ d.faultTime ≤ w.run * 5 := by
  rw [← LineState.counts_iff, Drive.runFaults, Bool.and_eq_true, decide_eq_true_eq]

section
variable {s : State}

theorem webFault_stops {w : WebId} (hl : s.dc.line = .running ∨ s.dc.line = .draining)
    (hf : s.dc.faultTime ≤ (webOf s.dc.webs w).run * 5) : webFault w s = fastStop (raise .tension s) :=
  if_pos ((runFaults_iff _ _).2 ⟨hl, hf⟩)

theorem webFault_stands {w : WebId}
    (h : ¬(s.dc.line = .running ∨ s.dc.line = .draining) ∨ (webOf s.dc.webs w).run * 5 < s.dc.faultTime) : webFault w s = s :=
  if_neg (mt (runFaults_iff _ _).1 fun ⟨hl, hf⟩ => h.elim (· hl) (Nat.not_lt.2 hf))

theorem encoderLoss_stops {e : EncoderId} (hr : 50000 ≤ s.dc.ref) (hf : s.cfg.encoderTimeout ≤ encOf s.dc.silence e) :
    encoderLoss e s = fastStop s := if_pos ⟨hr, hf⟩

theorem encoderLoss_stands {e : EncoderId}
    (h : s.dc.ref < 50000 ∨ encOf s.dc.silence e < s.cfg.encoderTimeout ∨ ¬s.stoppable) : encoderLoss e s = s := by
  rcases h with h | h | h
  · exact if_neg fun ⟨hr, _⟩ => Nat.not_le.2 h hr
  · exact if_neg fun ⟨_, hf⟩ => Nat.not_le.2 h hf
  · rw [encoderLoss, fastStop_stands h, ite_self]

theorem stoppable_of_counts (h : s.dc.line = .running ∨ s.dc.line = .draining) : s.stoppable := .inr (h.elim .inl (.inr ∘ .inl))

/-- A nip that was not CLOSED exposes no band as it goes to FAULT. -/
theorem nipFaulted_of_ne_closed (h : s.dc.nip ≠ .closed) :
    s.nipFaulted = { s with dc.nip := .fault, dc.nipTimer := none, dc.valve := .opening } := by
  simp [State.nipFaulted, State.nipEntering, h]

end

end Sys2Proof.Machine
end

section
namespace Sys2Proof.Proofs

open Sys2Proof.Machine

/-- Settles O37: each cause is a guarded test, and its fast stop what the line, the nip and a TAKEN segment make of it. -/
theorem fastStopCauses : Obligations.FastStopCauses := by
  intro s hp
  let x : State := { s with out := [] }
  have hx := Becomes.refl x
  refine ⟨fun w g e hl hf hheld => ⟨_, rfl, ?_⟩, fun hidle => ⟨fun w hl hf => ⟨_, rfl, command_becomes hp ?_⟩,
    fun w h => ⟨_, rfl, command_becomes hp ?_⟩, fun e hr hf hs => ⟨_, rfl, command_becomes hp ?_⟩,
    fun e h => ⟨_, rfl, command_becomes hp ?_⟩, fun ht hn => ?_, fun ht => ⟨_, rfl, command_becomes hp ?_⟩⟩⟩
  · have hraise := raise_becomes .tension x
    obtain ⟨v, hv, hframe, hreport, hpause, hdc, hout⟩ := fastStop_held (s := raise .tension x) hheld (stoppable_of_counts hl)
    have hline : (raise .tension x).stopNotice = [.line] := if_neg (by rcases hl with hl | hl <;> simp [x, hl])
    have ht := command_becomes hp (f := webFault w) (by rw [webFault_stops (s := x) hl hf]; exact hv)
    rw [hline] at ht
    exact ⟨(hraise.frame.mono (List.nil_subset _)).trans (ht.after hframe), ht.out.trans hout, hreport.becomes ht,
      (congrArg Reader.pauseReq ht.tr).trans hpause, ht.dc.trans hdc⟩
  · rw [webFault_stops (s := x) hl hf]
    exact (raise_becomes .tension x).fastStop_idle hidle (stoppable_of_counts hl)
  · rw [webFault_stands (s := x) h]
    exact hx
  · rw [encoderLoss_stops (s := x) hr hf]
    exact hx.fastStop_idle hidle hs
  · rw [encoderLoss_stands (s := x) h]
    exact hx
  · have hnip : x.dc.nip ≠ .fault ∧ x.dc.nip ≠ .closed := by rcases hn with hn | hn <;> simp [x, hn]
    obtain ⟨hfault, hclosed⟩ := hnip
    have he : nipTimeout x = nipFault x := if_pos ⟨ht, hn⟩
    dsimp only
    rw [← nipFaulted_of_ne_closed (s := x) hclosed]
    exact ⟨fun hs => ⟨_, rfl, command_becomes hp (by rw [he]; exact nipFault_idle (s := x) hfault hidle hs)⟩,
      fun hs => ⟨_, rfl, command_becomes hp (by rw [he]; exact nipFault_stands (s := x) hfault hs)⟩⟩
  · rw [nipTimeout, if_neg fun ⟨h, _⟩ => ht h]
    exact hx

end Sys2Proof.Proofs
end

section
/-! A stop request by the line state and the segment (06 R116, R117, R125, 02 R48). -/

namespace Sys2Proof.Machine

theorem Becomes.normalStop {u t : State} {ns : List Notice} (h : Becomes u ns t) (hl : u.dc.line ≠ .stopping) :
    Becomes { u.nipOpens.entering .stopping with dc.stopKind := .normal } (ns ++ [.line]) (normalStop t) :=
  (h.map (F := fun v => { v.nipOpens.entering .stopping with dc.stopKind := .normal }) fun _ _ => rfl).trans
    (normalStop_becomes (by rwa [h.dc]))

section
variable {s : State}

theorem stopRequest_running (hl : s.dc.line = .running) : stopRequest s = drainEnd (drainEntry (setLine .draining s)) := by
  rw [stopRequest, hl]

theorem stopRequest_starting (hl : s.dc.line = .starting) : stopRequest s = normalStop s := by rw [stopRequest, hl]

theorem stopRequest_stands (hr : s.dc.line ≠ .running) (hs : s.dc.line ≠ .starting) : stopRequest s = s := by
  unfold stopRequest
  cases hl : s.dc.line with
  | running => exact absurd hl hr
  | starting => exact absurd hl hs
  | draining | stopping | stopped | tripped | powerStop | powerHeld => rfl

theorem setLine_draining (hl : s.dc.line = .running) :
    Becomes { s with dc.line := .draining, dc.nipHold := 0 } [.line] (setLine .draining s) := setLine_becomes (by simp [hl])

theorem drainEntry_ends (hr : s.re.raster = .priming ∨ s.re.raster = .between) : drainEntry s = printedReport .short s := by
  rcases hr with hr | hr <;> rw [drainEntry, hr]

theorem drainEntry_printing (hr : s.re.raster = .printing) :
    drainEntry s = { s with re.ending := if s.re.ending = .none then .drain else s.re.ending } := by
  rw [drainEntry, hr]
  dsimp only
  split
  · rfl
  · rfl

end

/-- A track with a band in it keeps DRAINING. -/
theorem Becomes.drainEnd_stands {u t : State} {ns : List Notice} (h : Becomes u ns t) (htrack : u.bt.track ≠ []) :
    Becomes u ns (drainEnd t) := by
  have ht : drainEnd t = t := if_neg fun ⟨_, hempty⟩ => htrack (by rwa [h.bt] at hempty)
  rw [ht]
  exact h

section
variable {s : State} (hl : s.dc.line = .running)

include hl

theorem stopRequest_drains (hidle : s.rasterIdle) (htrack : s.bt.track ≠ []) :
    Becomes { s with dc.line := .draining, dc.nipHold := 0 } [.line] (stopRequest s) := by
  rw [stopRequest_running hl, drainEntry_idle (by simpa [State.rasterIdle] using hidle)]
  exact (setLine_draining hl).drainEnd_stands htrack

theorem stopRequest_empty (hidle : s.rasterIdle) (htrack : s.bt.track = []) (hn : s.dc.nip = .closed) :
    Becomes { s with dc.line := .stopping, dc.stopKind := .normal, dc.nip := .opening, dc.valve := .opening,
                     dc.nipTimer := some s.cfg.nipTravel, dc.nipHold := 0,
                     dc.webs := s.dc.webs.map (fun w => { w with run := 0 }) } [.line] (stopRequest s) := by
  have hdrain := setLine_draining hl
  have hend : drainEnd (setLine .draining s) = normalStop (setLine .draining s) :=
    if_pos ⟨setLine_line .., by rw [hdrain.bt]; exact htrack⟩
  have hstop := (hdrain.normalStop (by simp)).line_once
  rw [stopRequest_running hl, drainEntry_idle (by simpa [State.rasterIdle] using hidle), hend]
  have hmap : s.bt.track.map Band.exposed = s.bt.track := by
    rw [htrack]
    rfl
  simpa [State.nipOpens, State.entering, LineState.counts, hn, hmap] using hstop

theorem stopRequest_printing (htrack : s.bt.track ≠ []) (hr : s.re.raster = .printing) :
    Becomes { s with dc.line := .draining, dc.nipHold := 0, re.ending := if s.re.ending = .none then .drain else s.re.ending }
      [.line] (stopRequest s) := by
  have hdrain := setLine_draining hl
  rw [stopRequest_running hl, drainEntry_printing (by simpa using hr)]
  exact (hdrain.setRe (fun r => { r with ending := if r.ending = .none then .drain else r.ending })).drainEnd_stands htrack

/-- A segment between two bands, or before its first, ends at the entry to DRAINING (02 R48). -/
theorem stopRequest_held {g : Segment} {e : Tally} (htrack : s.bt.track ≠ []) (hr : s.re.raster = .priming ∨ s.re.raster = .between)
    (h : SegmentHeld g e s) : ∃ p n m,
    Becomes ({ s with dc.line := .draining, dc.nipHold := 0 }.reported g .short (s.tr.polled p n m)) [.line] (stopRequest s) := by
  have hdrain := setLine_draining hl
  obtain ⟨p, n, m, hreport⟩ := printedReport_held (g := g) (e := e) (s := setLine .draining s)
    (by simpa [SegmentHeld, hdrain.re, hdrain.bt, hdrain.tr] using h) .short
  rw [hdrain.tr] at hreport
  rw [stopRequest_running hl, drainEntry_ends (by simpa using hr)]
  exact ⟨p, n, m, ((hdrain.reported g .short _).trans hreport).drainEnd_stands htrack⟩

end

theorem nipHoldRuns_iff (s : State) : s.nipHoldRuns = true ↔ s.dc.line = .running ∧ s.re.raster = .idle ∧ s.cfg.nipHoldLimit ≠ 0 ∧
    ∀ b ∈ s.bt.track, b.state ≠ .printing ∧ b.state ≠ .travelling ∧ b.state ≠ .onDrum := by
  simp only [State.nipHoldRuns, Tracker.inFlight, Bool.and_eq_true, beq_iff_eq, Bool.not_eq_true', List.any_eq_false, Bool.or_eq_true,
    bne_iff_ne, not_or, and_assoc, ne_eq]
  exact ⟨fun ⟨hl, hr, hb, hn⟩ => ⟨hl, hr, hn, hb⟩, fun ⟨hl, hr, hn, hb⟩ => ⟨hl, hr, hb, hn⟩⟩

end Sys2Proof.Machine
end

section
namespace Sys2Proof.Proofs

open Sys2Proof.Machine

/-- Settles O7: a stop request by the line state, from LINECTL and from the nip-hold timer. -/
theorem stopRequests : Obligations.StopRequests := by
  intro s
  let x : State := { s with out := [] }
  have hcmd : ∀ {v : State} {ns : List Notice}, s.commandable → Becomes v ns (stopRequest x) →
      ∃ t, exec .stop s = .next t ∧ Becomes v ns t := fun {v ns} ⟨hp, hsoft⟩ h =>
    ⟨_, rfl, command_becomes hp (by rw [lineCtl_off (by exact hsoft)]; exact h)⟩
  refine ⟨fun hc hl hidle htrack => hcmd hc (stopRequest_drains (s := x) hl hidle htrack),
    fun hc hl hidle htrack hn => hcmd hc (stopRequest_empty (s := x) hl hidle htrack hn),
    fun hc hl => hcmd hc ?_, fun hc hr hs => hcmd hc ?_, fun g e hc hl htrack hr h => ?_,
    fun hc hl htrack hr => hcmd hc (stopRequest_printing (s := x) hl htrack hr), fun hp hl hidle htrack hb hn hh => ⟨_, rfl, ?_⟩⟩
  · rw [stopRequest_starting (s := x) hl]
    exact normalStop_becomes (s := x) (by simp [x, hl])
  · rw [stopRequest_stands (s := x) hr hs]
    exact Becomes.refl x
  · obtain ⟨p, n, m, hv⟩ := stopRequest_held (s := x) hl htrack hr h
    obtain ⟨t, he, ht⟩ := hcmd hc hv
    exact ⟨t, he, ht.after (frame_of_blocks (htr := .inl (by decide)) (hre := .inl (by decide)) (hbt := .inl (by decide))
      (hdc := .inl (by decide))), (h.report .short p n m s.bt.track s.tr.pauseReq _ []).becomes ht, by rw [ht.tr]; rfl, ht.dc, ht.out⟩
  · refine command_becomes hp ?_
    have hrun : x.nipHoldRuns = true := (nipHoldRuns_iff x).2 ⟨hl, hidle.1, hn, hb⟩
    rw [nipHoldTest, if_pos (by rw [hrun]; simpa [x] using hh)]
    exact stopRequest_drains (s := x) hl hidle htrack

end Sys2Proof.Proofs
end

section
/-! CLEAR_TRIP at the line, the drum, the nip and TR, block by block (06 R120, R124, 05 R103, 09 R177). -/

namespace Sys2Proof.Machine

/-! ## The drum (05 R103) -/

theorem Zone.cool_iff (z : Zone) : z.cool = true ↔
    ∀ r, z.reading = some r → r ≤ 2450 ∧ (z.enable = true → 1 ≤ z.target → r ≤ z.target + 150) := by
  unfold Zone.cool
  cases z.reading with
  | none => simp
  | some r =>
    have hoff : (!z.enabled) = true ↔ ¬(z.enable = true ∧ 1 ≤ z.target) := by rw [Bool.not_eq_true', ← Zone.enabled_iff, Bool.not_eq_true]
    simp only [Bool.and_eq_true, Bool.or_eq_true, decide_eq_true_eq, hoff, ← imp_iff_not_or, and_imp, Option.some.injEq, forall_eq']

/-- Only a zone in REGULATE with a reading is entered again. -/
theorem Zone.reenter_eq (z : Zone) : z.reenter =
    match z.state, z.reading with
    | .regulate, some r => { z with eff := min r 2300, integral := 0, validRun := 0 }
    | _, _ => z := by
  unfold Zone.reenter Zone.regulateFrom
  cases hs : z.state with
  | regulate => cases z.reading <;> simp [← hs]
  | off | lost => rfl

theorem anyEnabled_iff (h : Heat) : h.anyEnabled = true ↔ ∃ z ∈ h.zones.toList, z.enable = true ∧ 1 ≤ z.target := by
  simp only [Heat.anyEnabled, List.any_eq_true, Zone.enabled_iff]

/-- The drum's state once it is cleared. -/
def Heat.clearedDrum (h : Heat) : DrumState := if ∃ z ∈ h.zones.toList, z.enable = true ∧ 1 ≤ z.target then .heating else .cold

section
variable {s : State}

theorem clearDrum_stands (h : s.hc.drum ≠ .tripped) : clearDrum s = s := if_neg fun ⟨hd, _⟩ => h hd

theorem clearDrum_clears (hd : s.hc.drum = .tripped) (hm : s.pins.mainsOk = true) (hl : s.dc.line = .stopped)
    (hcool : ∀ z ∈ s.hc.zones.toList, z.cool = true) :
    Becomes { s with hc.drum := s.hc.clearedDrum, hc.settle := 0, hc.zones := s.hc.zones.map Zone.reenter } [.drum] (clearDrum s) := by
  have hto : s.hc.clearedDrum = if s.hc.anyEnabled then .heating else .cold := if_congr (anyEnabled_iff _).symm rfl rfl
  have hne : s.hc.clearedDrum ≠ .tripped := by
    unfold Heat.clearedDrum
    split <;> decide
  have hset := setDrum_becomes (d := s.hc.clearedDrum) (s := { modZones Zone.reenter s with hc.settle := 0 }) (by simpa [hd] using hne.symm)
  rw [clearDrum, if_pos ⟨hd, hm, by simp [hl], by simp [hl], List.all_eq_true.2 hcool⟩]
  rw [← hto]
  exact hset

/-! ## The line, the nip and TR (06 R120, R124, 09 R177) -/

theorem clearLine_stands (h : s.dc.line ≠ .tripped) : clearLine s = s := if_neg h

theorem clearLine_clears (h : s.dc.line = .tripped) (ht : s.tr.ticket = none) :
    Becomes { s with dc.line := .stopped, dc.nipHold := 0, dc.webs := s.dc.webs.map (fun w => { w with run := 0 }) } [.line]
      (clearLine s) := by
  rw [clearLine, if_pos h, settleStop_none (by simpa using ht)]
  exact setLine_becomes (s := { s with dc.webs := s.dc.webs.map (fun w => { w with run := 0 }) }) (by simp [h])

theorem clearNip_stands (h : s.dc.nip ≠ .fault) : clearNip s = s := if_neg fun ⟨hn, _⟩ => h hn

theorem clearNip_clears (h : s.dc.nip = .fault) (hopen : s.pins.nipOpen = true) :
    Becomes { s with dc.nip := .opened } [] (clearNip s) := by
  rw [clearNip, if_pos ⟨h, hopen⟩]
  exact setNip_becomes (by simp [h]) (by simp [h])

theorem clearPause_stopped (h : s.dc.line = .stopped) (hr : s.tr.reader ≠ .paused) :
    clearPause s = { s with tr.pauseReq := false } := by
  rw [clearPause, if_pos h]
  exact if_neg hr

theorem clearTrip_noSegment (h : s.re.seg = none) : clearTrip s = clearPause (clearNip (clearDrum (clearLine s))) := by
  unfold clearTrip
  dsimp only
  rw [autoStart_none (by simp [State.autoStarts, h]), ite_self]

end

section
variable {s : State} (hseg : s.re.seg = none) (hr : s.tr.reader ≠ .paused)

include hseg hr

/-- What CLEAR_TRIP leaves with the line STOPPED, from what it does at the line, the drum and the nip. -/
theorem clearTrip_becomes {u : State} {ns : List Notice} (h : Becomes u ns (clearNip (clearDrum (clearLine s))))
    (hl : u.dc.line = .stopped) : Becomes { u with tr.pauseReq := false } ns (clearTrip s) := by
  rw [clearTrip_noSegment hseg, clearPause_stopped (by rw [h.dc, hl]) (by simpa using hr)]
  exact h.setTr (fun r => { r with pauseReq := false })

/-- A TRIPPED line becomes STOPPED. -/
theorem clearTrip_line (hl : s.dc.line = .tripped) (hd : s.hc.drum ≠ .tripped) (hn : s.dc.nip ≠ .fault) (ht : s.tr.ticket = none) :
    Becomes { s with dc.line := .stopped, dc.nipHold := 0, tr.pauseReq := false,
                     dc.webs := s.dc.webs.map (fun w => { w with run := 0 }) } [.line] (clearTrip s) := by
  have hclear := clearLine_clears hl ht
  rw [← clearDrum_stands (s := clearLine s) (by simpa using hd), ← clearNip_stands (s := clearDrum (clearLine s)) (by simpa using hn)]
    at hclear
  exact clearTrip_becomes hseg hr hclear rfl

/-- A nip in FAULT whose open switch alone is asserted becomes OPEN. -/
theorem clearTrip_nip (hl : s.dc.line = .stopped) (hd : s.hc.drum ≠ .tripped) (hn : s.dc.nip = .fault) (ho : s.pins.nipOpen = true) :
    Becomes { s with dc.nip := .opened, tr.pauseReq := false } [] (clearTrip s) := by
  refine clearTrip_becomes hseg hr (u := { s with dc.nip := .opened }) ?_ hl
  rw [clearLine_stands (by simp [hl]), clearDrum_stands hd]
  exact clearNip_clears hn ho

/-- A TRIPPED drum whose readings permit it becomes HEATING or COLD. -/
theorem clearTrip_drum (hl : s.dc.line = .stopped) (hd : s.hc.drum = .tripped) (hn : s.dc.nip ≠ .fault) (hm : s.pins.mainsOk = true)
    (hcool : ∀ z ∈ s.hc.zones.toList, z.cool = true) :
    Becomes { s with hc.drum := s.hc.clearedDrum, hc.settle := 0, hc.zones := s.hc.zones.map Zone.reenter, tr.pauseReq := false }
      [.drum] (clearTrip s) := by
  refine clearTrip_becomes hseg hr
    (u := { s with hc.drum := s.hc.clearedDrum, hc.settle := 0, hc.zones := s.hc.zones.map Zone.reenter }) ?_ hl
  rw [clearLine_stands (by simp [hl]), clearNip_stands (by simpa using hn)]
  exact clearDrum_clears hd hm hl hcool

end

end Sys2Proof.Machine
end

section
namespace Sys2Proof.Proofs

open Sys2Proof.Machine

/-- Settles O8: each block's part of CLEAR_TRIP acts where that block permits it, and the others stand. -/
theorem clearTripCommand : Obligations.ClearTripCommand := by
  intro l s ⟨hp, hsoft⟩ hr ht hseg u
  let x : State := { u with out := [] }
  have hcmd : ∀ {v : State} {ns : List Notice}, Becomes v ns (clearTrip x) → ∃ t, exec (.clearTrip l) s = .next t ∧ Becomes v ns t :=
    fun {v ns} h => ⟨_, rfl, commandAt_becomes hp (by rw [lineCtl_off (by exact hsoft)]; exact h)⟩
  refine ⟨fun hl hd hn => hcmd (clearTrip_line (s := x) hseg hr hl hd hn ht),
    fun hl hd hn ho hc => hcmd (clearTrip_nip (s := x) hseg hr hl hd hn (show s.pins.nipOpen = true by simp [Pins.nipOpen, ho, hc])),
    fun hl hd hn hm hz => hcmd ?_⟩
  have hclear := clearTrip_drum (s := x) hseg hr hl hd hn hm fun z hmem => (Zone.cool_iff z).2 (hz z hmem)
  rw [funext Zone.reenter_eq] at hclear
  exact hclear

end Sys2Proof.Proofs
end

section
/-! The drive's tickets (06 R113, R118, R131): SET_SPEED and SET_TENSION as changes of DC, and STOP settled by the line state. -/

namespace Sys2Proof.Machine

/-! ## A ticket handed over (09 R172) -/

section
variable {t : Ticket} {rest : List Transfer} {s : State} (h : Handing t rest s)

include h

/-- The block changes DC at most and ends the ticket at once. -/
theorem handing_finishes {st : TicketState} {status : Status} {d : Nat} {f : Drive → Drive}
    (hexec : ∀ x, Becomes (s.handedTo t rest) [] x → execute t.kind t.body x = finishTicket st status d { x with dc := f x.dc }) :
    Becomes { s.ended t rest (finalWrite t st status d) s.re s.bt with dc := f s.dc } [] (command (ticketStep t.kind []) s) := by
  obtain ⟨x, hx, hrun⟩ := handing_run h
  obtain ⟨⟨-, hsoft⟩, -, -, hrep, -⟩ := h
  have hrep' : ∀ w ∈ rest, w.isRepeatedTaken t.addr = false := by simpa using hrep
  have hblock := (hx.setDc f).finishTicket st status d
  rw [finishTicket_eq (k := t.handedOver) rfl hrep', ← hexec x hx] at hblock
  exact hrun _ _ hblock (Option.some_ne_none _) hsoft

/-- The block keeps the ticket. -/
theorem handing_keeps {f : Drive → Drive} {ns : List Notice}
    (hexec : ∀ x, Becomes (s.handedTo t rest) [] x → Becomes { x with dc := f x.dc } ns (execute t.kind t.body x)) :
    Becomes { s.handedTo t rest with dc := f s.dc } ns (command (ticketStep t.kind []) s) := by
  obtain ⟨x, hx, hrun⟩ := handing_run h
  obtain ⟨⟨-, hsoft⟩, -⟩ := h
  exact hrun _ _ ((hx.setDc f).trans (hexec x hx)) (Option.some_ne_none _) hsoft

end

/-- The statements' words for a ticket that is finished, DC changed or not. -/
theorem finishes_of_ended_dc {t : Ticket} {rest : List Transfer} {s u : State} {d : Drive} {st : TicketState} {status : Status}
    {n : Nat} (h : Becomes { s.ended t rest (finalWrite t st status n) s.re s.bt with dc := d } [] u) :
    Finishes t rest st status n s u := ⟨congrArg Reader.ticket h.tr, h.writes, h.copies, h.ticketReads, h.out⟩

/-! ## SET_SPEED and SET_TENSION (06 R113, R131) -/

theorem firstClamped_speedFields (ws : List Word) : FirstOut 2 (fun i =>
    if i = 1 then 50 ≤ natAt ws 0 ∧ natAt ws 0 ≤ 1000 else 10 ≤ natAt ws 1 ∧ natAt ws 1 ≤ 2000) (firstClamped speedFields ws) := by
  refine firstClamped_firstOut (by decide) (by decide) fun i h1 hn => ?_
  simp only [speedFields, List.forall_mem_cons, ClampField.value]
  interval_cases i <;> simp [clampN_eq_self_iff]

theorem firstClamped_tensionFields (ws : List Word) : FirstOut 17 (fun i =>
    let v := natAt ws (i - 1)
    if i ≤ 3 then 20 ≤ v ∧ v ≤ 2000 else if i ≤ 9 then v ≤ 255 else if i ≤ 12 then v ≤ 65535
    else if i ≤ 15 then 1 ≤ v ∧ v ≤ 8191 else if i = 16 then 5 ≤ v ∧ v ≤ 500 else 50 ≤ v ∧ v ≤ 2000)
    (firstClamped tensionFields ws) := by
  refine firstClamped_firstOut (by decide) (by decide) fun i h1 hn => ?_
  simp only [tensionFields, List.forall_mem_cons, ClampField.value]
  interval_cases i <;> simp [clampN_eq_self_iff]

/-- DC once it has taken a SET_SPEED. -/
def Drive.paced (ws : List Word) (d : Drive) : Drive :=
  { d with setpoint := clampN (natAt ws 0) 50 1000, accel := clampN (natAt ws 1) 10 2000 }

/-- DC once it has taken a SET_TENSION. -/
def Drive.retuned (ws : List Word) (d : Drive) : Drive :=
  { d with webs := ⟨d.webs.paper.retune ws 0, d.webs.fabric.retune ws 1, d.webs.tissue.retune ws 2⟩,
           devLimit := clampN (natAt ws 15) 5 500, faultTime := clampN (natAt ws 16) 50 2000 }

theorem takeSpeed_eq (ws : List Word) (s : State) : takeSpeed ws s = { s with dc := s.dc.paced ws } := rfl

theorem takeTension_eq (ws : List Word) (s : State) : takeTension ws s = { s with dc := s.dc.retuned ws } := rfl

theorem WebLoop.retune_eq (ws : List Word) (i : Nat) (w : WebLoop) : w.retune ws i = { w with
    tset := max 20 (min (natAt ws i) 2000), kp := min (natAt ws (3 + i)) 255, ki := min (natAt ws (6 + i)) 255,
    zero := min (natAt ws (9 + i)) 65535, scale := max 1 (min (natAt ws (12 + i)) 8191), run := 0 } := by
  simp only [WebLoop.retune, clampN_eq, Nat.zero_max]

theorem webOf_retuned {w : WebId} {i : Nat} (h : (w = .paper ∧ i = 0) ∨ (w = .fabric ∧ i = 1) ∨ (w = .tissue ∧ i = 2))
    (ws : List Word) (d : Drive) : webOf (d.retuned ws).webs w = (webOf d.webs w).retune ws i := by
  rcases h with ⟨rfl, rfl⟩ | ⟨rfl, rfl⟩ | ⟨rfl, rfl⟩ <;> rfl

/-! ## STOP (06 R118) -/

section
variable {k : Ticket} {s : State}

theorem settleStop_waits (hl : s.dc.line = .starting ∨ s.dc.line = .running ∨ s.dc.line = .draining ∨ s.dc.line = .stopping) :
    settleStop s = s := by
  unfold settleStop
  cases s.tr.ticket with
  | none => rfl
  | some t => rcases hl with hl | hl | hl | hl <;> simp only [hl, ite_self]

theorem settleStop_stopped (ht : s.tr.ticket = some k) (hk : k.kind = .stop) (hp : k.phase = .handed) (hl : s.dc.line = .stopped) :
    settleStop s = finishTicket .done .ok 0 s := by
  simp only [settleStop, ht, hk, hp, hl, and_self, if_true]

theorem settleStop_aborted (ht : s.tr.ticket = some k) (hk : k.kind = .stop) (hp : k.phase = .handed)
    (hl : s.dc.line = .tripped ∨ s.dc.line = .powerStop ∨ s.dc.line = .powerHeld) :
    settleStop s = finishTicket .failed .abortedTrip 0 s := by
  rcases hl with hl | hl | hl <;> simp only [settleStop, ht, hk, hp, hl, and_self, if_true]

end

/-- A STOP ticket handed over with the line at rest, or where it comes to rest by itself, asks for nothing. -/
theorem takeStop_stands {s : State} (hr : s.dc.line ≠ .running) (hs : s.dc.line ≠ .starting) : takeStop s = settleStop s := by
  rw [takeStop, stopRequest_stands hr hs]

theorem Becomes.settleStop_waits {u t : State} {ns : List Notice} (h : Becomes u ns t)
    (hl : u.dc.line = .starting ∨ u.dc.line = .running ∨ u.dc.line = .draining ∨ u.dc.line = .stopping) :
    Becomes u ns (settleStop t) := by
  rw [Machine.settleStop_waits (by rwa [h.dc])]
  exact h

end Sys2Proof.Machine
end

section
namespace Sys2Proof.Proofs

open Sys2Proof.Machine

/-- Settles O14: the hand-off is `handing_finishes`, and DC's part `Drive.paced` and `Drive.retuned`. -/
theorem speedAndTensionTickets : Obligations.SpeedAndTensionTickets := by
  refine ⟨fun ws => ⟨firstClamped_speedFields ws, firstClamped_tensionFields ws⟩, fun t rest s h => ⟨fun hk => ?_, fun hk => ?_⟩⟩
  · have hu := handing_finishes h (st := .done) (status := .ok) (d := firstClamped speedFields t.body) (f := Drive.paced t.body)
      fun x _ => by rw [hk, ← takeSpeed_eq]; rfl
    rw [hk] at hu
    refine ⟨_, rfl, hu.after (frame_of_blocks (htr := .inl (by decide)) (hdc := .inl (by decide))), finishes_of_ended_dc hu,
      by rw [hu.tr]; rfl, ?_⟩
    rw [hu.dc, ← clampN_eq, ← clampN_eq]
    rfl
  · have hu := handing_finishes h (st := .done) (status := .ok) (d := firstClamped tensionFields t.body) (f := Drive.retuned t.body)
      fun x _ => by rw [hk, ← takeTension_eq]; rfl
    rw [hk] at hu
    refine ⟨_, rfl, hu.after (frame_of_blocks (htr := .inl (by decide)) (hdc := .inl (by decide))), finishes_of_ended_dc hu,
      by rw [hu.tr]; rfl, ?_, fun w i hi => ?_⟩
    · rw [hu.dc, ← clampN_eq, ← clampN_eq]
      rfl
    · rw [hu.dc, ← WebLoop.retune_eq]
      exact webOf_retuned hi t.body s.dc

/-- Settles O20: the stop request of the ticket, then its settling by the line state. -/
theorem stopTicket : Obligations.StopTicket := by
  intro t rest s h hk
  have hends : ∀ {st : TicketState} {status : Status}, s.dc.line ≠ .running → s.dc.line ≠ .starting →
      (∀ x : State, x.dc = s.dc → x.tr.ticket = some t.handedOver → settleStop x = finishTicket st status 0 x) →
      ∃ u, exec (.stopTicket []) s = .next u ∧ Finishes t rest st status 0 s u ∧ Frame [.tr] [] s u := by
    intro st status hr hs hsettle
    have hu := handing_finishes h (st := st) (status := status) (d := 0) (f := id) fun x hx => by
      rw [hk]
      exact (takeStop_stands (by rwa [hx.dc]) (by rwa [hx.dc])).trans (hsettle x hx.dc (congrArg Reader.ticket hx.tr))
    rw [hk] at hu
    exact ⟨_, rfl, finishes_of_ended_dc hu, hu.after (frame_of_blocks (htr := .inl (by decide)))⟩
  refine ⟨fun hl => ?_, fun hl => ?_, fun hl => ?_, fun hl hidle htrack => ?_, fun hl hn => ?_⟩
  · exact hends (by simp [hl]) (by simp [hl]) fun x hdc ht => settleStop_stopped ht hk rfl (by rwa [hdc])
  · exact hends (by rcases hl with hl | hl | hl <;> simp [hl]) (by rcases hl with hl | hl | hl <;> simp [hl])
      fun x hdc ht => settleStop_aborted ht hk rfl (by rwa [hdc])
  · have hu := handing_keeps h (f := id) (ns := []) fun x hx => by
      rw [hk]
      show Becomes x [] (takeStop x)
      rw [takeStop_stands (by rw [hx.dc]; rcases hl with hl | hl <;> simp [State.handedTo, hl])
        (by rw [hx.dc]; rcases hl with hl | hl <;> simp [State.handedTo, hl])]
      exact (Becomes.refl x).settleStop_waits (by rw [hx.dc]; exact .inr (.inr hl))
    rw [hk] at hu
    exact ⟨_, rfl, hu.after (frame_of_blocks (htr := .inl (by decide))), hu.writes, hu.tr⟩
  · have hu := handing_keeps h (f := fun d => { d with line := .draining, nipHold := 0 }) (ns := [.line]) fun x hx => by
      rw [hk]
      exact (stopRequest_drains (by rw [hx.dc]; exact hl) (by rw [State.rasterIdle, hx.re]; exact hidle)
        (by rw [hx.bt]; exact htrack)).settleStop_waits (by simp)
    rw [hk] at hu
    exact ⟨_, rfl, hu.after (frame_of_blocks (htr := .inl (by decide)) (hdc := .inl (by decide))), hu.writes, hu.tr, hu.dc⟩
  · have hu := handing_keeps h (f := fun d => { d with
        line := .stopping, stopKind := .normal, nipHold := 0, webs := d.webs.map (fun w => { w with run := 0 }) }) (ns := [.line])
        fun x hx => by
      have hn' : x.dc.nip = .opened := by rw [hx.dc]; exact hn
      have hstop := normalStop_becomes (s := x) (by rw [hx.dc]; simp [State.handedTo, hl])
      rw [nipOpens_stands (by simp [hn']) (by simp [hn']), ← stopRequest_starting (by rw [hx.dc]; exact hl)] at hstop
      rw [hk]
      exact hstop.settleStop_waits (by simp [State.entering])
    rw [hk] at hu
    exact ⟨_, rfl, hu.after (frame_of_blocks (htr := .inl (by decide)) (hdc := .inl (by decide))), hu.writes, hu.tr, hu.dc⟩

end Sys2Proof.Proofs
end

section
/-! The stretch estimate (06 R134) and a millisecond of the running timers (06 R123, R125, R135, 08 R152, R154, 10 R187). -/

namespace Sys2Proof.Machine

/-! ## The stretch estimate -/

theorem stretchNext_still (s dDr : Int) : stretchNext s 0 dDr = s := if_pos rfl

theorem stretchNext_moved {s dIn dDr : Int} (h : dIn ≠ 0) :
    stretchNext s dIn dDr = max 0 (min (s + Int.fdiv ((dDr - dIn) * 10000 / dIn - s) 8) 500) := by
  rw [stretchNext, if_neg h, clampZ, Int.fdiv_eq_ediv_of_nonneg _ (by decide)]

/-! ## A millisecond -/

theorem LineState.moving_iff (l : LineState) :
    l.moving = true ↔ l = .starting ∨ l = .running ∨ l = .draining ∨ l = .stopping ∨ l = .powerStop := by
  cases l <;> decide

/-- A timer after a millisecond, by whether it runs. -/
def ticked (runs : Bool) (n : Nat) : Nat := if runs then n + 1 else n

theorem silenceTick_eq (d : Drive) : d.silenceTick = ⟨ticked (decide (50000 ≤ d.ref)) d.silence.paper,
    ticked (decide (50000 ≤ d.ref)) d.silence.infeed, ticked (decide (50000 ≤ d.ref)) d.silence.drum⟩ := by
  unfold Drive.silenceTick ticked
  by_cases h : 50000 ≤ d.ref <;> simp [h]

theorem tick_powered {s : State} (h : s.pins.powerGood = true) : tick s = { s with
    out := [], now := s.now + 1, tr.pollElapsed := ticked s.tr.pollRunning s.tr.pollElapsed,
    smp.progTimer := ticked s.dc.line.moving s.smp.progTimer, dc.nipTimer := s.dc.nipTimer.map (fun n => n - 1),
    dc.nipHold := if s.nipHoldRuns then s.dc.nipHold + 1 else 0, dc.silence := s.dc.silenceTick,
    cv.silence := ticked s.cv.silenceOn s.cv.silence, cv.rxGap := ticked (decide (s.cv.rx ≠ .hunting)) s.cv.rxGap } := by
  have hgap : ticked (decide (s.cv.rx ≠ .hunting)) s.cv.rxGap = if s.cv.rx = .hunting then s.cv.rxGap else s.cv.rxGap + 1 := by
    by_cases hr : s.cv.rx = .hunting <;> simp [ticked, hr]
  rw [hgap]
  exact if_pos h

theorem tick_unpowered {s : State} (h : s.pins.powerGood = false) : tick s = { s with out := [] } := by
  simp [tick, powered, h]

end Sys2Proof.Machine
end

section
namespace Sys2Proof.Proofs

open Sys2Proof.Machine

/-- Settles O39: the positions are stored, and the estimate is `stretchNext`. -/
theorem stretchUpdate : Obligations.StretchUpdate := by
  intro s hp
  have hu : Becomes (Machine.stretchUpdate { s with out := [] }) [] (command Machine.stretchUpdate s) :=
    command_becomes hp (Becomes.refl _)
  refine ⟨_, rfl, ?_, ?_⟩
  · rw [hu.dc]
    exact hu
  · intro dIn dDr
    have hs : (command Machine.stretchUpdate s).dc.stretch = (stretchNext s.dc.stretch dIn dDr).toNat := by
      rw [hu.dc]
      rfl
    refine ⟨fun hz => ?_, fun hm => ?_⟩
    · rw [hs, hz, stretchNext_still, Int.toNat_natCast]
    · rw [hs, stretchNext_moved hm, Int.toNat_of_nonneg (Int.le_max_left ..)]

/-- Settles O1: the front command, or one tick. -/
theorem stepRunsFrontCommand : Obligations.StepRunsFrontCommand := by
  have hidle : ∀ s : State, s.pending = [] → step s = .next (tick s) := fun s h => by rw [step, h]
  refine ⟨fun c rest s => rfl, hidle, fun s h hp => by rw [hidle s h, tick_unpowered hp], fun s h hp => ?_⟩
  intro up hold moving fast
  have hmoving : decide moving = s.dc.line.moving := Bool.eq_iff_iff.2 (by rw [decide_eq_true_eq, LineState.moving_iff])
  have hhold : (if hold then s.dc.nipHold + 1 else 0) = if s.nipHoldRuns then s.dc.nipHold + 1 else 0 :=
    if_congr (nipHoldRuns_iff s).symm rfl rfl
  rw [hidle s h, tick_powered hp, silenceTick_eq, ← hmoving, ← hhold]
  rfl

end Sys2Proof.Proofs
end

section
/-! The tension sample, stage by stage (06 R112, R126 to R130): where the reference goes, and what each stage makes of DC where it acts on
DC alone. -/

namespace Sys2Proof.Machine

/-! ## The reference (06 R112) -/

theorem stepRef_ref (s : State) : (stepRef s).dc.ref = s.nextRef := by
  unfold stepRef
  dsimp only
  split <;> rfl

theorem driveSoftReset_ref (s : State) : (driveSoftReset s).dc.ref = 0 := by
  unfold driveSoftReset
  generalize setLine (if s.pins.mainsOk then .stopped else .powerHeld) s = u
  dsimp only
  split
  · rfl
  · simp

theorem softReach_ref (s : State) : (softReach s).dc.ref = 0 := by
  unfold softReach
  dsimp only
  split
  · exact driveSoftReset_ref _
  · simpa using driveSoftReset_ref _

/-- Speed 0 leaves the reference 0, also where a soft reset goes on. -/
theorem speedZeroTest_ref (s : State) : (speedZeroTest s).dc.ref = s.dc.ref := by
  unfold speedZeroTest
  split
  next hz =>
    obtain ⟨hr, -⟩ := (atSpeedZero_iff s).1 hz
    unfold speedZero
    dsimp only
    split
    · rw [softReach_ref, hr]
    · (repeat' split) <;> simp
  next => rfl

theorem refStage_ref (s : State) : (refStage s).dc.ref = s.nextRef := by
  rw [refStage, speedZeroTest_ref]
  simpa using stepRef_ref s

theorem tensionSample_ref (cells : Webs LoadCell) (s : State) : (tensionSample cells s).dc.ref = s.nextRef := by
  unfold tensionSample
  simpa using refStage_ref s

/-- The demands on the drive link (06 R126). -/
def Drive.demands (d : Drive) : Webs Int := if d.line.moving then d.webs.map WebLoop.demand else ⟨0, 0, 0⟩

theorem tensionSample_out (cells : Webs LoadCell) (s : State) : (tensionSample cells s).out.getLast? =
    some (.drive (tensionSample cells s).dc.ref (tensionSample cells s).dc.demands) := List.getLast?_concat

theorem stepToward_up {x goal : Nat} (h : x ≤ goal) (d : Nat) : stepToward x goal d = min goal (x + d) := if_pos h

theorem stepToward_down {x goal : Nat} (h : goal ≤ x) (d : Nat) : stepToward x goal d = max goal (x - d) := by
  unfold stepToward
  split <;> omega

end Sys2Proof.Machine
end

section
namespace Sys2Proof.Proofs

open Sys2Proof.Machine

/-- Settles O34: every stage but the first keeps the reference, and the last sends it. -/
theorem tensionReference : Obligations.TensionReference := by
  intro cells l s hp
  let x : State := { sampleLines l s with out := [] }
  have hkick := kick_becomes (tensionSample cells x)
  have hcmd : commandAt l (tensionSample cells) s = kick (tensionSample cells x) := commandAt_eq hp ..
  have href : (commandAt l (tensionSample cells) s).dc.ref = s.nextRef := by
    rw [hcmd, hkick.dc, tensionSample_ref]
    rfl
  refine ⟨_, (commandAt l (tensionSample cells) s).dc.demands, rfl, ?_, fun hm => if_neg (by simp [hm]), ?_, ?_⟩
  · rw [hcmd, hkick.out, hkick.dc]
    exact tensionSample_out cells x
  · rw [hcmd, hkick.pins]
    simp [x]
  · rw [href]
    unfold State.nextRef
    refine ⟨fun hl => ?_, fun hl => ⟨fun hr => ?_, fun hr => ?_⟩, fun hl hk hn => ?_, fun hl hk hn => ?_, fun h => ?_⟩
    · rcases hl with hl | hl | hl <;> rw [hl]
    · rcases hl with hl | hl | hl <;> rw [hl] <;> exact stepToward_up hr _
    · rcases hl with hl | hl | hl <;> rw [hl] <;> exact congrArg Nat.cast (stepToward_down hr.le _)
    · rw [hl, hk]
      exact if_neg hn
    · rw [hl, hk]
      dsimp only
      rw [if_pos hn]
      exact congrArg Nat.cast (stepToward_down (Nat.zero_le _) _)
    · rcases h with ⟨hl, hk⟩ | hl
      · rw [hl, hk]
        exact congrArg Nat.cast (stepToward_down (Nat.zero_le _) _)
      · rw [hl]
        exact congrArg Nat.cast (stepToward_down (Nat.zero_le _) _)

end Sys2Proof.Proofs
end

section
/-! The tension loops of a sample that finds every cell in range and brings no fault (06 R127 to R129, R132): each stage acts on DC
alone. -/

namespace Sys2Proof.Machine

/-! ## The first stage on DC alone (06 R112) -/

/-- DC with the reference at `r`; the silence timers restart where it rises to 50,000 µm/s (06 R135). -/
def Drive.steppedTo (r : Nat) (d : Drive) : Drive :=
  { d with ref := r, silence := if d.ref < 50000 ∧ 50000 ≤ r then ⟨0, 0, 0⟩ else d.silence }

theorem stepRef_eq (s : State) : stepRef s = { s with dc := s.dc.steppedTo s.nextRef } := by
  unfold stepRef Drive.steppedTo
  dsimp only
  split <;> rfl

/-- Outside STARTING, and where the sample ends no stop, the first stage moves the reference alone. -/
theorem refStage_steps {s : State} (hl : s.dc.line ≠ .starting) (hz : ¬(s.nextRef = 0 ∧ ∃ n, s.stopsAt n)) :
    refStage s = { s with dc := s.dc.steppedTo s.nextRef } := by
  have hclose : nipCloseTest (stepRef s) = stepRef s := if_neg fun ⟨h, _⟩ => hl (by simpa using h)
  have hrun : runningTest (stepRef s) = stepRef s := if_neg fun ⟨h, _⟩ => hl (by simpa using h)
  rw [refStage, hclose, hrun, stepRef_eq]
  exact speedZeroTest_stands hz

theorem not_stopsAt_of_counts {n : LineState} {s : State} (h : s.dc.line = .running ∨ s.dc.line = .draining) : ¬s.stopsAt n := by
  unfold State.stopsAt
  rcases h with h | h <;> simp [h]

/-! ## A web's stages -/

theorem cellOk_iff (c : LoadCell) : cellOk c = true ↔ c.fault = false ∧ c.count ≠ 0 ∧ c.count ≠ 0xFFFF := by
  simp [cellOk, and_assoc]

theorem tensionOf_eq (count atZero scale : Nat) : tensionOf count atZero scale = Int.fdiv (((count : Int) - atZero) * scale) 1024 :=
  (Int.fdiv_eq_ediv_of_nonneg _ (by decide)).symm

/-- One web over the stages of a sample while the loops are on. -/
def WebLoop.looped (limit : Nat) (c : LoadCell) (w : WebLoop) : WebLoop := (w.read true c).regulate.countRun true limit

theorem WebLoop.looped_eq {c : LoadCell} (h : cellOk c = true) (limit : Nat) (w : WebLoop) : w.looped limit c =
    let tension := tensionOf c.count.toNat w.zero w.scale
    let e : Int := w.tset - tension
    let i := clampZ (w.integral + w.ki * e) (-500000) 500000
    { w with
      tension := tension, inRange := true, integral := i, demand := clampZ (w.kp * e / 64 + i / 1024) (-1000) 1000,
      run := if limit < e.natAbs then w.run + 1 else 0, peak := some (peakWith tension w.peak) } := by
  simp [WebLoop.looped, WebLoop.read, h, WebLoop.regulate, WebLoop.countRun, WebLoop.beyond]

theorem WebLoop.countRun_le (on : Bool) (limit : Nat) (w : WebLoop) : (w.countRun on limit).run ≤ w.run + 1 := by
  unfold WebLoop.countRun
  dsimp only
  split <;> omega

theorem WebLoop.read_run (on : Bool) (c : LoadCell) (w : WebLoop) : (w.read on c).run = w.run := by
  unfold WebLoop.read
  split <;> rfl

theorem WebLoop.looped_run_le (limit : Nat) (c : LoadCell) (w : WebLoop) : (w.looped limit c).run ≤ w.run + 1 := by
  rw [← w.read_run true c]
  exact WebLoop.countRun_le true limit (w.read true c).regulate

/-! ## The three webs -/

theorem Webs.forall_mem {α : Type} {p : α → Prop} (w : Webs α) : (∀ x ∈ w.toList, p x) ↔ ∀ id, p (webOf w id) := by
  simp only [Webs.toList, List.forall_mem_cons, List.not_mem_nil, false_implies, implies_true, and_true]
  exact ⟨fun ⟨hp, hf, ht⟩ id => by cases id <;> assumption, fun h => ⟨h .paper, h .fabric, h .tissue⟩⟩

/-- The limit of a web's tension error (06 R129). -/
def State.webLimit (s : State) : WebId → Nat
  | .paper | .tissue => s.dc.devLimit
  | .fabric => s.fabricLimit

/-- The three webs over the stages of a sample while the loops are on. -/
def State.loopedWebs (cells : Webs LoadCell) (s : State) : Webs WebLoop :=
  ⟨s.dc.webs.paper.looped (s.webLimit .paper) cells.paper, s.dc.webs.fabric.looped (s.webLimit .fabric) cells.fabric,
   s.dc.webs.tissue.looped (s.webLimit .tissue) cells.tissue⟩

theorem webOf_loopedWebs (cells : Webs LoadCell) (s : State) (id : WebId) :
    webOf (s.loopedWebs cells) id = (webOf s.dc.webs id).looped (s.webLimit id) (webOf cells id) := by cases id <;> rfl

theorem sensorStage_stands {s : State} (h : ∀ id, (webOf s.dc.webs id).inRange = true) : sensorStage s = s := by
  have hall : s.dc.webs.toList.all WebLoop.inRange = true := List.all_eq_true.2 ((Webs.forall_mem s.dc.webs).2 h)
  exact if_neg (by simp [hall])

theorem faultStage_stands {s : State} (h : ∀ id, s.dc.runFaults (webOf s.dc.webs id) = false) : faultStage s = s := by
  have hall : ∀ w ∈ s.dc.webs.toList, s.dc.runFaults w = false := (Webs.forall_mem s.dc.webs).2 h
  exact if_neg (by simpa using hall)

/-- Stages 2 and 4, and the counting of stage 5, on DC alone. -/
theorem loops_eq {s : State} (h : s.dc.line = .running ∨ s.dc.line = .draining) (cells : Webs LoadCell) :
    countStage (loopStage (readStage cells s)) = { s with dc.webs := s.loopedWebs cells } := by
  rcases h with h | h <;>
    simp only [countStage, loopStage, readStage, h, LineState.moving, LineState.counts, if_true] <;> rfl

theorem tensionSample_loops {cells : Webs LoadCell} {s : State} (hl : s.dc.line = .running ∨ s.dc.line = .draining)
    (hcells : ∀ id, cellOk (webOf cells id) = true) (hrun : ∀ id, ((webOf s.dc.webs id).run + 1) * 5 < s.dc.faultTime) :
    tensionSample cells s = driveOut { s with dc := { s.dc.steppedTo s.nextRef with webs := s.loopedWebs cells } } := by
  have hread : ∀ id, (webOf (readStage cells { s with dc := s.dc.steppedTo s.nextRef }).dc.webs id).inRange = true := fun id => by
    have hc := hcells id
    cases id <;> exact congrArg WebLoop.inRange (if_pos hc)
  have hfault : ∀ id, { s.dc.steppedTo s.nextRef with webs := s.loopedWebs cells }.runFaults (webOf (s.loopedWebs cells) id) = false :=
    fun id => Bool.eq_false_iff.2 fun hf => by
      obtain ⟨-, hf⟩ := (runFaults_iff _ _).1 hf
      have hle := WebLoop.looped_run_le (s.webLimit id) (webOf cells id) (webOf s.dc.webs id)
      have hlt := hrun id
      rw [webOf_loopedWebs] at hf
      have hf : s.dc.faultTime ≤ ((webOf s.dc.webs id).looped (s.webLimit id) (webOf cells id)).run * 5 := hf
      omega
  rw [tensionSample, refStage_steps (by rcases hl with h | h <;> simp [h]) fun ⟨_, _, h⟩ => not_stopsAt_of_counts hl h,
    sensorStage_stands hread, loops_eq (s := { s with dc := s.dc.steppedTo s.nextRef }) hl]
  exact congrArg driveOut (faultStage_stands (s := { s with dc := { s.dc.steppedTo s.nextRef with webs := s.loopedWebs cells } }) hfault)

end Sys2Proof.Machine
end

section
namespace Sys2Proof.Proofs

open Sys2Proof.Machine

/-- Settles O35: the sample is its loops alone, web by web `WebLoop.looped`. -/
theorem tensionLoops : Obligations.TensionLoops := by
  intro cells l s hp hl hcells hrun
  let x : State := { sampleLines l s with out := [] }
  have hok : ∀ id, cellOk (webOf cells id) = true := (Webs.forall_mem cells).1 fun c hc => (cellOk_iff c).2 (hcells c hc)
  have hsample := tensionSample_loops (s := x) (cells := cells) hl hok ((Webs.forall_mem _).1 hrun)
  have hu : Becomes (driveOut { x with dc := { x.dc.steppedTo x.nextRef with webs := x.loopedWebs cells } }) []
      (commandAt l (tensionSample cells) s) := commandAt_becomes hp (by rw [hsample]; exact Becomes.refl _)
  refine ⟨_, rfl, hu.after (frame_of_blocks (hdc := .inl (by decide))), hu.2.1, ?_, ?_, ?_, ?_, fun id => ?_⟩
  iterate 4 rw [hu.dc]; rfl
  intro w tension e i limit
  have hlimit : x.webLimit id = limit := by
    cases id with
    | paper => rfl
    | tissue => rfl
    | fabric => by_cases hs : s.bt.splices = [] <;> simp [State.webLimit, State.fabricLimit, x, limit, hs]
  have htension : tensionOf (webOf cells id).count.toNat w.zero w.scale = tension := tensionOf_eq ..
  have hpeak : peakWith tension w.peak = (match w.peak with
      | none => ⟨tension, tension⟩
      | some p => ⟨max p.hi tension, min p.lo tension⟩) := by cases w.peak <;> rfl
  have hweb : webOf (commandAt l (tensionSample cells) s).dc.webs id = w.looped limit (webOf cells id) := by
    rw [hu.dc, ← hlimit]
    exact webOf_loopedWebs cells x id
  rw [hweb, WebLoop.looped_eq (hok id)]
  dsimp only
  rw [htension, hpeak, ← Int.fdiv_eq_ediv_of_nonneg _ (by decide), ← Int.fdiv_eq_ediv_of_nonneg _ (by decide)]
  rfl

end Sys2Proof.Proofs
end

section
/-! A tension sample that finds a cell out of range (06 R130), and the stages that follow the end of the loops. -/

namespace Sys2Proof.Machine

/-! ## The first stage where it ends no stop (06 R112, R115) -/

/-- What the first stage makes of DC, and the causes it raises, where it ends no stop: STARTING may command the nip closed, or enter
RUNNING. -/
structure State.Advances (s : State) (d : Drive) (ns : List Notice) : Prop where
  line : (ns = [] ∧ d.line = s.dc.line) ∨ (ns = [.line] ∧ s.dc.line = .starting ∧ d.line = .running)
  stopKind : d.stopKind = s.dc.stopKind
  webs : d.webs = s.dc.webs
  nip : (d.nip = s.dc.nip ∧ d.valve = s.dc.valve) ∨ (s.dc.line = .starting ∧ s.dc.nip = .opened ∧ d.nip = .closing)

theorem State.Advances.stoppable {s : State} {d : Drive} {ns : List Notice} (h : s.Advances d ns) (hs : s.stoppable) :
    { s with dc := d }.stoppable := by
  rcases h.line with ⟨-, hl⟩ | ⟨-, -, hl⟩
  · simpa [State.stoppable, hl, h.stopKind] using hs
  · exact .inr (.inl hl)

theorem State.Advances.closed_iff {s : State} {d : Drive} {ns : List Notice} (h : s.Advances d ns) :
    d.nip = .closed ↔ s.dc.nip = .closed := by
  rcases h.nip with ⟨hn, -⟩ | ⟨-, hn, hd⟩
  · rw [hn]
  · rw [hn, hd]
    decide

theorem nipCloseTest_starting {s : State} (hl : s.dc.line = .starting) :
    ∃ d, Becomes { s with dc := d } [] (nipCloseTest s) ∧ s.Advances d [] := by
  unfold nipCloseTest
  split
  next h =>
    obtain ⟨-, hn, -⟩ := h
    refine ⟨{ s.dc with nip := .closing, valve := .closing, nipTimer := some s.cfg.nipTravel }, ?_,
      ⟨.inl ⟨rfl, rfl⟩, rfl, rfl, .inr ⟨hl, hn, rfl⟩⟩⟩
    rw [nipCloseCommand, hn]
    exact (setNip_becomes (by simp [hn]) (by simp [hn])).setDc
      (fun d => { d with valve := .closing, nipTimer := some s.cfg.nipTravel })
  next => exact ⟨s.dc, Becomes.refl s, ⟨.inl ⟨rfl, rfl⟩, rfl, rfl, .inl ⟨rfl, rfl⟩⟩⟩

theorem refStage_starting {s : State} (hl : s.dc.line = .starting) (hidle : s.rasterIdle) :
    ∃ d ns, Becomes { s with dc := d } ns (refStage s) ∧ s.Advances d ns := by
  obtain ⟨d, hclose, had⟩ := nipCloseTest_starting (s := { s with dc := s.dc.steppedTo s.nextRef }) hl
  have hline : d.line = .starting := by
    rcases had.line with ⟨-, h⟩ | ⟨h, -⟩
    · exact h.trans hl
    · simp at h
  have hzero : ∀ {v : State}, v.dc.line = .starting ∨ v.dc.line = .running → speedZeroTest v = v := fun {v} hv =>
    speedZeroTest_stands fun ⟨_, n, h⟩ => by
      unfold State.stopsAt at h
      rcases hv with hv | hv <;> simp [hv] at h
  rw [refStage, stepRef_eq]
  by_cases hr : { s with dc := d }.runs
  · have hrun := hclose.runningTest_idle hidle hr
    refine ⟨{ d with line := .running, nipHold := 0 }, [.line], ?_, ⟨.inr ⟨rfl, hl, rfl⟩, had.stopKind, had.webs, had.nip⟩⟩
    rw [hzero (by rw [hrun.dc]; exact .inr rfl)]
    exact hrun
  · have hrun := hclose.runningTest_stands hr
    refine ⟨d, [], ?_, ⟨.inl ⟨rfl, hline.trans hl.symm⟩, had.stopKind, had.webs, had.nip⟩⟩
    rw [hzero (by rw [hrun.dc]; exact .inl hline)]
    exact hrun

/-- The first stage of a line that can make a fast stop, where the sample does not itself bring speed 0. -/
theorem refStage_advances {s : State} (hs : s.stoppable) (hidle : s.rasterIdle)
    (hz : s.dc.line = .stopping → s.dc.nip ≠ .opened ∨ s.dc.accel * 5 < s.dc.ref) :
    ∃ d ns, Becomes { s with dc := d } ns (refStage s) ∧ s.Advances d ns := by
  by_cases hl : s.dc.line = .starting
  · exact refStage_starting hl hidle
  · refine ⟨s.dc.steppedTo s.nextRef, [], ?_, ⟨.inl ⟨rfl, rfl⟩, rfl, rfl, .inl ⟨rfl, rfl⟩⟩⟩
    rw [refStage_steps hl]
    · exact Becomes.refl _
    · rintro ⟨href, n, hn⟩
      rcases hs with h | h | h | ⟨h, hk⟩
      · exact hl h
      · exact not_stopsAt_of_counts (.inl h) hn
      · exact not_stopsAt_of_counts (.inr h) hn
      · have hopen : s.dc.nip = .opened := by
          by_contra hno
          simp [State.stopsAt, h, hk, hno] at hn
        have hnext : s.nextRef = stepToward s.dc.ref 0 (s.dc.accel * 5) := by
          simp only [State.nextRef, h, hk, hopen, if_true]
        rw [hnext, stepToward_down (Nat.zero_le _)] at href
        have hlt := (hz h).resolve_left (not_not.2 hopen)
        omega

/-- The first stage of a line at rest, or in a stop short of its end. -/
theorem refStage_rests {s : State} (h : s.dc.line = .stopped ∨ s.dc.line = .tripped ∨ s.dc.line = .powerHeld ∨
    (((s.dc.line = .stopping ∧ s.dc.stopKind = .fast) ∨ s.dc.line = .powerStop) ∧ s.cfg.stopDecel * 5 < s.dc.ref)) :
    refStage s = { s with dc := s.dc.steppedTo s.nextRef } := by
  refine refStage_steps (by rcases h with h | h | h | ⟨⟨h, -⟩ | h, -⟩ <;> simp [h]) ?_
  rintro ⟨href, n, hn⟩
  rcases h with h | h | h | ⟨h, hlt⟩
  · simp [State.stopsAt, h] at hn
  · simp [State.stopsAt, h] at hn
  · simp [State.stopsAt, h] at hn
  · have hnext : s.nextRef = stepToward s.dc.ref 0 (s.cfg.stopDecel * 5) := by
      rcases h with ⟨h, hk⟩ | h
      · simp only [State.nextRef, h, hk]
      · simp only [State.nextRef, h]
    rw [hnext, stepToward_down (Nat.zero_le _)] at href
    omega

/-! ## The last stages with the loops' faults not counted (06 R128, R129) -/

/-- What stages 4 and 5 keep of a web whose runs are not counted. -/
def WebLoop.sameReading (w v : WebLoop) : Prop := v.inRange = w.inRange ∧ v.tension = w.tension ∧ v.run = 0

theorem loops_uncounted {s : State} (hc : s.dc.line.counts = false) : ∃ ws, countStage (loopStage s) = { s with dc.webs := ws } ∧
    ∀ id, (webOf s.dc.webs id).sameReading (webOf ws id) := by
  unfold loopStage
  split
  · exact ⟨_, rfl, fun id => by cases id <;> exact ⟨rfl, rfl, if_neg (by simp [hc])⟩⟩
  · exact ⟨_, rfl, fun id => by cases id <;> exact ⟨rfl, rfl, if_neg (by simp [hc])⟩⟩

theorem Becomes.sampleEnd {u y : State} {ns : List Notice} (h : Becomes u ns y) (hc : u.dc.line.counts = false) :
    ∃ ws, Becomes (driveOut { u with dc.webs := ws }) ns (driveOut (faultStage (countStage (loopStage y)))) ∧
      ∀ id, (webOf u.dc.webs id).sameReading (webOf ws id) := by
  obtain ⟨ws, he, hsame⟩ := loops_uncounted (s := y) (by rwa [h.dc])
  have hfault : faultStage { y with dc.webs := ws } = { y with dc.webs := ws } :=
    faultStage_stands fun id => by simp [Drive.runFaults, h.dc, hc]
  rw [h.dc] at hsame
  refine ⟨ws, ?_, hsame⟩
  rw [he, hfault]
  exact (h.setDc (fun d => { d with webs := ws })).map (F := driveOut) fun _ _ => rfl

/-! ## A cell out of range (06 R127, R130) -/

theorem cellBad_iff (c : LoadCell) : cellOk c = false ↔ c.fault = true ∨ c.count = 0 ∨ c.count = 0xFFFF := by
  rw [← Bool.not_eq_true, cellOk_iff]
  cases c.fault <;> simp [or_iff_not_imp_left]

theorem WebLoop.read_bad {c : LoadCell} (h : cellOk c = false) (on : Bool) (w : WebLoop) : w.read on c = { w with inRange := false } :=
  if_neg (by simp [h])

theorem webOf_readStage (cells : Webs LoadCell) (s : State) (id : WebId) : webOf (readStage cells s).dc.webs id =
    (webOf s.dc.webs id).read s.dc.line.moving (webOf cells id) := by cases id <;> rfl

theorem sensorStage_stops {s : State} {id : WebId} (hs : s.stoppable) (h : (webOf s.dc.webs id).inRange = false) :
    sensorStage s = fastStop (Machine.raise .tension s) := by
  refine if_pos ?_
  have hall : s.dc.webs.toList.all WebLoop.inRange = false := Bool.eq_false_iff.2 fun hall => by
    have hin : (webOf s.dc.webs id).inRange = true := (Webs.forall_mem s.dc.webs).1 (List.all_eq_true.1 hall) id
    simp [h] at hin
  rw [(canFastStop_iff s).2 hs, hall]
  rfl

theorem sensorStage_unstoppable {s : State} (hs : ¬s.stoppable) : sensorStage s = s :=
  if_neg (by simp [Bool.eq_false_iff.2 (mt (canFastStop_iff s).1 hs)])

theorem webOf_fastStopped (s : State) (id : WebId) : (webOf s.fastStopped.dc.webs id).inRange = (webOf s.dc.webs id).inRange ∧
    (webOf s.fastStopped.dc.webs id).tension = (webOf s.dc.webs id).tension := by
  rw [fastStopped_eq]
  dsimp only
  split
  · exact ⟨rfl, rfl⟩
  · cases id <;> exact ⟨rfl, rfl⟩

end Sys2Proof.Machine
end

section
/-! A tension sample that finds a cell out of range (06 R130): the fast stop it begins, and what it does where there is none to begin. -/

namespace Sys2Proof.Machine

/-- The causes of a sensor stop, where the sample itself may have entered RUNNING. -/
theorem State.Advances.causes {s u t : State} {d : Drive} {ns : List Notice} (h : s.Advances d ns)
    (hu : Becomes u (ns ++ [.tension] ++ { s with dc := d }.stopNotice) t) : Becomes u (.tension :: s.stopNotice) t := by
  rcases h.line with ⟨rfl, hl⟩ | ⟨rfl, hs, hl⟩
  · have hsame : { s with dc := d }.stopNotice = s.stopNotice := by simp [State.stopNotice, hl]
    rw [hsame] at hu
    exact hu
  · have hd : { s with dc := d }.stopNotice = [.line] := if_neg (by simp [hl])
    have hs' : s.stopNotice = [.line] := if_neg (by simp [hs])
    rw [hd] at hu
    rw [hs']
    refine hu.causes fun w => ?_
    have hcomm : ∀ a b : BitVec 10, w ||| a ||| b ||| a = w ||| b ||| a := fun a b => by
      rw [BitVec.or_assoc w a b, BitVec.or_comm a b, ← BitVec.or_assoc, BitVec.or_assoc _ a a, BitVec.or_self]
    exact hcomm _ _

section
variable {s : State} {d : Drive} {ns : List Notice} (h : s.Advances d ns)

include h

theorem State.Advances.fastStopped_bt : { s with dc := d }.fastStopped.bt = s.fastStopped.bt :=
  congrArg (fun track => { s.bt with track := track }) (if_congr h.closed_iff rfl rfl)

theorem State.Advances.fastStopped_nip (hn : s.dc.line ≠ .starting ∨ s.dc.nip ≠ .opened) :
    { s with dc := d }.fastStopped.dc.nip = s.fastStopped.dc.nip ∧ { s with dc := d }.fastStopped.dc.valve = s.fastStopped.dc.valve := by
  obtain ⟨hnip, hvalve⟩ := h.nip.resolve_right fun ⟨hl, ho, _⟩ => hn.elim (· hl) (· ho)
  simp only [State.fastStopped, hnip, hvalve, and_self]

theorem State.Advances.fastStopped_opened (hn : s.dc.nip = .opened) :
    { s with dc := d }.fastStopped.dc.nip = .opened ∨ { s with dc := d }.fastStopped.dc.nip = .opening := by
  rcases h.nip with ⟨hd, -⟩ | ⟨-, -, hd⟩
  · exact .inl (by simp [State.fastStopped, hd, hn])
  · exact .inr (by simp [State.fastStopped, hd])

end

section
variable {cells : Webs LoadCell} {id : WebId} {s : State} (hbad : cellOk (webOf cells id) = false)

include hbad

/-- The line can make a fast stop, and the sample does not itself bring speed 0. -/
theorem tensionSample_sensor (hs : s.stoppable) (hidle : s.rasterIdle)
    (hz : s.dc.line = .stopping → s.dc.nip ≠ .opened ∨ s.dc.accel * 5 < s.dc.ref) :
    ∃ d ns, s.Advances d ns ∧ ∃ ws,
      Becomes (driveOut { (readStage cells { s with dc := d }).fastStopped with dc.webs := ws }) (.tension :: s.stopNotice)
        (tensionSample cells s) ∧
      (webOf ws id).inRange = false ∧ (webOf ws id).tension = (webOf s.dc.webs id).tension ∧ (webOf ws id).run = 0 := by
  obtain ⟨d, ns, href, had⟩ := refStage_advances hs hidle hz
  let v := readStage cells { s with dc := d }
  have hread : Becomes v ns (readStage cells (refStage s)) := href.map (F := readStage cells) fun _ _ => rfl
  have hvs : v.stoppable := had.stoppable hs
  have hweb : webOf v.dc.webs id = { webOf s.dc.webs id with inRange := false } := by
    rw [webOf_readStage, WebLoop.read_bad hbad, had.webs]
  have hstop : Becomes v.fastStopped (ns ++ [.tension] ++ v.stopNotice) (sensorStage (readStage cells (refStage s))) := by
    rw [sensorStage_stops (id := id) (by simpa [State.stoppable, hread.dc] using hvs) (by rw [hread.dc, hweb])]
    exact (hread.raise .tension).fastStop_idle hidle hvs
  obtain ⟨ws, hend, hsame⟩ := hstop.sampleEnd rfl
  obtain ⟨hin, htension, hrun⟩ := hsame id
  obtain ⟨hin', htension'⟩ := webOf_fastStopped v id
  rw [hweb] at hin' htension'
  exact ⟨d, ns, had, ws, had.causes hend, hin.trans hin', htension.trans htension', hrun⟩

/-- The line is at rest, or in a stop that the sample does not end. -/
theorem tensionSample_rests (h : s.dc.line = .stopped ∨ s.dc.line = .tripped ∨ s.dc.line = .powerHeld ∨
    (((s.dc.line = .stopping ∧ s.dc.stopKind = .fast) ∨ s.dc.line = .powerStop) ∧ s.cfg.stopDecel * 5 < s.dc.ref)) :
    ∃ ws, Becomes (driveOut { s with dc := { s.dc.steppedTo s.nextRef with webs := ws } }) [] (tensionSample cells s) ∧
      (webOf ws id).inRange = false ∧ (webOf ws id).tension = (webOf s.dc.webs id).tension := by
  let v := readStage cells { s with dc := s.dc.steppedTo s.nextRef }
  have hvs : ¬v.stoppable := by
    show ¬s.stoppable
    unfold State.stoppable
    rcases h with h | h | h | ⟨⟨h, hk⟩ | h, -⟩ <;> simp [*]
  have hcounts : v.dc.line.counts = false :=
    Bool.eq_false_iff.2 fun hc => hvs (stoppable_of_counts ((LineState.counts_iff _).1 hc))
  have hweb : webOf v.dc.webs id = { webOf s.dc.webs id with inRange := false } := by
    rw [webOf_readStage, WebLoop.read_bad hbad]
    rfl
  obtain ⟨ws, hend, hsame⟩ := (Becomes.refl v).sampleEnd hcounts
  obtain ⟨hin, htension, -⟩ := hsame id
  rw [hweb] at hin htension
  refine ⟨ws, ?_, hin, htension⟩
  rw [tensionSample, refStage_rests h, sensorStage_unstoppable hvs]
  exact hend

end

end Sys2Proof.Machine
end

section
namespace Sys2Proof.Proofs

open Sys2Proof.Machine

/-- Settles O36: the sample's fast stop with its causes, or the reading alone. -/
theorem sensorFault : Obligations.SensorFault := by
  intro cells l id s hp hcell
  have hbad := (cellBad_iff _).2 hcell
  let x : State := { sampleLines l s with out := [] }
  refine ⟨fun hl hidle => ?_, fun hl => ?_⟩
  · have hs : s.stoppable := by
      rcases hl with h | h | h | ⟨h, hk, -⟩
      · exact .inl h
      · exact .inr (.inl h)
      · exact .inr (.inr (.inl h))
      · exact .inr (.inr (.inr ⟨h, hk⟩))
    have hz : s.dc.line = .stopping → s.dc.nip ≠ .opened ∨ s.dc.accel * 5 < s.dc.ref := fun hstop => by
      rcases hl with h | h | h | ⟨-, -, -, h⟩
      · exact absurd (h.symm.trans hstop) (by decide)
      · exact absurd (h.symm.trans hstop) (by decide)
      · exact absurd (h.symm.trans hstop) (by decide)
      · exact h
    obtain ⟨d, ns, had, ws, hsample, hin, htension, hrun⟩ := tensionSample_sensor (s := x) hbad hs hidle hz
    have hu := commandAt_becomes (f := tensionSample cells) hp hsample
    exact ⟨_, rfl, hu.after (frame_of_blocks (htr := .inl (by decide)) (hbt := .inl (by decide)) (hdc := .inl (by decide))), hu.2.1,
      hu.bt.trans had.fastStopped_bt, hu.tr, by rw [hu.dc]; rfl, by rw [hu.dc]; rfl,
      fun hn => by rw [hu.dc]; exact had.fastStopped_nip hn, fun hn => by rw [hu.dc]; exact had.fastStopped_opened hn,
      by rw [hu.dc]; exact hin, by rw [hu.dc]; exact htension, by rw [hu.dc]; exact hrun⟩
  · obtain ⟨ws, hsample, hin, htension⟩ := tensionSample_rests (s := x) hbad hl
    have hu := commandAt_becomes (f := tensionSample cells) hp hsample
    exact ⟨_, rfl, hu.after (frame_of_blocks (hdc := .inl (by decide))), hu.2.1, by rw [hu.dc]; rfl, by rw [hu.dc]; rfl,
      by rw [hu.dc]; rfl, by rw [hu.dc]; exact hin, by rw [hu.dc]; exact htension⟩

end Sys2Proof.Proofs
end

section
/-! A cause that stands in NOTICE stands on (10 R183), over the operations of a stop and of a soft reset: nothing of theirs clears one. -/

namespace Sys2Proof.Machine

/-- The cause stands in NOTICE. -/
def State.noticed (n : Notice) (s : State) : Prop := s.smp.notice.getLsbD n.bit = true

theorem noticed_raise (n : Notice) (s : State) : (raise n s).noticed n := by
  obtain ⟨-, -, -, -, -, -, hnotice, -⟩ := (raise_becomes n s).port
  rw [State.noticed, hnotice]
  exact raised_bit (.inl (List.mem_singleton.2 rfl))

theorem State.noticed.becomes {n : Notice} {u t : State} {ns : List Notice} (h : u.noticed n) (k : Becomes u ns t) : t.noticed n := by
  obtain ⟨-, -, -, -, -, -, hnotice, -⟩ := k.port
  rw [State.noticed, hnotice]
  exact raised_bit (.inr h)

section
variable {n : Notice} {s t : State} (h : s.noticed n)

include h

theorem State.noticed.same (hsame : t.smp.notice = s.smp.notice) : t.noticed n := by rwa [State.noticed, hsame]

theorem State.noticed.ite {c : Prop} {_ : Decidable c} (k : t.noticed n) : (if c then s else t).noticed n := by
  split
  · exact h
  · exact k

/-! ## The port and TR -/

theorem State.noticed.requestProgress : (requestProgress s).noticed n := h.becomes (requestProgress_becomes s)

theorem State.noticed.raiseIf (c : Bool) (m : Notice) : (raiseIf c m s).noticed n := h.becomes (raiseIf_becomes c m s)

theorem State.noticed.queueHeader (addr : Nat) (w : HeaderWrite) : (queueHeader addr w s).noticed n :=
  State.noticed.ite (h.same (by rfl)) (h.same (by rfl))

theorem State.noticed.queueSegmentHeader (addr : Nat) (notify : Bool) (st : TicketState) (status : Status) :
    (queueSegmentHeader addr notify st status s).noticed n := (State.noticed.ite (h.same (by rfl)) h).queueHeader _ _

theorem State.noticed.abandonTicketRead : (abandonTicketRead s).noticed n :=
  State.noticed.becomes (u := { s with smp := s.smp.readsCut }) h (abandonTicketRead_becomes s)

theorem State.noticed.finishTicket (st : TicketState) (status : Status) (d : Nat) : (finishTicket st status d s).noticed n := by
  unfold Machine.finishTicket
  cases s.tr.ticket with
  | none => exact h
  | some t => exact State.noticed.queueHeader (s := { s with tr.ticket := some { t with phase := .final } }) h _ _

theorem State.noticed.leaveHolding (addr : Nat) : (leaveHolding addr s).noticed n := by
  unfold Machine.leaveHolding
  cases s.tr.reader with
  | holding =>
    have habandon := State.noticed.abandonTicketRead (s := { s with tr.ticket := none }) h
    exact State.noticed.ite (h.same (by rfl)) (State.noticed.ite (habandon.same (by rfl)) (habandon.same (by rfl)))
  | stalled => exact State.noticed.ite (h.same (by rfl)) h
  | idle | reading | waiting | executing | paused => exact h

theorem State.noticed.settleStop : (settleStop s).noticed n := by
  unfold Machine.settleStop
  cases s.tr.ticket with
  | none => exact h
  | some t =>
    refine State.noticed.ite ?_ h
    cases s.dc.line with
    | stopped | tripped | powerStop | powerHeld => exact h.finishTicket _ _ _
    | starting | running | draining | stopping => exact h

/-! ## The end of a segment (01 R21, 02 R50) -/

theorem State.noticed.clearSegment : (clearSegment s).noticed n := by
  obtain ⟨p, k, m, hclear⟩ := clearSegment_polled s
  exact State.noticed.becomes (u := { s with re := s.re.cleared, tr := s.tr.polled p k m }) h hclear

theorem State.noticed.signalFinal (e : Tally) : (signalFinal e s).noticed n := by
  unfold Machine.signalFinal
  rw [autoCount_eq]
  exact State.noticed.queueSegmentHeader (h.same (by rfl)) _ _ _ _

theorem State.noticed.finalise (id : Nat) : (finalise id s).noticed n := by
  unfold Machine.finalise
  cases s.tallyOf id with
  | none => exact h
  | some e => exact h.ite (State.noticed.ite (h.same (by rfl)) (h.signalFinal e))

theorem State.noticed.printedReport (cause : EndCause) : (printedReport cause s).noticed n := by
  unfold Machine.printedReport
  cases s.re.seg with
  | none => exact h
  | some g =>
    have hleave := State.noticed.leaveHolding (s := Machine.modTally g.tally (Tally.reported cause) (Machine.clearSegment s))
      (h.clearSegment.same (by rfl)) g.addr
    dsimp only
    split
    · exact State.noticed.ite (hleave.finalise _) (hleave.queueSegmentHeader _ _ _ _)
    · exact hleave

theorem State.noticed.abortSegment : (abortSegment s).noticed n := by
  rw [abortSegment_eq]
  exact State.noticed.printedReport (h.same (by rfl)) _

/-! ## The line and the nip -/

theorem State.noticed.setLine (l : LineState) : (setLine l s).noticed n := by
  by_cases hl : s.dc.line = l
  · rwa [setLine_stands hl]
  · exact State.noticed.becomes (u := s.entering l) h (setLine_becomes hl)

theorem State.noticed.setNip (x : NipState) : (setNip x s).noticed n := by
  by_cases hx : s.dc.nip = x
  · rwa [Machine.setNip, if_pos hx]
  · exact State.noticed.becomes (u := s.nipEntering x) h (setNip_entering hx)

theorem State.noticed.nipOpenCommand : (nipOpenCommand s).noticed n :=
  State.noticed.becomes (u := s.nipOpens) h (nipOpenCommand_becomes s)

theorem State.noticed.tripDrum : (tripDrum s).noticed n :=
  State.noticed.becomes (u := { modZones Zone.cut s with hc.drum := .tripped }) h (setDrum_becomes_any _ _)

/-! ## Soft reset (10 R190) -/

theorem State.noticed.verifierSoftReset : (verifierSoftReset s).noticed n := State.noticed.raiseIf (h.same (by rfl)) _ _

theorem State.noticed.storeSoftReset : (storeSoftReset s).noticed n := by
  unfold Machine.storeSoftReset
  exact (h.becomes (dropGrant_becomes _ _ s)).same (by rfl)

theorem State.noticed.readerSoftReset : (readerSoftReset s).noticed n := h.abandonTicketRead.same (by rfl)

theorem State.noticed.heatSoftReset : (heatSoftReset s).noticed n := by
  obtain ⟨ns, hheat⟩ := heatSoftReset_becomes s
  exact State.noticed.becomes (u := { s with hc := s.hc.softReset }) h hheat

theorem State.noticed.nipFromSwitches : (nipFromSwitches s).noticed n :=
  State.noticed.ite ((h.setNip _).same (by rfl)) ((h.setNip _).same (by rfl))

theorem State.noticed.driveSoftReset : (driveSoftReset s).noticed n := by
  unfold Machine.driveSoftReset
  have hline := h.setLine (if s.pins.mainsOk then .stopped else .powerHeld)
  exact State.noticed.ite (hline.same (by rfl)) (State.noticed.nipFromSwitches (hline.same (by rfl)))

theorem State.noticed.softClose : (softClose s).noticed n := by
  obtain ⟨ns, hlast⟩ := softLast_becomes s
  have hlast : (softLast s).noticed n := State.noticed.becomes
    (u := { s with smp := { s.smp with soft := .settling }, tr := s.tr.softReset, mr := s.mr.softReset }) h hlast
  exact State.noticed.ite ((h.finishTicket _ _ _).ite (h.ite hlast)) h

theorem State.noticed.finaliseNext (k : Nat) : (finaliseNext k s).noticed n := by
  induction k generalizing s with
  | zero => exact h
  | succ k ih =>
    unfold Machine.finaliseNext
    cases s.bt.tallies with
    | nil => exact State.noticed.softClose (h.same (by rfl))
    | cons e rest => exact (ih (h.finalise e.id)).ite (h.finalise e.id)

theorem State.noticed.softWritten : (softWritten s).noticed n := by
  unfold Machine.softWritten
  refine h.ite ?_
  cases s.smp.soft with
  | writing => exact State.noticed.finaliseNext (s := { s with smp.soft := .finalising }) h _
  | closing => exact h.softClose
  | off | stopping | retiring | finalising | settling => exact h

theorem State.noticed.softReach : (softReach s).noticed n := by
  have hport : { s with smp.soft := .retiring }.noticed n := h
  have hblocks := hport.verifierSoftReset.storeSoftReset.readerSoftReset.clearSegment.heatSoftReset.driveSoftReset
  exact hblocks.ite (State.noticed.softWritten (hblocks.same (by rfl)))

end

end Sys2Proof.Machine
end

section
/-! Loss of mains (06 R121, 05 R101): the drum it trips, the power stop it begins, and where that leads at a reference of 0. -/

namespace Sys2Proof.Machine

/-! ## The drum (05 R95, R101) -/

/-- A TRIPPED drum with every duty and integral 0. -/
def Heat.down (h : Heat) : Prop := h.drum = .tripped ∧ ∀ z ∈ h.zones.toList, z.duty = 0 ∧ z.integral = 0

theorem tripDrum_down (s : State) : (tripDrum s).hc.down := by
  rw [tripDrum, (setDrum_becomes_any _ _).hc]
  refine ⟨rfl, fun z hz => ?_⟩
  obtain ⟨i, rfl⟩ := (Oct.mem_toList_iff _ _).1 hz
  rw [modZones_zones, Oct.get_map]
  exact ⟨rfl, rfl⟩

theorem tripDrum_becomes (s : State) : ∃ ns, Becomes { s with hc := (tripDrum s).hc } ns (tripDrum s) := by
  have htrip := setDrum_becomes_any .tripped (modZones Zone.cut s)
  have hhc : (tripDrum s).hc = { (modZones Zone.cut s).hc with drum := .tripped } := htrip.hc
  rw [hhc]
  exact ⟨_, htrip⟩

theorem Heat.down.softReset {h : Heat} (hd : h.down) : h.softReset.down := by
  obtain ⟨hdrum, -⟩ := id hd
  cases hr : h.retain with
  | true =>
    have hself : h.softReset = h := if_pos hr
    rwa [hself]
  | false =>
    obtain ⟨hdrum', hzones⟩ := heatSoftReset_off h hr
    refine ⟨hdrum'.trans (if_pos hdrum), fun z hz => ?_⟩
    obtain ⟨-, -, -, hduty, hintegral, -⟩ := hzones z hz
    exact ⟨hduty, hintegral⟩

theorem softReach_hc (s : State) : (softReach s).hc = s.hc.softReset := by
  have hheat : ∀ v : State, (heatSoftReset v).hc = v.hc.softReset := fun v => by
    obtain ⟨ns, h⟩ := heatSoftReset_becomes v
    exact h.hc
  unfold softReach
  dsimp only
  split <;> simp [hheat]

/-! ## Soft reset reached from a power stop (06 R137) -/

theorem driveSoftReset_line (s : State) : (driveSoftReset s).dc.line = s.pins.restLine := by
  have hline := setLine_line s.pins.restLine s
  unfold driveSoftReset
  rw [← Pins.restLine]
  generalize setLine s.pins.restLine s = u at hline
  dsimp only
  split
  · exact hline
  · simpa using hline

theorem softReach_line (s : State) : (softReach s).dc.line = s.pins.restLine := by
  unfold softReach
  dsimp only
  split <;> simp [driveSoftReset_line]

/-! ## The power stop (06 R121) -/

/-- The line in POWER_STOP, before its test for speed 0. -/
def State.powerStopping (s : State) : State :=
  requestProgress (settleStop (setLine .powerStop { nipOpenCommand (abortSegment s) with tr.pauseReq := true }))

section
variable {s : State}

theorem powerStop_stands (hl : s.dc.line = .powerStop ∨ s.dc.line = .powerHeld) : powerStop s = s := by
  rcases hl with hl | hl <;> rw [powerStop, hl]

theorem powerStop_stops (hl : s.dc.line ≠ .powerStop) (hl' : s.dc.line ≠ .powerHeld) :
    powerStop s = speedZeroTest s.powerStopping := by
  unfold powerStop
  cases h : s.dc.line with
  | powerStop => exact absurd h hl
  | powerHeld => exact absurd h hl'
  | stopped | starting | running | draining | stopping | tripped => rfl

theorem powerStopping_line (s : State) : s.powerStopping.dc.line = .powerStop := by
  simpa [State.powerStopping] using setLine_line .powerStop { nipOpenCommand (abortSegment s) with tr.pauseReq := true }

theorem powerStopping_dc (s : State) : s.powerStopping.dc.ref = s.dc.ref ∧ s.powerStopping.dc.nip = s.nipOpens.dc.nip ∧
    s.powerStopping.dc.valve = s.nipOpens.dc.valve := by
  have hopen : (nipOpenCommand (abortSegment s)).dc = (abortSegment s).nipOpens.dc := (nipOpenCommand_becomes _).dc
  simp [State.powerStopping, hopen, State.nipOpens]

theorem State.noticed.powerStopping {n : Notice} (h : s.noticed n) : s.powerStopping.noticed n :=
  (State.noticed.setLine (s := { Machine.nipOpenCommand (Machine.abortSegment s) with tr.pauseReq := true })
    (h.abortSegment.nipOpenCommand.same (by rfl)) _).settleStop.requestProgress

/-- Short of speed 0 the line stays in POWER_STOP. -/
theorem powerStopping_moves (hr : s.dc.ref ≠ 0) : speedZeroTest s.powerStopping = s.powerStopping := by
  obtain ⟨href, -⟩ := powerStopping_dc s
  exact speedZeroTest_stands fun ⟨h, _⟩ => hr (href ▸ h)

/-- At a reference of 0 the stop ends at once: in POWER_HELD, or where a soft reset in progress goes on. -/
theorem powerStopping_ends (hr : s.dc.ref = 0) (hm : s.pins.mainsOk = false) :
    speedZeroTest s.powerStopping = softReach (zeroLoops s.powerStopping) ∨
    speedZeroTest s.powerStopping = setLine .powerHeld (zeroLoops s.powerStopping) := by
  obtain ⟨href, -⟩ := powerStopping_dc s
  have hline := powerStopping_line s
  have hmains : s.powerStopping.pins.mainsOk = false := by simpa [State.powerStopping] using hm
  have hstop : s.powerStopping.stopsAt .powerHeld := .inr (.inr (.inr ⟨hline, hmains, rfl⟩))
  rw [speedZeroTest, if_pos ((atSpeedZero_iff _).2 ⟨href.trans hr, _, hstop⟩), speedZero]
  by_cases hsoft : (zeroLoops s.powerStopping).smp.soft = .stopping
  · exact .inl (if_pos hsoft)
  · refine .inr ((if_neg hsoft).trans ?_)
    rw [show (zeroLoops s.powerStopping).dc.line = .powerStop from hline]
    exact if_neg (by simpa using hmains)

/-- What every loss of mains leaves of the drum and of NOTICE. -/
theorem powerStop_keeps {n : Notice} (hm : s.pins.mainsOk = false) (hd : s.hc.down) (hn : s.noticed n) :
    (powerStop s).hc.down ∧ (powerStop s).noticed n := by
  by_cases hl : s.dc.line = .powerStop ∨ s.dc.line = .powerHeld
  · rw [powerStop_stands hl]
    exact ⟨hd, hn⟩
  · obtain ⟨hl1, hl2⟩ := not_or.1 hl
    have hdown : s.powerStopping.hc.down := by simpa [State.powerStopping] using hd
    have hnotice : s.powerStopping.noticed n := hn.powerStopping
    have hzero : (zeroLoops s.powerStopping).noticed n := hnotice
    rw [powerStop_stops hl1 hl2]
    by_cases hr : s.dc.ref = 0
    · rcases powerStopping_ends hr hm with he | he <;> rw [he]
      · rw [softReach_hc]
        exact ⟨hdown.softReset, hzero.softReach⟩
      · exact ⟨by simpa using hdown, hzero.setLine _⟩
    · rw [powerStopping_moves hr]
      exact ⟨hdown, hnotice⟩

/-- A line at speed 0 is in POWER_HELD at once. -/
theorem powerStop_held (hl : s.dc.line ≠ .powerStop) (hl' : s.dc.line ≠ .powerHeld) (hr : s.dc.ref = 0)
    (hm : s.pins.mainsOk = false) : (powerStop s).dc.line = .powerHeld := by
  rw [powerStop_stops hl hl']
  rcases powerStopping_ends hr hm with he | he <;> rw [he]
  · rw [softReach_line, Pins.restLine, if_neg (by simpa [State.powerStopping] using hm)]
  · exact setLine_line ..

end

/-! ## With a segment TAKEN (02 R49, R50) -/

theorem powerStopping_report {g : Segment} {e : Tally} {s : State} (h : SegmentHeld g e s) (hl : s.dc.line ≠ .powerStop) :
    PrintedReport g .abortedTrip { s with bt.track := s.cutTrack }.fastStopped.bt.track s s.powerStopping := by
  obtain ⟨p, n, m, habort⟩ := abortSegment_held h
  have hline := (habort.nipOpenCommand.setTr (fun r => { r with pauseReq := true })).setLine (l := .powerStop) hl
  have hsettle : settleStop (setLine .powerStop { nipOpenCommand (abortSegment s) with tr.pauseReq := true }) =
      setLine .powerStop { nipOpenCommand (abortSegment s) with tr.pauseReq := true } := by
    obtain ⟨-, -, -, -, ht, -⟩ := h
    exact settleStop_none (by rw [hline.tr]; exact ht)
  rw [State.powerStopping, hsettle]
  exact (h.report .abortedTrip p n m _ true _ s.out).becomes (hline.trans (requestProgress_becomes _))

/-- A report is one from any state that differs in the causes and the arbiter's moves. -/
theorem PrintedReport.of_becomes {g : Segment} {cause : EndCause} {track : List Band} {u s t : State} {ns : List Notice}
    (h : PrintedReport g cause track s t) (k : Becomes u ns s) : PrintedReport g cause track u t := by
  simpa only [PrintedReport, k.re, k.bt, k.tr, k.copies, k.writes] using h

/-! ## The loss and the return of mains (06 R121, 10 R189) -/

/-- POWER raised and the drum tripped, before the power stop. -/
def State.mainsDown (s : State) : State := tripDrum (raise .power { s with pins.mainsOk := false })

theorem mainsLoss_eq (s : State) : mainsLoss s = powerStop s.mainsDown := rfl

theorem mainsDown_becomes (s : State) : ∃ h ns, h.down ∧ Becomes { s with pins.mainsOk := false, hc := h } ns s.mainsDown := by
  obtain ⟨ns, htrip⟩ := tripDrum_becomes (raise .power { s with pins.mainsOk := false })
  have hraise := (raise_becomes .power { s with pins.mainsOk := false }).setHc (fun _ => s.mainsDown.hc)
  exact ⟨_, _, tripDrum_down _, hraise.trans htrip⟩

theorem mainsDown_noticed (s : State) : s.mainsDown.noticed .power :=
  State.noticed.tripDrum (noticed_raise .power { s with pins.mainsOk := false })

theorem mainsReturn_held {s : State} (hl : s.dc.line = .powerHeld) (ht : s.tr.ticket = none) :
    Becomes ({ s with pins.mainsOk := true }.entering .tripped) [.power, .line] (mainsReturn s) := by
  have hraise := raise_becomes .power { s with pins.mainsOk := true }
  have he : mainsReturn s = enterTripped (raise .power { s with pins.mainsOk := true }) := if_pos hl
  rw [he]
  exact (hraise.map (F := State.entering .tripped) fun _ _ => rfl).trans
    (enterTripped_becomes ht (by rw [hraise.dc]; simp [hl]))

theorem mainsReturn_stands {s : State} (hl : s.dc.line ≠ .powerHeld) :
    Becomes { s with pins.mainsOk := true } [.power] (mainsReturn s) := by
  have he : mainsReturn s = raise .power { s with pins.mainsOk := true } := if_neg hl
  rw [he]
  exact raise_becomes .power _

end Sys2Proof.Machine
end

section
namespace Sys2Proof.Proofs

open Sys2Proof.Machine

/-- Settles O13: the drum is tripped, then the power stop by the line state; the return of mains moves a POWER_HELD line. -/
theorem mainsOk : Obligations.MainsOk := by
  intro s hp
  let x : State := { s with out := [] }
  have hloss : exec .mainsOkLoss s = .next (kick (powerStop x.mainsDown)) := by
    rw [← mainsLoss_eq]
    exact congrArg Host.Outcome.next ((if_pos hp).trans (command_eq hp mainsLoss))
  have hreturn : exec .mainsOkReturn s = .next (command mainsReturn s) := congrArg Host.Outcome.next (if_pos hp)
  refine ⟨⟨_, hloss, ?_⟩, fun hl ht => ⟨_, hreturn, command_becomes hp (mainsReturn_held (s := x) hl ht)⟩,
    fun hl => ⟨_, hreturn, command_becomes hp (mainsReturn_stands (s := x) hl)⟩⟩
  obtain ⟨h, ns, hdown, hz⟩ := mainsDown_becomes x
  have hnotice := mainsDown_noticed x
  generalize x.mainsDown = z at hz hnotice ⊢
  have hkick := kick_becomes (powerStop z)
  have hmains : z.pins.mainsOk = false := by rw [hz.pins]
  have hdc : z.dc = s.dc := hz.dc
  obtain ⟨hdrum, hstands⟩ := powerStop_keeps hmains (by rw [hz.hc]; exact hdown) hnotice
  obtain ⟨-, -, -, -, hpend, hregs, -⟩ := hz.frame
  have hregs' : SameRegisters z (powerStop z) := by simp [SameRegisters]
  obtain ⟨-, -, -, -, -, hregs'', -⟩ := hkick.frame
  obtain ⟨htripped, hzones⟩ := hdrum
  refine ⟨by rw [hkick.pins]; simpa using hz.pins, (SameRegisters.trans hregs hregs').trans hregs'', ?_, ?_,
    by rw [hkick.hc]; exact htripped, by rw [hkick.hc]; exact hzones, hstands.becomes hkick, fun hl hl' hr => ?_, fun hl hl' hr => ?_,
    fun hl => ?_, fun g e hl hl' hr hheld => ?_⟩
  · obtain ⟨-, -, -, -, hpend', -⟩ := hkick.frame
    rw [hpend']
    simpa using hpend
  · rw [hkick.ps]
    simpa using congrArg Store.slots hz.ps
  · rw [← hdc] at hl hl' hr
    rw [hkick.dc, hkick.tr, powerStop_stops hl hl', powerStopping_moves hr]
    obtain ⟨-, hnip, hvalve⟩ := powerStopping_dc z
    refine ⟨powerStopping_line z, by simp [State.powerStopping], fun hn => ?_⟩
    rw [hnip, hvalve, ← hdc] at *
    exact ⟨if_pos hn, if_pos hn⟩
  · rw [← hdc] at hl hl' hr
    rw [hkick.dc]
    exact powerStop_held hl hl' hr hmains
  · rw [← hdc] at hl
    rw [hkick.dc, powerStop_stands hl, hdc]
  · rw [← hdc] at hl hl' hr
    have hheld' : SegmentHeld g e z := by simpa only [SegmentHeld, hz.re, hz.bt, hz.tr] using hheld
    have hreport := (powerStopping_report hheld' hl).of_becomes hz
    rw [powerStop_stops hl hl', powerStopping_moves hr] at hkick ⊢
    have htrack : { z with bt.track := z.cutTrack }.fastStopped.bt.track = { s with bt.track := s.cutTrack }.fastStopped.bt.track := by
      simp only [State.fastStopped, State.cutTrack, hz.re, hz.bt, hdc]
      rfl
    rw [htrack] at hreport
    exact hreport.becomes hkick

end Sys2Proof.Proofs
end

section
/-! Outcomes of a mark and the lock machine (07 R139 to R148): what each does to the Mark Reader and to the band records, the causes it
raises, and which outcome a read or a window end comes to. -/

namespace Sys2Proof.Machine

/-! ## The Mark Reader after an outcome (07 R145, R146, R148) -/

/-- The found run reaches 3 with the next FOUND, in SEARCH or LOST. -/
abbrev Marks.acquires (m : Marks) : Prop := m.lock ≠ .locked ∧ 2 ≤ m.found

/-- The miss run reaches 4 with the next MISMATCH or MISSED, in LOCKED. -/
abbrev Marks.loses (m : Marks) : Prop := m.lock = .locked ∧ 3 ≤ m.miss

/-- The Mark Reader with the state of its lock changed, both runs 0. -/
def Marks.enter (l : LockState) (m : Marks) : Marks := { m with lock := l, found := 0, miss := 0 }

/-- The Mark Reader once a FOUND has been counted. -/
def Marks.countedFound (m : Marks) : Marks :=
  { m with lock := if m.acquires then .locked else m.lock, found := if m.acquires then 0 else min 3 (m.found + 1), miss := 0 }

/-- The Mark Reader once a MISMATCH or MISSED has been counted. -/
def Marks.countedMiss (m : Marks) : Marks :=
  { m with lock := if m.loses then .lost else m.lock, found := 0, miss := if m.loses then 0 else min 4 (m.miss + 1) }

/-- The Mark Reader once a fault has been counted as a mark error, unless the source is `no`. -/
def Marks.countedError (no source : CounterSource) (m : Marks) : Marks :=
  { m with errors := if source = no then m.errors else min 65535 (m.errors + 1) }

/-- The notice of that count. -/
def Marks.errorNotes (no source : CounterSource) (m : Marks) : List Notice :=
  if source ≠ no ∧ m.errors = 65534 then [.counter] else []

/-- The Mark Reader once a FOUND's error has been taken for C_cur, which only LOCKED does. -/
def Marks.corrected (e : Int) (m : Marks) : Marks := { m with ccur := if m.lock = .locked then e else m.ccur }

theorem countedFound_of_acquires {m : Marks} (h : m.acquires) : m.countedFound = m.enter .locked := by
  rw [Marks.countedFound, if_pos h, if_pos h]
  rfl

theorem countedFound_of_not_acquires {m : Marks} (h : ¬m.acquires) :
    m.countedFound = { m with found := min 3 (m.found + 1), miss := 0 } := by
  rw [Marks.countedFound, if_neg h, if_neg h]

theorem countedMiss_of_loses {m : Marks} (h : m.loses) : m.countedMiss = m.enter .lost := by
  rw [Marks.countedMiss, if_pos h, if_pos h]
  rfl

theorem countedMiss_of_not_loses {m : Marks} (h : ¬m.loses) :
    m.countedMiss = { m with found := 0, miss := min 4 (m.miss + 1) } := by
  rw [Marks.countedMiss, if_neg h, if_neg h]

/-- A miss neither leaves SEARCH nor leads to it, so that the width of the windows stays. -/
theorem countedMiss_lock_search (m : Marks) : m.countedMiss.lock = .search ↔ m.lock = .search := by
  by_cases h : m.loses
  · simp [countedMiss_of_loses h, Marks.enter, h.1]
  · rw [countedMiss_of_not_loses h]

theorem countedMiss_lock_locked (m : Marks) : m.countedMiss.lock = .locked ↔ m.lock = .locked ∧ ¬m.loses := by
  by_cases h : m.loses
  · exact iff_of_false (by simp [countedMiss_of_loses h, Marks.enter]) fun hc => hc.2 h
  · rw [countedMiss_of_not_loses h]
    exact (and_iff_left h).symm

theorem countedFound_lock_locked (m : Marks) : m.countedFound.lock = .locked ↔ m.acquires ∨ m.lock = .locked := by
  by_cases h : m.acquires
  · exact iff_of_true (by rw [countedFound_of_acquires h]; rfl) (.inl h)
  · rw [countedFound_of_not_acquires h]
    exact (or_iff_right h).symm

theorem corrected_countedFound (m : Marks) (e : Int) : m.countedFound.corrected e =
    { m.countedFound with ccur := if m.acquires ∨ m.lock = .locked then e else m.ccur } :=
  congrArg (fun c => { m.countedFound with ccur := c }) (if_congr (countedFound_lock_locked m) rfl rfl)

/-- A FOUND that begins a found run acquires no lock. -/
theorem countedFound_of_found_zero {m : Marks} (h : m.found = 0) : m.countedFound = { m with found := 1, miss := 0 } := by
  rw [countedFound_of_not_acquires (fun hc => absurd hc.2 (by omega)), h]
  rfl

/-- The Mark Reader after a miss and a FOUND of one read. -/
theorem corrected_countedFound_of_miss (no source : CounterSource) (m : Marks) (r : Option LastRead) (e : Int) :
    ({ m.countedMiss.countedError no source with lastRead := r } : Marks).countedFound.corrected e =
      { m.countedMiss.countedError no source with
        found := 1, miss := 0, ccur := if m.lock = .locked ∧ ¬m.loses then e else m.ccur, lastRead := r } := by
  rw [countedFound_of_found_zero rfl]
  exact congrArg (fun c => { m.countedMiss.countedError no source with found := 1, miss := 0, ccur := c, lastRead := r })
    (if_congr (countedMiss_lock_locked m) rfl rfl)

theorem countedError_errors_le (no source : CounterSource) {m : Marks} (he : m.errors ≤ 65535) :
    (m.countedError no source).errors ≤ 65535 := by
  unfold Marks.countedError
  dsimp only
  split
  · exact he
  · exact min_le_left _ _

/-- A miss and a stray, counted one after the other. -/
theorem countedError_mismatch_missed (source : CounterSource) (m : Marks) (he : m.errors ≤ 65535) :
    (m.countedError .mismatch source).countedError .missed source = { m with errors := min 65535 (m.errors +
      ((if source = .mismatch then 0 else 1) + if source = .missed then 0 else 1)) } := by
  cases source <;> simp only [Marks.countedError, reduceCtorEq, if_true, if_false, Marks.mk.injEq, true_and, and_true]
  all_goals omega

/-- Of the two counts at most one raises COUNTER. -/
theorem errorNotes_mismatch_missed (source : CounterSource) (m : Marks) :
    m.errorNotes .mismatch source ++ (m.countedError .mismatch source).errorNotes .missed source =
      if m.errors < 65535 ∧ 65535 ≤ m.errors + ((if source = .mismatch then 0 else 1) + if source = .missed then 0 else 1)
      then [.counter] else [] := by
  cases source
  case missed =>
    have hiff : m.errors = 65534 ↔ m.errors < 65535 ∧ 65535 ≤ m.errors + 1 := by omega
    simp [Marks.errorNotes, hiff]
  case mismatch =>
    have hiff : m.errors = 65534 ↔ m.errors < 65535 ∧ 65535 ≤ m.errors + 1 := by omega
    simp [Marks.errorNotes, Marks.countedError, hiff]
  case both =>
    by_cases h4 : m.errors = 65534
    · simp [Marks.errorNotes, Marks.countedError, h4]
    · have hiff : min 65535 (m.errors + 1) = 65534 ↔ m.errors < 65535 ∧ 65535 ≤ m.errors + (1 + 1) := by omega
      simp [Marks.errorNotes, Marks.countedError, h4, hiff]

theorem missed?_iff (source : CounterSource) : source.missed? = true ↔ source ≠ .mismatch := by
  cases source <;> simp [CounterSource.missed?]

theorem mismatch?_iff (source : CounterSource) : source.mismatch? = true ↔ source ≠ .missed := by
  cases source <;> simp [CounterSource.mismatch?]

/-! ## Band records (01 R2, 07 R141 to R143) -/

/-- A band record whose mark is resolved with a correction and, where one is set, a flag. -/
def Band.marked (c : Int) (flag : Option Flag) (b : Band) : Band :=
  match flag with
  | some f => { b.flag f with c := some c }
  | none => { b with c := some c }

theorem marked_c (c : Int) (flag : Option Flag) (b : Band) : (b.marked c flag).c = some c := by cases flag <;> rfl

/-- The track once the mark of the band with a number is resolved; what is resolved stays. -/
def markTrack (n : Nat) (c : Int) (flag : Option Flag) (bs : List Band) : List Band :=
  bs.map (fun b => if b.number = n ∧ b.c = none then b.marked c flag else b)

theorem resolveMark_eq (n : Nat) (c : Int) (flag : Option Flag) (s : State) :
    resolveMark n c flag s = { s with bt.track := markTrack n c flag s.bt.track } := by
  refine congrArg (fun bs => { s with bt.track := bs }) (List.map_congr_left fun b _ => ?_)
  cases hc : b.c with
  | none =>
    dsimp only
    rw [hc, if_congr (and_iff_left rfl) rfl rfl]
    rfl
  | some c' =>
    dsimp only
    rw [hc, if_neg (fun h : _ ∧ some c' = none => nomatch h.2)]
    exact ite_self b

section
variable {n : Nat} {bs : List Band} (hu : ∀ b ∈ bs, b.c = none → b.number = n) (c : Int) (flag : Option Flag)
include hu

theorem markTrack_unresolved : markTrack n c flag bs = bs.map (fun b => if b.c = none then b.marked c flag else b) :=
  List.map_congr_left fun b hb => if_congr (and_iff_right_of_imp (hu b hb)) rfl rfl

theorem markTrack_resolves : ∀ b ∈ markTrack n c flag bs, b.c ≠ none := by
  rw [markTrack_unresolved hu]
  intro b hb
  obtain ⟨a, -, rfl⟩ := List.mem_map.1 hb
  split
  · simp [marked_c]
  · assumption

end

/-- The mark of the first of two bands is resolved, the second's is not. -/
theorem markTrack_first {b r : Band} (hc : b.c = none) (hn : b.number ≠ r.number) (c : Int) (flag : Option Flag) :
    markTrack b.number c flag [b, r] = [b.marked c flag, r] := by simp [markTrack, hc, hn.symm]

/-- The mark of the second of two bands is resolved, the first's is. -/
theorem markTrack_second {a r : Band} (ha : a.c ≠ none) (hc : r.c = none) (c : Int) (flag : Option Flag) :
    markTrack r.number c flag [a, r] = [a, r.marked c flag] := by simp [markTrack, ha, hc]

theorem markTrack_single {b : Band} (hc : b.c = none) (c : Int) (flag : Option Flag) :
    markTrack b.number c flag [b] = [b.marked c flag] := by simp [markTrack, hc]

/-! ## Tests and outcomes of the lock machine -/

theorem setLock_becomes (l : LockState) (s : State) :
    Becomes { s with mr := s.mr.enter l } (if s.cfg.lockEdge = .both ∨ l = .lost then [.lock] else []) (setLock l s) := by
  have h := (requestProgress_becomes { s with mr := s.mr.enter l }).trans (raiseIf_becomes (s.cfg.lockEdge == .both || l == .lost) .lock _)
  simp only [List.nil_append, Bool.or_eq_true, beq_iff_eq] at h
  exact h

theorem lockAcquireTest_acquires {s : State} (hl : s.mr.lock ≠ .locked) (hf : 3 ≤ s.mr.found) :
    Becomes { s with mr := s.mr.enter .locked } (if s.cfg.lockEdge = .both then [.lock] else []) (lockAcquireTest s) := by
  have ht : lockAcquireTest s = setLock .locked s := if_pos ⟨hl, hf⟩
  simpa [ht] using setLock_becomes .locked s

theorem lockLoseTest_loses {s : State} (hl : s.mr.lock = .locked) (hm : 4 ≤ s.mr.miss) :
    Becomes { s with mr := s.mr.enter .lost } [.lock] (lockLoseTest s) := by
  have ht : lockLoseTest s = setLock .lost s := if_pos ⟨hl, hm⟩
  simpa [ht] using setLock_becomes .lost s

theorem countFound_becomes (s : State) :
    Becomes { s with mr := s.mr.countedFound } (if s.mr.acquires ∧ s.cfg.lockEdge = .both then [.lock] else []) (countFound s) := by
  by_cases h : s.mr.acquires
  · have hrun : 3 ≤ min 3 (s.mr.found + 1) := by omega
    have ht := lockAcquireTest_acquires (s := { s with mr.found := min 3 (s.mr.found + 1), mr.miss := 0 }) h.1 hrun
    rw [countedFound_of_acquires h, if_congr (and_iff_right h) rfl rfl]
    exact ht
  · have hrun : ¬(s.mr.lock ≠ .locked ∧ 3 ≤ min 3 (s.mr.found + 1)) := fun hc => h ⟨hc.1, by omega⟩
    have ht : countFound s = { s with mr.found := min 3 (s.mr.found + 1), mr.miss := 0 } := if_neg hrun
    rw [countedFound_of_not_acquires h, ht, if_neg (fun hc => h hc.1)]
    exact Becomes.refl _

theorem countMiss_becomes (s : State) :
    Becomes { s with mr := s.mr.countedMiss } (if s.mr.loses then [.lock] else []) (countMiss s) := by
  by_cases h : s.mr.loses
  · have hrun : 4 ≤ min 4 (s.mr.miss + 1) := by omega
    have ht := lockLoseTest_loses (s := { s with mr.miss := min 4 (s.mr.miss + 1), mr.found := 0 }) h.1 hrun
    rw [countedMiss_of_loses h, if_pos h]
    exact ht
  · have hrun : ¬(s.mr.lock = .locked ∧ 4 ≤ min 4 (s.mr.miss + 1)) := fun hc => h ⟨hc.1, by omega⟩
    have ht : countMiss s = { s with mr.miss := min 4 (s.mr.miss + 1), mr.found := 0 } := if_neg hrun
    rw [countedMiss_of_not_loses h, ht, if_neg h]
    exact Becomes.refl _

theorem addError_becomes {s : State} (he : s.mr.errors ≤ 65535) :
    Becomes { s with mr.errors := min 65535 (s.mr.errors + 1) } (if s.mr.errors = 65534 then [.counter] else []) (addError s) := by
  by_cases hlt : s.mr.errors < 65535
  · have ht : addError s = raiseIf (s.mr.errors + 1 == 65535) .counter { s with mr.errors := s.mr.errors + 1 } := if_pos hlt
    have h := raiseIf_becomes (s.mr.errors + 1 == 65535) .counter { s with mr.errors := s.mr.errors + 1 }
    simp only [beq_iff_eq, Nat.reduceEqDiff] at h
    rw [ht, min_eq_right (by omega)]
    exact h
  · have ht : addError s = s := if_neg hlt
    have hfull : min 65535 (s.mr.errors + 1) = s.mr.errors := by omega
    rw [ht, hfull, if_neg (by omega)]
    exact Becomes.refl s

theorem addErrorIf_becomes {c : Bool} {no : CounterSource} {s : State} (hc : c = true ↔ s.cfg.counterSource ≠ no)
    (he : s.mr.errors ≤ 65535) :
    Becomes { s with mr := s.mr.countedError no s.cfg.counterSource } (s.mr.errorNotes no s.cfg.counterSource) (addErrorIf c s) := by
  unfold Marks.countedError Marks.errorNotes
  by_cases hno : s.cfg.counterSource = no
  · have ht : addErrorIf c s = s := if_neg fun h => hc.1 h hno
    rw [ht, if_pos hno, if_neg (fun h => h.1 hno)]
    exact Becomes.refl s
  · have ht : addErrorIf c s = addError s := if_pos (hc.2 hno)
    rw [ht, if_neg hno, if_congr (and_iff_right hno) rfl rfl]
    exact addError_becomes he

/-! ## Outcomes, after what has moved nothing but the port -/

section
variable {u t : State} {ns : List Notice} (h : Becomes u ns t)
include h

theorem Becomes.countFound : Becomes { u with mr := u.mr.countedFound }
    (ns ++ if u.mr.acquires ∧ u.cfg.lockEdge = .both then [.lock] else []) (countFound t) := by
  have ht := (h.setMr Marks.countedFound).trans (countFound_becomes t)
  rwa [h.mr, h.cfg] at ht

theorem Becomes.countMiss : Becomes { u with mr := u.mr.countedMiss } (ns ++ if u.mr.loses then [.lock] else []) (countMiss t) := by
  have ht := (h.setMr Marks.countedMiss).trans (countMiss_becomes t)
  rwa [h.mr] at ht

theorem Becomes.addErrorIf {c : Bool} {no : CounterSource} (hc : c = true ↔ u.cfg.counterSource ≠ no) (he : u.mr.errors ≤ 65535) :
    Becomes { u with mr := u.mr.countedError no u.cfg.counterSource } (ns ++ u.mr.errorNotes no u.cfg.counterSource)
      (addErrorIf c t) := by
  have ht := (h.setMr (Marks.countedError no t.cfg.counterSource)).trans
    (addErrorIf_becomes (s := t) (by rw [h.cfg]; exact hc) (by rw [h.mr]; exact he))
  rwa [h.mr, h.cfg] at ht

theorem Becomes.resolveMark (n : Nat) (c : Int) (flag : Option Flag) :
    Becomes { u with bt.track := markTrack n c flag u.bt.track } ns (resolveMark n c flag t) := by
  rw [resolveMark_eq]
  exact h.setBt fun x => { x with track := markTrack n c flag x.track }

theorem Becomes.takeCorrection (e : Int) : Becomes { u with mr := u.mr.corrected e } ns (takeCorrection e t) := by
  have ht : Machine.takeCorrection e t = { t with mr := t.mr.corrected e } := by
    unfold Machine.takeCorrection Marks.corrected
    split <;> rfl
  rw [ht]
  exact h.setMr (Marks.corrected e)

/-- A MISSED outcome (07 R143). -/
theorem Becomes.markMissed (b : Band) (he : u.mr.errors ≤ 65535) :
    Becomes { u with bt.track := markTrack b.number u.mr.ccur (some .markMissed) u.bt.track,
                     mr := u.mr.countedMiss.countedError .mismatch u.cfg.counterSource }
      (ns ++ (if u.mr.loses then [.lock] else []) ++ u.mr.errorNotes .mismatch u.cfg.counterSource) (markMissed b t) := by
  have hcount := (h.resolveMark b.number u.mr.ccur (some .markMissed)).countMiss
  have ht := hcount.addErrorIf (missed?_iff _) he
  rw [Machine.markMissed, h.mr, h.cfg]
  exact ht

/-- A stray (07 R144). -/
theorem Becomes.markStray (he : u.mr.errors ≤ 65535) :
    Becomes { u with mr := ({ u.mr with strays := min 4294967295 (u.mr.strays + 1) } : Marks).countedError .missed u.cfg.counterSource }
      (ns ++ u.mr.errorNotes .missed u.cfg.counterSource) (markStray t) := by
  have hcounts : t.cfg.counterSource.mismatch? = true ↔ u.cfg.counterSource ≠ .missed := by rw [h.cfg]; exact mismatch?_iff _
  exact (h.setMr fun m => { m with strays := min 4294967295 (m.strays + 1) }).addErrorIf hcounts he

/-- A MISSED outcome and a stray, of one read. -/
theorem Becomes.markMissed_stray (b : Band) (he : u.mr.errors ≤ 65535) :
    let n := (if u.cfg.counterSource = .mismatch then 0 else 1) + if u.cfg.counterSource = .missed then 0 else 1
    Becomes { u with bt.track := markTrack b.number u.mr.ccur (some .markMissed) u.bt.track,
                     mr := { u.mr.countedMiss with
                       strays := min 4294967295 (u.mr.strays + 1), errors := min 65535 (u.mr.errors + n) } }
      (ns ++ ((if u.mr.loses then [.lock] else []) ++
        if u.mr.errors < 65535 ∧ 65535 ≤ u.mr.errors + n then [.counter] else [])) (Machine.markStray (Machine.markMissed b t)) := by
  intro n
  have hstray := (h.markMissed b he).markStray (countedError_errors_le _ _ he)
  have hmr := countedError_mismatch_missed u.cfg.counterSource
    { u.mr.countedMiss with strays := min 4294967295 (u.mr.strays + 1) } he
  have hnotes := errorNotes_mismatch_missed u.cfg.counterSource u.mr
  rw [List.append_assoc, List.append_assoc] at hstray
  rw [← hnotes]
  exact hmr ▸ hstray

/-- A MISMATCH outcome (07 R142). -/
theorem Becomes.markMismatch (b : Band) (he : u.mr.errors ≤ 65535) :
    Becomes { u with bt.track := markTrack b.number u.mr.ccur (some .markMismatch) u.bt.track,
                     mr := ({ u.mr with lastRead := some ⟨b.number, b.markAt u.cfg⟩ } : Marks).countedMiss.countedError .missed
                       u.cfg.counterSource }
      (ns ++ (if u.mr.loses then [.lock] else []) ++ u.mr.errorNotes .missed u.cfg.counterSource) (markMismatch b t) := by
  have hread := (h.resolveMark b.number u.mr.ccur (some .markMismatch)).setMr
    fun m => { m with lastRead := some ⟨b.number, b.markAt u.cfg⟩ }
  have ht := hread.countMiss.addErrorIf (mismatch?_iff _) he
  rw [Machine.markMismatch, h.mr, h.cfg]
  exact ht

/-- A FOUND outcome of the one unresolved band (07 R141, R146): no window is left to close. -/
theorem Becomes.markFound {b : Band} (hu : ∀ r ∈ u.bt.track, r.c = none → r.number = b.number) (position : Nat) :
    Becomes { u with bt.track := markTrack b.number (markError u.cfg (b.markAt u.cfg) position) none u.bt.track,
                     mr := (({ u.mr with lastRead := some ⟨b.number, b.markAt u.cfg⟩ } : Marks).countedFound).corrected
                       (markError u.cfg (b.markAt u.cfg) position) }
      (ns ++ if u.mr.acquires ∧ u.cfg.lockEdge = .both then [.lock] else []) (markFound b position t) := by
  have hread := (h.resolveMark b.number (markError u.cfg (b.markAt u.cfg) position) none).setMr
    fun m => { m with lastRead := some ⟨b.number, b.markAt u.cfg⟩ }
  have ht := hread.countFound.takeCorrection (markError u.cfg (b.markAt u.cfg) position)
  rw [Machine.markFound, h.cfg]
  dsimp only
  rw [closeWindows_resolved (by rw [ht.bt]; exact markTrack_resolves hu _ _)]
  exact ht

/-- A MISSED outcome of the first of two bands and a FOUND outcome of the second: the found run begins anew, so it acquires no lock. -/
theorem Becomes.markMissed_found {b r : Band} (ht : u.bt.track = [b, r]) (hb : b.c = none) (hr : r.c = none)
    (hn : b.number ≠ r.number) (he : u.mr.errors ≤ 65535) (position : Nat) :
    let e := markError u.cfg (r.markAt u.cfg) position
    Becomes { u with bt.track := [b.marked u.mr.ccur (some .markMissed), r.marked e none],
                     mr := { u.mr.countedMiss.countedError .mismatch u.cfg.counterSource with
                       found := 1, miss := 0, ccur := if u.mr.lock = .locked ∧ ¬u.mr.loses then e else u.mr.ccur,
                       lastRead := some ⟨r.number, r.markAt u.cfg⟩ } }
      (ns ++ (if u.mr.loses then [.lock] else []) ++ u.mr.errorNotes .mismatch u.cfg.counterSource)
      (Machine.markFound r position (Machine.markMissed b t)) := by
  intro e
  have hmarked : (b.marked u.mr.ccur (some .markMissed)).c ≠ none := by simp [marked_c]
  have hmiss := h.markMissed b he
  rw [ht, markTrack_first hb hn] at hmiss
  have hfound := hmiss.markFound (b := r) (by simp [marked_c]) position
  have hnot : ¬((u.mr.countedMiss.countedError .mismatch u.cfg.counterSource).acquires ∧ u.cfg.lockEdge = .both) :=
    fun hc => absurd hc.1.2 (by decide : ¬2 ≤ 0)
  dsimp only at hfound
  rw [markTrack_second hmarked hr, corrected_countedFound_of_miss, if_neg hnot, List.append_nil] at hfound
  exact hfound

theorem Becomes.expected : t.expected = u.expected := by rw [State.expected, h.bt]; rfl

theorem Becomes.halfWindow : t.halfWindow = u.halfWindow := by rw [State.halfWindow, h.mr, h.cfg]; rfl

end

/-- A state in which the track, the Mark Reader and the outputs alone have changed, as the statements frame it. -/
theorem Becomes.marksFrame {s t : State} {bs : List Band} {m : Marks} {ns : List Notice}
    (h : Becomes { s with out := [], bt.track := bs, mr := m } ns t) :
    Frame [.bt, .mr] ns s t ∧ SameTransfers s t ∧ t.bt = { s.bt with track := bs } ∧ t.mr = m :=
  ⟨h.after (frame_of_blocks (hbt := .inl (by simp)) (hmr := .inl (by simp))), ⟨h.writes, h.copies, h.ticketReads⟩, h.bt, h.mr⟩

/-! ## Which outcome a read comes to (07 R140) -/

theorem halfWindow_eq (s : State) : s.halfWindow = (if s.mr.lock = .search then 4 else 1) * (s.cfg.markWindow * 1000) := by
  unfold State.halfWindow Settings.h
  split
  · rfl
  · exact (one_mul _).symm

theorem markError_eq (cfg : Settings) (x position : Nat) : markError cfg x position =
    max (-((cfg.markWindow : Int) * 1000)) (min ((position : Int) - x) ((cfg.markWindow : Int) * 1000)) := by
  simp [markError, clampZ, Settings.h]

theorem expected_resolved {s : State} (h : ∀ b ∈ s.bt.track, b.c ≠ none) : s.expected = none :=
  List.find?_eq_none.2 fun b hb => by simpa using h b hb

theorem repeats_iff (s : State) (code : Byte) (ok : Bool) (position : Nat) : s.repeats code ok position = true ↔
    ok = true ∧ ∃ r ∈ s.mr.lastRead,
      code.toNat = r.number % 256 ∧ r.x ≤ position + s.halfWindow ∧ position ≤ r.x + s.halfWindow := by
  unfold State.repeats
  cases s.mr.lastRead with
  | none => simp
  | some r => simp [and_assoc]

section
variable {code : Byte} {ok : Bool} {position : Nat} {s : State}

theorem settleRead_resolved (h : s.expected = none) (n : Nat) : settleRead code ok position n s = markStray s := by
  cases n with
  | zero => rfl
  | succ n => rw [settleRead, h]

variable {b : Band} (h : s.expected = some b) (n : Nat)
include h

theorem settleRead_late (hlate : b.markAt s.cfg + s.halfWindow < position) :
    settleRead code ok position (n + 1) s = settleRead code ok position n (markMissed b s) := by
  rw [settleRead, h]
  exact if_pos hlate

theorem settleRead_early (hearly : position + s.halfWindow < b.markAt s.cfg) :
    settleRead code ok position (n + 1) s = markStray s := by
  rw [settleRead, h]
  dsimp only
  rw [if_neg (by omega), if_pos hearly]

theorem settleRead_inside (hlo : b.markAt s.cfg ≤ position + s.halfWindow) (hhi : position ≤ b.markAt s.cfg + s.halfWindow) :
    settleRead code ok position (n + 1) s = if s.repeats code ok position then markStray s
      else if ok ∧ code.toNat = b.number % 256 then markFound b position s else markMismatch b s := by
  rw [settleRead, h]
  dsimp only
  rw [if_neg (by omega), if_neg (by omega)]

end

section
variable {code : Byte} {ok : Bool} {position : Nat} {s : State}

/-- A read is a stray with every mark resolved, before the expected window, and inside it as a repeat. -/
theorem takeMark_stray (h : s.expected = none ∨ (∃ b ∈ s.expected, position + s.halfWindow < b.markAt s.cfg) ∨
    (s.repeats code ok position = true ∧
      ∃ b ∈ s.expected, b.markAt s.cfg ≤ position + s.halfWindow ∧ position ≤ b.markAt s.cfg + s.halfWindow)) :
    takeMark code ok position s = markStray s := by
  obtain hnone | ⟨b, hb, hearly⟩ | ⟨hrep, b, hb, hlo, hhi⟩ := h
  · exact settleRead_resolved hnone _
  · exact settleRead_early hb _ hearly
  · exact (settleRead_inside hb _ hlo hhi).trans (if_pos hrep)

variable {b : Band}

/-- A read past the window of the one unresolved band. -/
theorem takeMark_late (hb : s.expected = some b) (hu : ∀ r ∈ s.bt.track, r.c = none → r.number = b.number)
    (he : s.mr.errors ≤ 65535) (hlate : b.markAt s.cfg + s.halfWindow < position) :
    takeMark code ok position s = markStray (markMissed b s) := by
  have hmiss := (Becomes.refl s).markMissed b he
  exact (settleRead_late hb _ hlate).trans
    (settleRead_resolved (hmiss.expected.trans (expected_resolved (markTrack_resolves hu _ _))) _)

section
variable (hb : s.expected = some b) (hlo : b.markAt s.cfg ≤ position + s.halfWindow)
  (hhi : position ≤ b.markAt s.cfg + s.halfWindow) (hrep : ¬s.repeats code ok position = true)
include hb hlo hhi hrep

theorem settleRead_found (hcode : ok = true ∧ code.toNat = b.number % 256) (n : Nat) :
    settleRead code ok position (n + 1) s = markFound b position s := by
  rw [settleRead_inside hb n hlo hhi, if_neg hrep, if_pos hcode]

theorem settleRead_mismatch (hcode : ¬(ok = true ∧ code.toNat = b.number % 256)) (n : Nat) :
    settleRead code ok position (n + 1) s = markMismatch b s := by
  rw [settleRead_inside hb n hlo hhi, if_neg hrep, if_neg hcode]

end

/-- A missed mark leaves the width of the windows. -/
theorem halfWindow_markMissed (b : Band) (he : s.mr.errors ≤ 65535) : (markMissed b s).halfWindow = s.halfWindow := by
  rw [((Becomes.refl s).markMissed b he).halfWindow, halfWindow_eq, halfWindow_eq]
  exact congrArg (· * _) (if_congr (countedMiss_lock_search s.mr) rfl rfl)

theorem repeats_markMissed (b : Band) (he : s.mr.errors ≤ 65535) :
    (markMissed b s).repeats code ok position = s.repeats code ok position := by
  rw [State.repeats, halfWindow_markMissed b he, ((Becomes.refl s).markMissed b he).mr]
  rfl

/-- A read past the window of the first of two bands and inside that of the second, whose mark it is. -/
theorem takeMark_late_found {r : Band} (ht : s.bt.track = [b, r]) (hb : b.c = none) (hr : r.c = none) (hn : b.number ≠ r.number)
    (he : s.mr.errors ≤ 65535) (hlate : b.markAt s.cfg + s.halfWindow < position) (hlo : r.markAt s.cfg ≤ position + s.halfWindow)
    (hhi : position ≤ r.markAt s.cfg + s.halfWindow) (hrep : ¬s.repeats code ok position = true)
    (hcode : ok = true ∧ code.toNat = r.number % 256) :
    takeMark code ok position s = markFound r position (markMissed b s) := by
  have hmiss := (Becomes.refl s).markMissed b he
  have hexp : s.expected = some b := by simp [State.expected, ht, hb]
  have hnext : (markMissed b s).expected = some r := by
    rw [State.expected, hmiss.bt, ht]
    dsimp only
    rw [markTrack_first hb hn]
    simp [marked_c, hr]
  rw [takeMark, ht, settleRead_late hexp _ hlate]
  refine settleRead_found hnext ?_ ?_ ?_ hcode 1
  · rw [hmiss.cfg, halfWindow_markMissed b he]
    exact hlo
  · rw [hmiss.cfg, halfWindow_markMissed b he]
    exact hhi
  · rw [repeats_markMissed b he]
    exact hrep

end

/-! ## A window end that a paper pulse passes (07 R143) -/

section
variable {b : Band} {s : State} (ht : s.bt.track = [b])
include ht

theorem closeWindows_late (hc : b.c = none) (hlate : b.markAt s.cfg + s.halfWindow < s.paper) : closeWindows s = markMissed b s := by
  have hexp : s.expected = some b := by simp [State.expected, ht, hc]
  rw [closeWindows, ht, List.length_singleton, closeWindowsN, hexp]
  exact if_pos hlate

/-- A TRAVELLING band short of the nip has no position event (01 R9). -/
theorem trackEvents_short {c : Int} (hc : b.c = some c) (hs : b.state = .travelling) (hnip : (s.paper : Int) < b.nipAt s.cfg c) :
    trackEvents s = s := by
  rw [trackEvents_single ht, nipEvent_self ht hc (fun h => not_le.2 hnip h.2), exitEvent_self ht hc (by simp [hs]),
    patchEvent_self ht hc (by simp [hs]), trailEvent_self ht hc (by simp [hs])]

/-- With RE idle and no splice stored, a paper movement that passes the window end of the one band makes it MISSED and does nothing
else while the corrected midpoint is short of the nip. -/
theorem paperMoved_missed (hseg : s.re.seg = none) (hspl : s.bt.splices = []) (hc : b.c = none) (hs : b.state = .travelling)
    (he : s.mr.errors ≤ 65535) (hlate : b.markAt s.cfg + s.halfWindow < s.paper)
    (hnip : (s.paper : Int) < b.nipAt s.cfg s.mr.ccur) : paperMoved s = markMissed b s := by
  have hmiss := (Becomes.refl s).markMissed b he
  have hstate : (b.marked s.mr.ccur (some .markMissed)).state = .travelling := hs
  have htrack : (markMissed b s).bt.track = [b.marked s.mr.ccur (some .markMissed)] := by
    rw [hmiss.bt, ht]
    exact markTrack_single hc _ _
  have hshort : trackEvents (markMissed b s) = markMissed b s :=
    trackEvents_short htrack (marked_c _ _ _) hstate (by rw [State.paper, hmiss.bt, hmiss.cfg]; exact hnip)
  have hpos : positionEvents (markMissed b s) = markMissed b s := by
    rw [positionEvents, hmiss.bt, hspl]
    exact hshort
  rw [paperMoved, rowEvents_idle hseg, closeWindows_late ht hc hlate, hpos,
    startRetirement_eq_self (.inr (by simp [htrack, hstate]))]
  exact tryBandStart_idle (by rw [hmiss.re]; exact hseg)

end

/-! ## The guarded tests as commands (07 R145, 08 R162, R163) -/

theorem lockAcquired_acquires {s : State} (hl : s.mr.lock ≠ .locked) (hf : 3 ≤ s.mr.found) (hc : ∀ b ∈ s.bt.track, b.c ≠ none) :
    Becomes { s with mr := s.mr.enter .locked } (if s.cfg.lockEdge = .both then [.lock] else []) (lockAcquired s) := by
  have ht := lockAcquireTest_acquires hl hf
  have hrun : lockAcquired s = closeWindows (lockAcquireTest s) := if_pos ⟨hl, hf⟩
  rw [hrun, closeWindows_resolved (by rw [ht.bt]; exact hc)]
  exact ht

theorem driftSetTest_sets {s : State} (hd : s.cv.drift = false) (hf : 3 ≤ s.cv.failRun) :
    Becomes { s with cv.drift := true, cv.failRun := 0, cv.passRun := 0 } [.drift] (driftSetTest s) := by
  have ht : driftSetTest s = raise .drift { s with cv.drift := true, cv.failRun := 0, cv.passRun := 0 } := if_pos ⟨hd, hf⟩
  rw [ht]
  exact raise_becomes _ _

theorem driftClearTest_clears {s : State} (hd : s.cv.drift = true) (hp : 16 ≤ s.cv.passRun) :
    Becomes { s with cv.drift := false, cv.failRun := 0, cv.passRun := 0 } (if s.cfg.driftEdge = .both then [.drift] else [])
      (driftClearTest s) := by
  have ht : driftClearTest s = raiseIf (s.cfg.driftEdge == .both) .drift
      { s with cv.drift := false, cv.failRun := 0, cv.passRun := 0 } := if_pos ⟨hd, hp⟩
  rw [ht]
  simpa using raiseIf_becomes (s.cfg.driftEdge == .both) .drift { s with cv.drift := false, cv.failRun := 0, cv.passRun := 0 }

/-- A powered command whose test does not act clears the outputs and leaves the rest to the arbiter. -/
theorem command_stands {f : State → State} {s : State} (hp : s.pins.powerGood = true)
    (h : f { s with out := [] } = { s with out := [] }) :
    Becomes { s with out := [] } [] (command f s) := command_becomes hp (by rw [h]; exact Becomes.refl _)

end Sys2Proof.Machine
end

section
namespace Sys2Proof.Proofs

open Sys2Proof.Machine

/-- Settles O24: each clause names the outcome that its read or pulse comes to, and the outcome is one change of the Mark Reader and the
track. -/
theorem markReads : Obligations.MarkReads := by
  intro s hp he h wide x lose missed errs notes
  let q : State := { s with out := [] }
  have hq := Becomes.refl q
  have hwide : q.halfWindow = wide := halfWindow_eq q
  refine ⟨?_, fun l b hidle ht hc hstate hspl => ?_⟩
  · intro code ok position again
    have hrun : ∀ {u ns}, Becomes u ns (takeMark code ok position q) →
        Becomes u ns (command (takeMark code ok position) s) := command_becomes hp
    have hrep : q.repeats code ok position = true ↔ again := by
      rw [repeats_iff, hwide]
    refine ⟨fun hstray => ?_, fun b hb hu hlate => ?_, fun b r ht hb hr hn hlate hlo hhi hok hcode hnew => ?_,
      fun b hb hu hlo hhi hnew => ⟨fun hok hcode => ?_, fun hbad => ?_⟩⟩
    · have hread : takeMark code ok position q = markStray q :=
        takeMark_stray (by rw [hwide, hrep]; exact hstray.imp_left expected_resolved)
      exact ⟨_, rfl, hrun (by rw [hread]; exact hq.markStray he)⟩
    · have hread : takeMark code ok position q = markStray (markMissed b q) :=
        takeMark_late hb hu he (by rw [hwide]; exact hlate)
      have hout := hq.markMissed_stray b he
      rw [markTrack_unresolved (bs := s.bt.track) hu, ← hread] at hout
      exact ⟨_, rfl, (hrun hout).marksFrame⟩
    · have hread : takeMark code ok position q = markFound r position (markMissed b q) :=
        takeMark_late_found ht hb hr hn he (by rw [hwide]; exact hlate) (by rw [hwide]; exact hlo) (by rw [hwide]; exact hhi)
          (mt hrep.1 hnew) ⟨hok, hcode⟩
      have hout := hq.markMissed_found ht hb hr hn he position
      dsimp only at hout
      rw [← hread, markError_eq] at hout
      exact ⟨_, rfl, (hrun hout).marksFrame⟩
    · have hread : takeMark code ok position q = markFound b position q :=
        settleRead_found (s := q) hb (by rw [hwide]; exact hlo) (by rw [hwide]; exact hhi) (mt hrep.1 hnew) ⟨hok, hcode⟩ _
      have hout := hq.markFound (b := b) hu position
      rw [markTrack_unresolved (bs := s.bt.track) hu, corrected_countedFound, ← hread, markError_eq] at hout
      exact ⟨_, rfl, (hrun hout).marksFrame⟩
    · have hwrong : ¬(ok = true ∧ code.toNat = b.number % 256) := fun hc =>
        hbad.elim (fun hno => nomatch hno.symm.trans hc.1) (fun hne => hne hc.2)
      have hread : takeMark code ok position q = markMismatch b q :=
        settleRead_mismatch (s := q) hb (by rw [hwide]; exact hlo) (by rw [hwide]; exact hhi) (mt hrep.1 hnew) hwrong _
      have hout := hq.markMismatch b he
      rw [markTrack_unresolved (bs := s.bt.track) hu, ← hread] at hout
      exact ⟨_, rfl, (hrun hout).marksFrame⟩
  · intro pos hlate hnip
    let v : State := { sampleLines l s with
      out := [], dc.silence := encPut s.dc.silence .paper 0, bt.pos := { s.bt.pos with paper := pos } }
    obtain ⟨-, hseg, -, -⟩ := hidle
    have hmoved : paperMoved v = markMissed b v :=
      paperMoved_missed (s := v) ht hseg hspl hc hstate he (lt_of_eq_of_lt (congrArg _ hwide) hlate)
        (lt_of_lt_of_eq hnip (nipAt_eq _ _ _).symm)
    have hout := (Becomes.refl v).markMissed b he
    rw [show v.bt.track = [b] from ht, markTrack_single hc, ← hmoved] at hout
    exact ⟨_, rfl, commandAt_becomes hp hout⟩

/-- Settles O25: each command is its guarded test, which sets the lock or drift with both runs 0 and raises by the edge mode. -/
theorem lockAndDriftChanges : Obligations.LockAndDriftChanges := by
  intro s hp
  refine ⟨fun hl hf hc => ⟨_, rfl, command_becomes hp (lockAcquired_acquires (s := { s with out := [] }) hl hf.ge hc)⟩,
    fun h => ⟨_, rfl, command_stands hp (if_neg ?_)⟩,
    fun hl hm => ⟨_, rfl, command_becomes hp (lockLoseTest_loses (s := { s with out := [] }) hl hm.ge)⟩,
    fun h => ⟨_, rfl, command_stands hp (if_neg ?_)⟩,
    fun hd hf => ⟨_, rfl, command_becomes hp (driftSetTest_sets (s := { s with out := [] }) hd hf.ge)⟩,
    fun h => ⟨_, rfl, command_stands hp (if_neg ?_)⟩,
    fun hd hr => ⟨_, rfl, command_becomes hp (driftClearTest_clears (s := { s with out := [] }) hd hr.ge)⟩,
    fun h => ⟨_, rfl, command_stands hp (if_neg ?_)⟩⟩
  · rintro ⟨hl, hf⟩
    exact h.elim hl (Nat.not_lt.2 hf)
  · rintro ⟨hl, hm⟩
    exact h.elim (fun hn => hn hl) (Nat.not_lt.2 hm)
  · rintro ⟨hd, hf⟩
    exact h.elim (fun hn => nomatch hn.symm.trans hd) (Nat.not_lt.2 hf)
  · rintro ⟨hd, hr⟩
    exact h.elim (fun hn => nomatch hn.symm.trans hd) (Nat.not_lt.2 hr)

end Sys2Proof.Proofs
end
